-- ==== Sys2Proof/Word.lean ====
section
/-! DEFINITION. The octet and the sixteen-bit word of the LY-24's serial lines, and nothing else. -/

namespace Sys2Proof

/-- One octet of the yard line, of the reader loop or of the configuration memory (section 11.1). -/
abbrev Byte := BitVec 8

/-- A sixteen-bit check word (the CRC of R177). -/
abbrev Word16 := BitVec 16

end Sys2Proof
end

