-- ==== Sys2Proof/Config.lean ====
section
/-! DEFINITION. The fixed numbers of the LY-24 (00_scope.md, section 8, and the rules named beside each).
The values a depot chooses are no constants: they come from the configuration memory (R184) and live in State. -/

namespace Sys2Proof.Config

/-- Destination of a frame for every station (R170). -/
def broadcast : Nat := 15

/-- The office station's address (section 8). -/
def officeStation : Nat := 0

/-- Capacity of the outbound list (R21). -/
def outboundCapacity : Nat := 8

/-- Capacity of the bid list (R30). -/
def bidCapacity : Nat := 4

/-- Capacity of a lane's entry list (R47). -/
def laneCapacity : Nat := 16

/-- Capacity of a service queue, the entry in service included (R86, R111). -/
def queueCapacity : Nat := 8

/-- Capacity of the transmit queue (R170). -/
def transmitCapacity : Nat := 16

/-- Capacity of the report queue (R187). -/
def reportCapacity : Nat := 8

/-- The departure of a bus that has no run (R11). -/
def spareDeparture : Nat := 1499

/-- Greatest count of litres a record carries (R18). -/
def litresCap : Nat := 999

/-- Greatest pulse count of one minute interval (R98). -/
def minutePulseCap : Nat := 65535

/-- Seconds for which the repeat filter turns a bus's further reports away (R155). -/
def repeatSeconds : Nat := 20

/-- Minutes from the start of a fuel service to its nozzle deadline (R97). -/
def nozzleMinutes : Nat := 10

/-- Dry qualifying minutes that make a flow fault (R106). -/
def dryLimit : Nat := 3

/-- The penalty of a wash bid that can offer only a rinse for a full wash (R117). -/
def rinsePenalty : Nat := 60

/-- Character times after which an idle deferral round begins again (R171). -/
def deferralRound : Nat := 48

/-- Length in octets of the configuration memory (R183). -/
def memoryOctets : Nat := 128

/-- Longest payload of a frame (R175). -/
def payloadCap : Nat := 40

end Sys2Proof.Config
end

