-- ==== Sys2Proof/Syntax.lean ====
section
/-! DEFINITION. The commands of the LY-24: one constructor of `Instr` per row of the table of steps, with the
operands each step takes from outside the block (a frame's octets, a pin, an offer tag, a bus number). -/

namespace Sys2Proof

/-- The two service points of a node (section 7 of the scope). -/
inductive PointId where
  | p0
  | p1
deriving DecidableEq, Repr

/-- The other service point. -/
def PointId.other : PointId → PointId
  | .p0 => .p1
  | .p1 => .p0

/-- The thirteen detector pins (sections 8.3 and 11.10). Machine input A is the nozzle of a fuel point and DONE of
a washing lane; machine input B is FAULT of a washing lane and unused at a fuel point. -/
inductive Pin where
  | laneClear (n : Fin 6)
  | occupied (p : PointId)
  | machineA (p : PointId)
  | machineB (p : PointId)
  | maintenanceKey
deriving DecidableEq, Repr

/-- An offer tag: the holder's address and the offer number (R24). -/
structure Tag where
  holder : Nat
  number : Nat
deriving DecidableEq, Repr

/-- A frame of another station as the receiver has assembled it from the line, after the start octet 0xC3
(R175, section 11.2). The length octet is the count of the payload octets. -/
structure RxFrame where
  kindOctet : Byte
  addressOctet : Byte
  payload : List Byte
  crc : Word16
deriving DecidableEq, Repr

/-- The octets 1 to 7 of a tag report that began with the start octet 0x5A (section 11.7). -/
structure TagOctets where
  reader : Byte
  busHigh : Byte
  busLow : Byte
  busClass : Byte
  fuel : Byte
  wash : Byte
  check : Byte
deriving DecidableEq, Repr

/-- The blocks that act on a minute event (R2). R187 leaves the order among them open, so a command that raises a
minute event carries one (log entry 3). -/
inductive Owner where
  | timeline
  | handover
  | point (p : PointId)
  | lanes
  | pullOut
deriving DecidableEq, Repr

/-- The octet at which the yard-line receiver gives a frame up (R175, R176). -/
inductive Rejected where
  | start (o : Byte)
  | kind (o : Byte)
  | length (o : Byte)
deriving DecidableEq, Repr

/-- The steps of the LY-24, in the table's order. -/
inductive Instr where
  /-- POWER_ON (R181). -/
  | powerOn
  /-- RESET_ASSERT (R181). -/
  | resetAssert
  /-- CONFIG_READ_END (R183): the strap levels and the memory's octets, `none` for one it did not answer for. -/
  | configReadEnd (strap : BitVec 4) (octets : List (Option Byte))
  /-- MINUTE_EVENT (R2), with the order in which the blocks take it. -/
  | minuteEvent (order : List Owner)
  /-- DUTY_WAIT_EXPIRY (R16): the minute event as it reaches the records and copies of one bus. -/
  | dutyWaitExpiry (bus : Nat)
  /-- EXPECTED_TIMEOUT (R56, R92, R118): the minute event as it reaches the EXPECTED entries of one bus. -/
  | expectedTimeout (bus : Nat)
  /-- RECORD_DEADLINE (R42): the minute event as it reaches the RECORD awaited marks of one bus. -/
  | recordDeadline (bus : Nat)
  /-- OFFER_START (R23). -/
  | offerStart
  /-- JOIN_RETRY (R102, R119, R122): the minute event as it reaches the FINISHED entries of one point. -/
  | joinRetry (p : PointId)
  /-- CALL_TIME_DUE (R131): the minute event as it reaches the lanes' call times. -/
  | callTimeDue
  /-- RUN_LATE (R139): the minute event as it reaches the record of one bus. -/
  | runLate (bus : Nat)
  /-- NOZZLE_TIMEOUT (R100). -/
  | nozzleTimeout (p : PointId)
  /-- FLOW_FAULT (R106). -/
  | flowFault (p : PointId)
  /-- DONE_TIMEOUT (R125, R127). -/
  | doneTimeout (p : PointId)
  /-- TIME (R5, R6), with the order in which the blocks take the minute event it raises. -/
  | time (f : RxFrame) (order : List Owner)
  /-- DUTY (R12). -/
  | duty (f : RxFrame)
  /-- PLAN (R75). -/
  | plan (f : RxFrame)
  /-- CONTROL OPEN_LANE (R68, R108, R128). -/
  | openLane (f : RxFrame)
  /-- CONTROL CLOSE_LANE (R67, R108, R128). -/
  | closeLane (f : RxFrame)
  /-- CONTROL CLEAR_POINT (R107, R128). -/
  | clearPoint (f : RxFrame)
  /-- CONTROL RESTART (R182). -/
  | restart (f : RxFrame)
  /-- POLL (R189). -/
  | poll (f : RxFrame)
  /-- OFFER of another station (R30). -/
  | offer (f : RxFrame)
  /-- BID of another station (R33). -/
  | bid (f : RxFrame)
  /-- TAKE of another station (R26, R34, R146). -/
  | take (f : RxFrame)
  /-- STRAY of another station (R39). -/
  | stray (f : RxFrame)
  /-- RECORD of another station (R42). -/
  | record (f : RxFrame)
  /-- ARRIVE, CALL, GONE or REPORT of another station (R178), and a frame of kind 14 or 15 (R177). -/
  | otherFrame (f : RxFrame)
  /-- BID_WINDOW_END (R33) of the offer named. -/
  | bidWindowEnd (tag : Tag)
  /-- OFFER_WINDOW_END (R25) of the node's own offer. -/
  | offerWindowEnd
  /-- TAKE_WAIT_END (R25) of the node's own offer. -/
  | takeWaitEnd
  /-- TAKE_MARK_END (R146): the end of the take wait of another node's offer. -/
  | takeMarkEnd (tag : Tag)
  /-- TAG_REPORT (R153), with the second of the node's oscillator at which the report ends (R155). -/
  | tagReport (t : TagOctets) (now : Nat)
  /-- TAG_REPORT_TIMEOUT (R153). -/
  | tagReportTimeout
  /-- LOOP_FRAMING_ERROR (R153). -/
  | loopFramingError
  /-- DETECTOR_LEVEL_CHANGE (R160). -/
  | detectorLevelChange (pin : Pin) (level : Bool)
  /-- DEBOUNCE_COMPLETE (R160). -/
  | debounceComplete (pin : Pin)
  /-- FLOW_PULSE (R98, R163). -/
  | flowPulse (p : PointId)
  /-- CHARACTER_BEGIN (R169). -/
  | characterBegin
  /-- LINE_QUIET (R169). -/
  | lineQuiet
  /-- LINE_JAM (R169). -/
  | lineJam
  /-- DEFERRAL_ROUND_END (R171). -/
  | deferralRoundEnd
  /-- TRANSMIT_START (R171): the deferral count whose character time begins. -/
  | transmitStart (count : Nat)
  /-- FRAME_HEARD (R173). -/
  | frameHeard
  /-- READBACK_MISMATCH (R173, R174). -/
  | readbackMismatch
  /-- RX_FRAMING_ERROR (R175). -/
  | rxFramingError
  /-- DISPLAY_TRANSFER_END (R194). -/
  | displayTransferEnd
  /-- RX_OCTET_REJECTED (R175). -/
  | rxOctetRejected (r : Rejected)
deriving DecidableEq, Repr

end Sys2Proof
end

