-- ==== Sys2Proof/Decode.lean ====
section
/-! DEFINITION. The commands that a word of the table's bits spells. The table of steps gives bits to none of its 48 rows, so
no word spells a command (log entry 4). -/

namespace Sys2Proof

/-- The rows of the table that give bits, each with the count of its bits and the command a word of them spells. There
are none. -/
def rowsWithBits : List (Nat × (Nat → Option Instr)) := []

/-- The command that a word of `nbits` bits spells. -/
def decodeTableWord (nbits w : Nat) : Option Instr :=
  (rowsWithBits.find? (fun r => r.1 = nbits)).bind (fun r => r.2 w)

end Sys2Proof
end

