-- ==== Sys2Proof/Machine/State.lean ====
section
/-! DEFINITION. The state of one LY-24, block by block, as plain data, and the state after power-on. -/

namespace Sys2Proof.Machine

open Sys2Proof

/-! ## The visit record (R11, R18) -/

/-- duty_state (R11). -/
inductive DutyState where
  | awaited
  | bound
  | spare
deriving DecidableEq, Repr

/-- wash_request (R18). -/
inductive WashRequest where
  | none
  | rinse
  | full
deriving DecidableEq, Repr

/-- next_stage (R18). -/
inductive NextStage where
  | fuel
  | wash
  | berth
  | parked
deriving DecidableEq, Repr

/-- fuel_outcome when it is not absent (R18); `part` is PARTIAL. -/
inductive FuelOutcome where
  | notWanted
  | done
  | part
  | skipped
deriving DecidableEq, Repr

/-- wash_outcome when it is not absent (R18). -/
inductive WashOutcome where
  | notWanted
  | full
  | rinse
  | short
  | skipped
deriving DecidableEq, Repr

/-- The duty fields of a visit record (R11). `wall` is departure_wall. -/
structure Duty where
  state : DutyState
  run : Nat
  wall : Option Nat
  departure : Nat
  pinned : Bool
  substituted : Bool
deriving DecidableEq, Repr

/-- A visit record (R18). `cls` is its class, `next` its next_stage. -/
structure VisitRecord where
  bus : Nat
  cls : Nat
  fuelLevel : Nat
  washRequest : WashRequest
  gateMinute : Nat
  next : NextStage
  duty : Duty
  fuelOutcome : Option FuelOutcome
  litres : Nat
  washOutcome : Option WashOutcome
  stray : Bool
deriving DecidableEq, Repr

/-! ## Handover (R21 to R34) -/

/-- The stage of an offer (R23). -/
inductive Stage where
  | fuel
  | wash
  | berth
  | swap
deriving DecidableEq, Repr

/-- A lane or a service point, as frames name it (section 11.2). -/
inductive Resource where
  | lane (n : Nat)
  | point (p : PointId)
deriving DecidableEq, Repr

/-- The guidance output that shows an outbound item's destination (R21). -/
inductive GuidePlace where
  | gate
  | point (p : PointId)
deriving DecidableEq, Repr

/-- A swap request (R140). `wall` is the blocked bus's departure_wall. -/
structure SwapRequest where
  run : Nat
  cls : Nat
  wall : Option Nat
  departure : Nat
  need : Nat
deriving DecidableEq, Repr

/-- What an outbound item carries (R21). -/
inductive Cargo where
  | visit (r : VisitRecord)
  | swap (q : SwapRequest)
deriving DecidableEq, Repr

/-- What names an outbound item: the list holds no bus twice and no run twice among its requests (R21). -/
inductive ItemKey where
  | bus (b : Nat)
  | swapRun (r : Nat)
deriving DecidableEq, Repr

/-- An item of the outbound list (R21). Its stage is computed from its cargo. -/
structure OutItem where
  cargo : Cargo
  ready : Nat
  joinOrder : Nat
  offerCount : Nat
  lastNumber : Nat
  place : Option GuidePlace
deriving DecidableEq, Repr

/-- The lane head offered in exchange by a SWAP bid or take (R145): bus, run (0 for a spare), departure_wall and
departure. -/
structure HeadFields where
  bus : Nat
  run : Nat
  wall : Option Nat
  departure : Nat
deriving DecidableEq, Repr

/-- A TAKE the holder has heard for its open offer (R26). -/
structure HeardTake where
  source : Nat
  value : Nat
  bus : Nat
  resource : Resource
  head : Option HeadFields
deriving DecidableEq, Repr

/-- The states of the holder's open offer; NONE is the absence of one (section 2.3). -/
inductive OfferPhase where
  | queued
  | bidding
  | takeWait
  | reofferQueued
deriving DecidableEq, Repr

/-- The node's own open offer (R25). `countBefore` is the item's offer count before the OFFER was queued,
`reNumber` the number of the re-offer that waits in the transmit queue (0: none waits there). -/
structure OpenOffer where
  number : Nat
  phase : OfferPhase
  key : ItemKey
  countBefore : Nat
  reNumber : Nat
  takes : List HeardTake
deriving DecidableEq, Repr

/-- The states of a bid entry (R31). -/
inductive BidState where
  | computed
  | sent
  | taken
deriving DecidableEq, Repr

/-- A bid entry (R31). `heard` holds value and source of the BIDs heard in the window (R33); `asked` is the request
of a SWAP OFFER (R146); `waitOver` says that the offer's take wait has ended (R146); `noBinding` that a rollover has
passed since a SWAP bid was made (R152). -/
structure BidEntry where
  tag : Tag
  bus : Nat
  stage : Stage
  copy : Option VisitRecord
  resource : Resource
  value : Nat
  head : Option HeadFields
  asked : Option SwapRequest
  state : BidState
  heard : List (Nat × Nat)
  waitOver : Bool
  noBinding : Bool
deriving DecidableEq, Repr

/-- The Handover Controller (chapter 2). `joins` is the count behind the join orders (R21), `counter` the next offer
number (R24). -/
structure Handover where
  outbound : List OutItem
  joins : Nat
  offer : Option OpenOffer
  counter : Nat
  bids : List BidEntry
deriving DecidableEq, Repr

/-! ## Lanes (R46 to R48) and the Pull-Out Controller's fields of their entries (section 7.1) -/

/-- The states of a lane (R46). -/
inductive LaneState where
  | unknown
  | opened
  | closed
deriving DecidableEq, Repr

/-- The states of a lane entry (R48). -/
inductive LaneEntryState where
  | tentative
  | expected
  | parked
  | called
deriving DecidableEq, Repr

/-- The ask state of a lane entry (R130). -/
inductive AskState where
  | none
  | asking
  | refused
deriving DecidableEq, Repr

/-- A take mark (R146): the offer tag, the taken run with its departure_wall and departure, the bid value. -/
structure TakeMark where
  tag : Tag
  run : Nat
  wall : Option Nat
  departure : Nat
  value : Nat
deriving DecidableEq, Repr

/-- A lane entry (R48, section 7.1). -/
structure LaneEntry where
  visit : VisitRecord
  state : LaneEntryState
  tag : Option Tag
  value : Option Nat
  deadline : Option Nat
  unconfirmed : Bool
  recordAwaited : Option Nat
  ask : AskState
  mark : Option TakeMark
deriving DecidableEq, Repr

/-- A lane (R46, R47, R49): its entries stand head first. Its length is the configuration's. -/
structure Lane where
  state : LaneState
  entries : List LaneEntry
  overfull : Bool
deriving DecidableEq, Repr

/-! ## Service points (R85, R86, R110) and their timelines (R74) -/

/-- The kind of a service point (R184). -/
inductive PointKind where
  | none
  | fuel
  | wash
deriving DecidableEq, Repr

/-- The states of a queue entry (R86, R111). -/
inductive QueueEntryState where
  | tentative
  | expected
  | waiting
  | serving
  | finished
deriving DecidableEq, Repr

/-- A service queue entry (R86). `justServed` marks the FINISHED entry of the service that CLEARING follows, which has
to leave the queue before CLEARING ends (R103, R123; log entry 30). `passedOn` marks a FINISHED entry that a washing lane in
FAULT passed on, which waits for its RECORD before it asks to join (R119, R124, R126; log entry 16). -/
structure QueueEntry where
  visit : VisitRecord
  state : QueueEntryState
  tag : Option Tag
  value : Option Nat
  deadline : Option Nat
  recordAwaited : Option Nat
  justServed : Bool
  passedOn : Bool
deriving DecidableEq, Repr

/-- The states of a point: `busy` is SERVING at a fuel point (R85) and CYCLING at a washing lane (R110). -/
inductive PointState where
  | idle
  | busy
  | clearing
  | fault
deriving DecidableEq, Repr

/-- The service record of a fuel point (R85, R97). -/
structure Service where
  start : Nat
  needed : Nat
  cap : Nat
  duration : Nat
  lifted : Bool
  deadline : Nat
deriving DecidableEq, Repr

/-- A wash cycle's type (R114). -/
inductive CycleType where
  | full
  | rinse
deriving DecidableEq, Repr

/-- The cycle record of a washing lane (R110, R120). -/
structure Cycle where
  type : CycleType
  place : Nat
  start : Nat
  nominal : Nat
  deadline : Nat
  advance : Bool
deriving DecidableEq, Repr

/-- The start outputs of a washing lane, of which at most one is on (R110). -/
inductive StartOutput where
  | off
  | full
  | rinse
deriving DecidableEq, Repr

/-- A service point. The first fields belong to both kinds; `served` and `left` are the bus whose leaving ends
CLEARING and whether it has left (R103, R123); the fuel fields follow R85, the wash fields R110. A stencil place is
`true` for FULL-ALLOWED. -/
structure Point where
  state : PointState
  closed : Bool
  queue : List QueueEntry
  served : Option Nat
  left : Bool
  faultPending : Bool
  rate : Nat
  service : Option Service
  servicePulses : Nat
  delivered : Nat
  minutePulses : Nat
  qualifies : Bool
  dryMinutes : Nat
  enable : Bool
  stencil : Vector Bool 12
  pointer : Nat
  staged : Option (Vector Bool 12)
  cycle : Option Cycle
  startOutput : StartOutput
deriving DecidableEq, Repr

/-- The state of a timeline slot, least restrictive first (R74). -/
inductive SlotState where
  | opened
  | reduced
  | shut
deriving DecidableEq, Repr

/-- The live table and the staged plan of one point (R74); `none` is no change. -/
structure SlotTable where
  live : Vector SlotState 50
  staged : Vector (Option SlotState) 50
deriving DecidableEq, Repr

/-- The Service Timeline (R74): the begun slot is the same for both points. -/
structure Timeline where
  begun : Option Nat
  table0 : SlotTable
  table1 : SlotTable
deriving DecidableEq, Repr

/-! ## Yard Clock (section 1.1) -/

/-- The shift S: −60, 0 or +60 minutes (section 1.1). -/
inductive Shift where
  | back
  | none
  | forward
deriving DecidableEq, Repr

/-- The Yard Clock (section 1.1): yard minute, shift, change minute, clock-set flag, and whether the minute interval
runs. The day length is computed from the shift, of which it is always 1440 − S. -/
structure Clock where
  m : Nat
  shift : Shift
  change : Nat
  isSet : Bool
  running : Bool
deriving DecidableEq, Repr

/-! ## Configuration image (R184, section 11.9), reports (R187, R188) and the Configuration Loader -/

/-- The configured values of one service point (section 11.9). -/
structure PointImage where
  kind : PointKind
  handling : Nat
  defaultRate : Nat
  pulsesPerLitre : Nat
  fullCycle : Nat
  rinseCycle : Nat
  stencil : Vector Bool 12
deriving DecidableEq, Repr

/-- The clamped image (R184). -/
structure Image where
  gateReader : Bool
  threshold : Nat
  openCost : Nat
  callLead : Nat
  margin : Nat
  dutyWait : Nat
  expectedTimeout : Nat
  strandedRetry : Nat
  debounce : Nat
  classLength : Vector Nat 8
  classTank : Vector Nat 8
  laneCount : Nat
  laneLength : Vector Nat 6
  point0 : PointImage
  point1 : PointImage
deriving DecidableEq, Repr

/-- The node states (R181). -/
inductive NodeState where
  | configuring
  | configFault
  | waitingTime
  | inService
deriving DecidableEq, Repr

/-- Why a run is BLOCKED (R141, R149). -/
inductive BlockedCause where
  | pinned
  | noSwap
deriving DecidableEq, Repr

/-- What ended a wash cycle with a fault (R125). -/
inductive WashFaultCause where
  | timeout
  | input
deriving DecidableEq, Repr

/-- What raised a LINE_CONFLICT (R174, R177). -/
inductive ConflictCause where
  | readback
  | source
deriving DecidableEq, Repr

/-- The flag of a STRAY report (section 11.5). -/
inductive StrayFlag where
  | notAwaited
  | awaited
  | notListed
deriving DecidableEq, Repr

/-- Where a late run's record stands (R139). -/
inductive RunPlace where
  | at (r : Resource)
  | outboundList
deriving DecidableEq, Repr

/-- One lane's items of the SUMMARY (R190). -/
structure LaneSummary where
  state : LaneState
  overfull : Bool
  entries : Nat
  occupied : Nat
  unconfirmed : Nat
deriving DecidableEq, Repr

/-- One point's items of the SUMMARY (R190). `mark` is fault pending at a fuel point and staged stencil present at a
washing lane; `gauge` the rate estimate or the stencil pointer. -/
structure PointSummary where
  kind : PointKind
  state : PointState
  closed : Bool
  mark : Bool
  queue : Nat
  gauge : Nat
deriving DecidableEq, Repr

/-- The items of a SUMMARY, as they stood when it was built (R190). -/
structure Summary where
  inService : Bool
  clockSet : Bool
  m : Nat
  shift : Shift
  change : Nat
  lanes : List LaneSummary
  point0 : PointSummary
  point1 : PointSummary
  outbound : Nat
  bids : Nat
  conflict : Bool
  pins : List Bool
deriving DecidableEq, Repr

/-- The subcode of a report with the fields its owner gives (R188). -/
inductive ReportBody where
  | gateFull (bus cls : Nat)
  | noClock (bus reader : Nat)
  | stranded (bus cls departure : Nat)
  | missing (bus : Nat) (place : Resource) (tag : Option Tag)
  | stray (bus : Nat) (place : Resource) (flag : StrayFlag)
  | overfull (lane bus occupied length : Nat) (notListed : Bool)
  | blocked (bus run lane departure : Nat) (cause : BlockedCause)
  | late (bus run departure : Nat) (place : RunPlace) (called : Bool)
  | fuelFault (bus : Nat) (p : PointId) (litres needed : Nat)
  | washFault (bus : Nat) (p : PointId) (type : CycleType) (place : Nat) (cause : WashFaultCause)
  | timeAdjusted (bus run wall minute : Nat)
  | lineConflict (kind destination : Nat) (cause : ConflictCause)
  | summary (s : Summary)
deriving DecidableEq, Repr

/-- A report in the report queue (R187). -/
structure Report where
  sequence : Nat
  minute : Nat
  body : ReportBody
deriving DecidableEq, Repr

/-- The Configuration Loader (chapter 10): node state, whether the reset pin is held, station address, clamped image,
report queue, the next report's sequence number, and whether the head report waits for the next quiet (R188). -/
structure Loader where
  node : NodeState
  resetHeld : Bool
  address : Nat
  image : Image
  reports : List Report
  nextSequence : Nat
  retryAtQuiet : Bool
deriving DecidableEq, Repr

/-! ## Field Interface (chapter 8) -/

/-- The indication of a lane lamp output: R136's four and the wink of R186. -/
inductive Lamp where
  | dark
  | call
  | blocked
  | closed
  | wink
deriving DecidableEq, Repr

/-- A guidance code (R166). -/
inductive Guide where
  | destination (address : Nat) (r : Resource)
  | hold
  | blank
deriving DecidableEq, Repr

/-- A guidance output: its code and the bus it was set for (R166). -/
structure GuideOutput where
  code : Guide
  bus : Option Nat
deriving DecidableEq, Repr

/-- The three codes of one display transfer (R194). -/
structure GuideCodes where
  gate : Guide
  point0 : Guide
  point1 : Guide
deriving DecidableEq, Repr

/-- A detector input: live level, debounced level, debounce timer running (R160). -/
structure Detector where
  live : Bool
  debounced : Bool
  timer : Bool
deriving DecidableEq, Repr

/-- An entry of the repeat filter: the bus last accepted and the second of its acceptance (R155). -/
structure FilterEntry where
  bus : Nat
  time : Nat
deriving DecidableEq, Repr

/-- The Field Interface (R168, R194). `loopPartial` holds the octets of the report being assembled on the reader
loop, `transfer` the codes of the display transfer that runs, `again` whether a code was set while it ran, `shown`
the codes the displays have latched. -/
structure Field where
  loopPartial : List Byte
  filter : Vector (Option FilterEntry) 17
  detectors : Vector Detector 13
  lamps : Vector Lamp 6
  gate : GuideOutput
  point0 : GuideOutput
  point1 : GuideOutput
  transfer : Option GuideCodes
  again : Bool
  shown : GuideCodes
deriving DecidableEq, Repr

/-! ## Line Interface (chapter 9) -/

/-- The contents of a frame the node places (section 11.3). -/
inductive FrameBody where
  | arrive (bus cls fuel : Nat) (wash : WashRequest) (gateMinute : Nat)
  | offer (number supersedes : Nat) (cargo : Cargo)
  | bid (tag : Tag) (bus value : Nat) (head : Option HeadFields)
  | take (tag : Tag) (bus value : Nat) (resource : Resource) (head : Option HeadFields)
  | stray (bus : Nat) (place : Resource)
  | record (r : VisitRecord)
  | call (run bus lane departure : Nat) (substituted : Bool)
  | gone (r : VisitRecord) (lane exitMinute : Nat) (late early unlisted : Bool)
  | report (r : Report)
deriving DecidableEq, Repr

/-- A frame of the transmit queue (R170). Its kind and class are computed from its body. -/
structure TxFrame where
  body : FrameBody
  destination : Nat
  order : Nat
  mismatches : Nat
  sending : Bool
deriving DecidableEq, Repr

/-- The line states (R169). -/
inductive LinePhase where
  | quiet
  | busy
  | jammed
deriving DecidableEq, Repr

/-- What the receiver does: it waits for a start octet, assembles a frame, or ignores the line until the next quiet
(R175). -/
inductive RxPhase where
  | waiting
  | assembling
  | ignoring
deriving DecidableEq, Repr

/-- The Line Interface (chapter 9). `deferral` is the first count of the round that has not begun yet (R171; log
entry 36), `nextOrder` the entry order of the
next frame, `muted` the frame that completes on the line after a soft restart (R180), `sent` the octets of the frame
now being sent. -/
structure Line where
  phase : LinePhase
  deferral : Option Nat
  transmit : List TxFrame
  nextOrder : Nat
  receiver : RxPhase
  conflict : Bool
  muted : Option TxFrame
  sent : List Byte
deriving DecidableEq, Repr

/-! ## The node -/

/-- The whole node, and the queue of the commands that wait for it. -/
structure State where
  pending : List Instr
  loader : Loader
  clock : Clock
  hand : Handover
  lanes : List Lane
  point0 : Point
  point1 : Point
  timeline : Timeline
  lateRuns : List Nat
  field : Field
  line : Line
deriving DecidableEq, Repr

/-- Why the machine could stop with a fault. The LY-24 has no such stop: the manual gives every step an effect or no
effect in every state, so this type has no constructor and no step faults (safe). -/
inductive Fault where
deriving DecidableEq, Repr

/-- Why a command could be refused. -/
inductive Refusal where
  /-- Raised by `exec` alone, for a row of the table that has no meaning yet; no arm does. Safe: nothing is claimed. -/
  | notModelled (mnemonic : String)
deriving DecidableEq, Repr

/-! ## Power-on values -/

/-- The configured values of a point as the memory is supplied (section 11.9). -/
def PointImage.supplied : PointImage :=
  { kind := .none, handling := 3, defaultRate := 40, pulsesPerLitre := 100, fullCycle := 8, rinseCycle := 3,
    stencil := Vector.replicate 12 true }

/-- The image as the memory is supplied (section 11.9). DESIGN CHOICE (log entry 1): the image held before the
memory has been read; no rule reads it then. -/
def Image.supplied : Image :=
  { gateReader := true, threshold := 85, openCost := 90, callLead := 10, margin := 30, dutyWait := 5,
    expectedTimeout := 20, strandedRetry := 5, debounce := 10,
    classLength := #v[8, 9, 12, 12, 15, 18, 18, 25],
    classTank := #v[100, 150, 300, 250, 350, 400, 450, 600],
    laneCount := 0, laneLength := Vector.replicate 6 20,
    point0 := PointImage.supplied, point1 := PointImage.supplied }

/-- A service point after power-on, with its configured values in force (R85, R110). -/
def Point.powerOn (c : PointImage) : Point :=
  { state := .idle, closed := false, queue := [], served := none, left := false, faultPending := false,
    rate := c.defaultRate, service := none, servicePulses := 0, delivered := 0, minutePulses := 0,
    qualifies := false, dryMinutes := 0, enable := false, stencil := c.stencil, pointer := 0, staged := none,
    cycle := none, startOutput := .off }

/-- A slot table after power-on (R74). -/
def SlotTable.powerOn : SlotTable :=
  { live := Vector.replicate 50 .opened, staged := Vector.replicate 50 none }

/-- Three blank codes (R166). -/
def GuideCodes.blank : GuideCodes := { gate := .blank, point0 := .blank, point1 := .blank }

/-- A guidance output that shows blank, for no bus (R166). -/
def GuideOutput.blank : GuideOutput := { code := .blank, bus := none }

/-- A lane after power-on (R73). -/
def Lane.powerOn : Lane := { state := .unknown, entries := [], overfull := false }

/-- The machine right after power-on or the release of the reset pin (R1, R43, R73, R84, R109, R129, R150, R168, R179,
R181, R191, R194): CONFIGURING, with the transfer of three blank codes running. No lane is configured yet. -/
def State.reset : State :=
  { pending := []
    loader := { node := .configuring, resetHeld := false, address := 0, image := Image.supplied, reports := [],
                nextSequence := 0, retryAtQuiet := false }
    clock := { m := 0, shift := .none, change := 840, isSet := false, running := false }
    hand := { outbound := [], joins := 0, offer := none, counter := 1, bids := [] }
    lanes := []
    point0 := Point.powerOn PointImage.supplied
    point1 := Point.powerOn PointImage.supplied
    timeline := { begun := none, table0 := SlotTable.powerOn, table1 := SlotTable.powerOn }
    lateRuns := []
    field := { loopPartial := [], filter := Vector.replicate 17 none,
               detectors := Vector.replicate 13 { live := false, debounced := false, timer := false },
               lamps := Vector.replicate 6 .dark, gate := GuideOutput.blank, point0 := GuideOutput.blank,
               point1 := GuideOutput.blank, transfer := some GuideCodes.blank, again := false,
               shown := GuideCodes.blank }
    line := { phase := .quiet, deferral := some 0, transmit := [], nextOrder := 0, receiver := .waiting,
              conflict := false, muted := none, sent := [] } }

end Sys2Proof.Machine
end

