-- ==== Sys2Proof/Machine/Wire.lean ====
section
/-! DEFINITION. Octets on the serial lines: frame kinds and their check bits (R176), the CRC-16 (R177), the CRC-8 of
the tag report (section 11.7), numbers of several octets and bit fields (section 11.1). -/

namespace Sys2Proof.Machine

open Sys2Proof

/-- The fourteen frame kinds (section 9 of the scope). -/
inductive FrameKind where
  | time
  | duty
  | plan
  | control
  | poll
  | arrive
  | offer
  | bid
  | take
  | stray
  | record
  | call
  | gone
  | report
deriving DecidableEq, Repr

/-- The code of a kind (section 11.2). -/
def FrameKind.code : FrameKind → Nat
  | .time => 0
  | .duty => 1
  | .plan => 2
  | .control => 3
  | .poll => 4
  | .arrive => 5
  | .offer => 6
  | .bid => 7
  | .take => 8
  | .stray => 9
  | .record => 10
  | .call => 11
  | .gone => 12
  | .report => 13

/-- The kind of a code; 14 and 15 name none (R177). -/
def FrameKind.ofCode : Nat → Option FrameKind
  | 0 => some .time
  | 1 => some .duty
  | 2 => some .plan
  | 3 => some .control
  | 4 => some .poll
  | 5 => some .arrive
  | 6 => some .offer
  | 7 => some .bid
  | 8 => some .take
  | 9 => some .stray
  | 10 => some .record
  | 11 => some .call
  | 12 => some .gone
  | 13 => some .report
  | _ => none

/-- The kind octet of a code: bit 7 is 1, bits 6 to 3 the code, bits 2 to 0 the check bits p2, p1, p0 (R176). -/
def kindOctet (code : Nat) : Byte :=
  let k := BitVec.ofNat 4 code
  let k0 := k.getLsbD 0
  let k1 := k.getLsbD 1
  let k2 := k.getLsbD 2
  let k3 := k.getLsbD 3
  let p0 := k0 ^^ k1 ^^ k3
  let p1 := k0 ^^ k2 ^^ k3
  let p2 := k1 ^^ k2 ^^ k3
  BitVec.ofNat 8 (128 + code % 16 * 8 + p2.toNat * 4 + p1.toNat * 2 + p0.toNat)

/-- The syndrome s2 s1 s0 of a kind octet as received, as a number (R176). -/
def kindSyndrome (o : Byte) : Nat :=
  let k0 := o.getLsbD 3
  let k1 := o.getLsbD 4
  let k2 := o.getLsbD 5
  let k3 := o.getLsbD 6
  let s0 := o.getLsbD 0 ^^ k0 ^^ k1 ^^ k3
  let s1 := o.getLsbD 1 ^^ k0 ^^ k2 ^^ k3
  let s2 := o.getLsbD 2 ^^ k1 ^^ k2 ^^ k3
  s2.toNat * 4 + s1.toNat * 2 + s0.toNat

/-- The octet bit a syndrome puts in error (R176). -/
def syndromeBit : Nat → Option Nat
  | 1 => some 0
  | 2 => some 1
  | 4 => some 2
  | 3 => some 3
  | 5 => some 4
  | 6 => some 5
  | 7 => some 6
  | _ => none

/-- The kind octet with the bit its syndrome names inverted (R176). -/
def correctKind (o : Byte) : Byte :=
  match syndromeBit (kindSyndrome o) with
  | some b => o ^^^ BitVec.ofNat 8 (2 ^ b)
  | none => o

/-- The corrected code of a kind octet, or none where bit 7 is 0 and the frame is abandoned (R176). -/
def kindCode (o : Byte) : Option Nat :=
  if o.getLsbD 7 then some ((correctKind o).toNat / 8 % 16) else none

/-- One step of the CRC-16 register, polynomial x¹⁶ + x¹² + x⁵ + 1 (R177). -/
def crc16Shift (c : Word16) : Word16 :=
  if c.getLsbD 15 then (c <<< (1 : Nat)) ^^^ 0x1021#16 else c <<< (1 : Nat)

/-- `n` steps of the CRC-16 register. -/
def crc16Shifts : Nat → Word16 → Word16
  | 0, c => c
  | n + 1, c => crc16Shifts n (crc16Shift c)

/-- The CRC-16 of octets, each most significant bit first, from a register of all ones (R177). -/
def crc16 (l : List Byte) : Word16 :=
  l.foldl (fun c b => crc16Shifts 8 (c ^^^ ((b.zeroExtend 16 : Word16) <<< (8 : Nat)))) 0xFFFF#16

/-- One step of the CRC-8 register, polynomial x⁸ + x² + x + 1 (section 11.7). -/
def crc8Shift (c : Byte) : Byte :=
  if c.getLsbD 7 then (c <<< (1 : Nat)) ^^^ 0x07#8 else c <<< (1 : Nat)

/-- `n` steps of the CRC-8 register. -/
def crc8Shifts : Nat → Byte → Byte
  | 0, c => c
  | n + 1, c => crc8Shifts n (crc8Shift c)

/-- The CRC-8 of octets, from a register of 0x00 (section 11.7). -/
def crc8 (l : List Byte) : Byte :=
  l.foldl (fun c b => crc8Shifts 8 (c ^^^ b)) 0x00#8

/-- A number as one octet. -/
def octet (n : Nat) : Byte := BitVec.ofNat 8 n

/-- A number as two octets, high octet first (R192). -/
def octets2 (n : Nat) : List Byte := [octet (n / 256), octet n]

/-- The number that octets carry, high octet first (R192). -/
def numberOf (l : List Byte) : Nat := l.foldl (fun n b => n * 256 + b.toNat) 0

/-- Octet `i` of a payload as a number; 0 beyond its end. -/
def octetAt (l : List Byte) (i : Nat) : Nat := (l[i]?.getD 0#8).toNat

/-- Octets `i` and `i + 1` of a payload as a number, high octet first (R192). -/
def pairAt (l : List Byte) (i : Nat) : Nat := octetAt l i * 256 + octetAt l (i + 1)

/-- Fields of the given widths, in sending order, as one number (section 11.1). -/
def packFields (l : List (Nat × Nat)) : Nat := l.foldl (fun n f => n * 2 ^ f.1 + f.2 % 2 ^ f.1) 0

/-- The field of `width` bits at bit offset `off` of a block of `total` bits; offset 0 is bit 7 of the block's first
octet (section 11.1). -/
def fieldAt (total off width n : Nat) : Nat := n / 2 ^ (total - off - width) % 2 ^ width

/-- The last `count` octets of a number, high octet first. -/
def octetsOf (count n : Nat) : List Byte :=
  (List.range count).map (fun i => octet (n / 256 ^ (count - 1 - i)))

/-- Yes or no as a code (section 11.2). -/
def yesNo (b : Bool) : Nat := if b then 1 else 0

/-- A yes or no code; any other code is unlisted (R192). -/
def yesNoOf : Nat → Option Bool
  | 0 => some false
  | 1 => some true
  | _ => none

end Sys2Proof.Machine
end

