-- ==== Sys2Proof/Machine/Formats.lean ====
section
/-! DEFINITION. The layouts of chapter 11: codes, the visit record, the payloads of the frames the node sends, the
octets of a frame, the guidance code. -/

namespace Sys2Proof.Machine

open Sys2Proof

/-! ## Codes (section 11.2) -/

/-- Code of a wash_request. -/
def WashRequest.code : WashRequest → Nat
  | .none => 0
  | .rinse => 1
  | .full => 2

/-- wash_request of a code; 3 and above are unlisted. -/
def WashRequest.ofCode : Nat → Option WashRequest
  | 0 => some .none
  | 1 => some .rinse
  | 2 => some .full
  | _ => Option.none

/-- Code of a next_stage. -/
def NextStage.code : NextStage → Nat
  | .fuel => 0
  | .wash => 1
  | .berth => 2
  | .parked => 3

/-- next_stage of a code. -/
def NextStage.ofCode : Nat → Option NextStage
  | 0 => some .fuel
  | 1 => some .wash
  | 2 => some .berth
  | 3 => some .parked
  | _ => none

/-- Code of a duty_state. -/
def DutyState.code : DutyState → Nat
  | .awaited => 0
  | .bound => 1
  | .spare => 2

/-- duty_state of a code. -/
def DutyState.ofCode : Nat → Option DutyState
  | 0 => some .awaited
  | 1 => some .bound
  | 2 => some .spare
  | _ => none

/-- Code of a fuel_outcome, 0 for an absent one. -/
def FuelOutcome.code : Option FuelOutcome → Nat
  | none => 0
  | some .notWanted => 1
  | some .done => 2
  | some .part => 3
  | some .skipped => 4

/-- fuel_outcome of a code; the outer `none` is an unlisted code, the inner one the absent outcome. -/
def FuelOutcome.ofCode : Nat → Option (Option FuelOutcome)
  | 0 => some none
  | 1 => some (some .notWanted)
  | 2 => some (some .done)
  | 3 => some (some .part)
  | 4 => some (some .skipped)
  | _ => none

/-- Code of a wash_outcome, 0 for an absent one. -/
def WashOutcome.code : Option WashOutcome → Nat
  | none => 0
  | some .notWanted => 1
  | some .full => 2
  | some .rinse => 3
  | some .short => 4
  | some .skipped => 5

/-- wash_outcome of a code; the outer `none` is an unlisted code. -/
def WashOutcome.ofCode : Nat → Option (Option WashOutcome)
  | 0 => some none
  | 1 => some (some .notWanted)
  | 2 => some (some .full)
  | 3 => some (some .rinse)
  | 4 => some (some .short)
  | 5 => some (some .skipped)
  | _ => none

/-- Code of a stage. -/
def Stage.code : Stage → Nat
  | .fuel => 0
  | .wash => 1
  | .berth => 2
  | .swap => 3

/-- Index of a point. -/
def PointId.index : PointId → Nat
  | .p0 => 0
  | .p1 => 1

/-- Place or resource code (section 11.2). -/
def Resource.code : Resource → Nat
  | .lane n => n
  | .point p => 8 + PointId.index p

/-- Lane or point of a place code; every other code is unlisted for a lane or point. -/
def Resource.ofCode (c : Nat) : Option Resource :=
  if c < 6 then some (.lane c)
  else if c = 8 then some (.point .p0)
  else if c = 9 then some (.point .p1)
  else none

/-- An absent departure_wall is sent as 2047 (R192). -/
def wallCode (w : Option Nat) : Nat := w.getD 2047

/-- departure_wall of a code; 1440 to 2046 and above 2047 name none (R193). -/
def wallOf (c : Nat) : Option (Option Nat) :=
  if c < 1440 then some (some c) else if c = 2047 then some none else none

/-- The shift as a signed octet (R192). -/
def Shift.code : Shift → Byte
  | .back => 0xC4#8
  | .none => 0x00#8
  | .forward => 0x3C#8

/-- The shift of an octet; any other octet is no shift (R5). -/
def Shift.ofCode (b : Byte) : Option Shift :=
  if b = 0xC4#8 then some .back
  else if b = 0x00#8 then some .none
  else if b = 0x3C#8 then some .forward
  else Option.none

/-! ## The visit record (section 11.4) -/

/-- Widths and contents of the visit record's fields in sending order (section 11.4). -/
def VisitRecord.fields (r : VisitRecord) : List (Nat × Nat) :=
  [(14, r.bus), (3, r.cls), (7, r.fuelLevel), (2, r.washRequest.code), (11, r.gateMinute), (2, r.next.code),
   (2, r.duty.state.code), (12, r.duty.run), (11, wallCode r.duty.wall), (11, r.duty.departure),
   (1, yesNo r.duty.pinned), (1, yesNo r.duty.substituted), (1, yesNo r.stray), (3, FuelOutcome.code r.fuelOutcome),
   (3, WashOutcome.code r.washOutcome), (10, r.litres), (2, 0)]

/-- The 12 octets of a visit record (section 11.4). -/
def VisitRecord.octets (r : VisitRecord) : List Byte := octetsOf 12 (packFields r.fields)

/-- A field of a visit record's 96 bits. -/
def visitField (n off width : Nat) : Nat := fieldAt 96 off width n

/-- The visit record of 96 bits, its fuel_level and litres held to their ranges; none where a field is out of its
range or a code unlisted (R192, R193). -/
def VisitRecord.ofNumber (n : Nat) : Option VisitRecord :=
  let bus := visitField n 0 14
  let gate := visitField n 26 11
  let departure := visitField n 64 11
  if bus = 0 ∨ 9999 < bus ∨ 1499 < gate ∨ 1499 < departure then none
  else
    match WashRequest.ofCode (visitField n 24 2), NextStage.ofCode (visitField n 37 2),
      DutyState.ofCode (visitField n 39 2), wallOf (visitField n 53 11), FuelOutcome.ofCode (visitField n 78 3),
      WashOutcome.ofCode (visitField n 81 3) with
    | some wash, some next, some state, some wall, some fuelOut, some washOut =>
      some { bus := bus, cls := visitField n 14 3, fuelLevel := min 100 (visitField n 17 7), washRequest := wash,
             gateMinute := gate, next := next,
             duty := { state := state, run := visitField n 41 12, wall := wall, departure := departure,
                       pinned := visitField n 75 1 = 1, substituted := visitField n 76 1 = 1 },
             fuelOutcome := fuelOut, litres := min Config.litresCap (visitField n 84 10), washOutcome := washOut,
             stray := visitField n 77 1 = 1 }
    | _, _, _, _, _, _ => none

/-- The laws on duty fields that a received record must keep under the receiver's day length (R193). -/
def Duty.lawful (d : Duty) (dayLength : Nat) : Bool :=
  match d.state with
  | .bound => d.run ≠ 0 && d.wall.isSome && decide (d.departure < dayLength)
  | _ => d.run = 0 && decide (d.departure = Config.spareDeparture) && d.wall.isNone

/-! ## Frames (sections 11.2, 11.3, 11.5, 11.6) -/

/-- The kind of a frame of the node. -/
def FrameBody.kind : FrameBody → FrameKind
  | .arrive .. => .arrive
  | .offer .. => .offer
  | .bid .. => .bid
  | .take .. => .take
  | .stray .. => .stray
  | .record .. => .record
  | .call .. => .call
  | .gone .. => .gone
  | .report .. => .report

/-- The frame classes (section 9.2). -/
inductive FrameClass where
  | urgent
  | normal
  | low
deriving DecidableEq, Repr

/-- The class of a kind (section 9.2). -/
def FrameKind.cls : FrameKind → FrameClass
  | .take => .urgent
  | .stray => .urgent
  | .call => .urgent
  | .report => .low
  | _ => .normal

/-- The deferral base of a class (section 9.2). -/
def FrameClass.base : FrameClass → Nat
  | .urgent => 0
  | .normal => 16
  | .low => 32

/-- The class of a frame of the node. -/
def TxFrame.cls (f : TxFrame) : FrameClass := f.body.kind.cls

/-- The place code of a LATE report; 12 names the outbound list (section 11.2). -/
def RunPlace.code : RunPlace → Nat
  | .at r => r.code
  | .outboundList => 12

/-- Subcode of a report (section 11.5). -/
def ReportBody.subcode : ReportBody → Nat
  | .gateFull .. => 0
  | .noClock .. => 1
  | .stranded .. => 2
  | .missing .. => 3
  | .stray .. => 4
  | .overfull .. => 5
  | .blocked .. => 6
  | .late .. => 7
  | .fuelFault .. => 8
  | .washFault .. => 9
  | .timeAdjusted .. => 10
  | .lineConflict .. => 11
  | .summary .. => 12

/-- The two bits of a lane state in the SUMMARY (section 11.6). -/
def LaneState.code : LaneState → Nat
  | .unknown => 0
  | .opened => 1
  | .closed => 2

/-- The two bits of a point kind in the SUMMARY and the octet of it in the image (sections 11.6, 11.9). -/
def PointKind.code : PointKind → Nat
  | .none => 0
  | .fuel => 1
  | .wash => 2

/-- The two bits of a point state in the SUMMARY (section 11.6). -/
def PointState.code : PointState → Nat
  | .idle => 0
  | .busy => 1
  | .clearing => 2
  | .fault => 3

/-- The three octets of a lane block (section 11.6). -/
def LaneSummary.octets (l : LaneSummary) : List Byte :=
  octetsOf 3 (packFields [(2, l.state.code), (1, yesNo l.overfull), (5, l.entries), (9, l.occupied),
    (4, l.unconfirmed), (3, 0)])

/-- The three octets of a point block; three zero octets for a point of kind NONE (section 11.6). -/
def PointSummary.octets (p : PointSummary) : List Byte :=
  match p.kind with
  | .none => [0#8, 0#8, 0#8]
  | _ => octetsOf 3 (packFields [(2, p.kind.code), (2, p.state.code), (1, yesNo p.closed), (1, yesNo p.mark), (2, 0),
      (4, p.queue), (4, 0), (8, p.gauge)])

/-- The SUMMARY's octets after the report header (section 11.6). -/
def Summary.octets (s : Summary) : List Byte :=
  [octet (packFields [(2, if s.inService then 3 else 2), (1, yesNo s.clockSet), (3, s.lanes.length), (2, 0)])]
    ++ octets2 s.m ++ [s.shift.code] ++ octets2 s.change ++ s.lanes.flatMap LaneSummary.octets
    ++ s.point0.octets ++ s.point1.octets
    ++ [octet (packFields [(4, s.outbound), (3, s.bids), (1, yesNo s.conflict)])]
    ++ octetsOf 2 (packFields (s.pins.map (fun b => (1, yesNo b)) ++ [(3, 0)]))

/-- The holder and number a tag is sent as; none is 0 and 0 (R192). -/
def tagOctets (t : Option Tag) : List Byte :=
  match t with
  | some t => [octet t.holder, octet t.number]
  | none => [0#8, 0#8]

/-- A report's octets after the header (section 11.5). -/
def ReportBody.octets : ReportBody → List Byte
  | .gateFull bus cls => octets2 bus ++ [octet cls]
  | .noClock bus reader => octets2 bus ++ [octet reader]
  | .stranded bus cls departure => octets2 bus ++ [octet cls] ++ octets2 departure
  | .missing bus place tag => octets2 bus ++ [octet place.code] ++ tagOctets tag
  | .stray bus place flag =>
    octets2 bus ++ [octet place.code, octet (match flag with | .notAwaited => 0 | .awaited => 1 | .notListed => 2)]
  | .overfull lane bus occupied length notListed =>
    [octet lane] ++ octets2 bus ++ octets2 occupied ++ [octet length, octet (yesNo notListed)]
  | .blocked bus run lane departure cause =>
    octets2 bus ++ octets2 run ++ [octet lane] ++ octets2 departure
      ++ [octet (match cause with | .pinned => 0 | .noSwap => 1)]
  | .late bus run departure place called =>
    octets2 bus ++ octets2 run ++ octets2 departure ++ [octet place.code, octet (yesNo called)]
  | .fuelFault bus p litres needed =>
    octets2 bus ++ [octet (Resource.point p).code] ++ octets2 litres ++ octets2 needed
  | .washFault bus p type place cause =>
    octets2 bus ++ [octet (Resource.point p).code, octet (match type with | .full => 0 | .rinse => 1), octet place,
      octet (match cause with | .timeout => 0 | .input => 1)]
  | .timeAdjusted bus run wall minute => octets2 bus ++ octets2 run ++ octets2 wall ++ octets2 minute
  | .lineConflict kind destination cause =>
    [octet kind, octet destination, octet (match cause with | .readback => 0 | .source => 1)]
  | .summary s => s.octets

/-- A REPORT payload (section 11.5). -/
def Report.octets (r : Report) : List Byte :=
  [octet r.body.subcode, octet r.sequence] ++ octets2 r.minute ++ r.body.octets

/-- The octets of a SWAP bid's or take's head bus (section 11.3). -/
def headOctets (h : Option HeadFields) : List Byte :=
  match h with
  | some h => octets2 h.bus ++ octets2 h.run ++ octets2 (wallCode h.wall) ++ octets2 h.departure
  | none => []

/-- The stage a record is offered for (R19). -/
def VisitRecord.stage (r : VisitRecord) : Stage :=
  match r.next with
  | .fuel => .fuel
  | .wash => .wash
  | .berth => .berth
  | .parked => .berth

/-- The stage of a cargo (R21). -/
def Cargo.stage : Cargo → Stage
  | .visit r => r.stage
  | .swap _ => .swap

/-- The payload of a frame of the node (section 11.3). -/
def FrameBody.payload : FrameBody → List Byte
  | .arrive bus cls fuel wash gate => octets2 bus ++ [octet cls, octet fuel, octet wash.code] ++ octets2 gate
  | .offer number supersedes cargo =>
    [octet number, octet supersedes, octet cargo.stage.code] ++
      match cargo with
      | .visit r => r.octets
      | .swap q =>
        octets2 q.run ++ [octet q.cls] ++ octets2 (wallCode q.wall) ++ octets2 q.departure ++ octets2 q.need
  | .bid tag bus value head =>
    [octet tag.holder, octet tag.number] ++ octets2 bus ++ octets2 value ++ headOctets head
  | .take tag bus value resource head =>
    [octet tag.holder, octet tag.number] ++ octets2 bus ++ octets2 value ++ [octet resource.code] ++ headOctets head
  | .stray bus place => octets2 bus ++ [octet place.code]
  | .record r => r.octets
  | .call run bus lane departure substituted =>
    octets2 run ++ octets2 bus ++ [octet lane] ++ octets2 departure ++ [octet (yesNo substituted)]
  | .gone r lane exitMinute late early unlisted =>
    r.octets ++ [octet lane] ++ octets2 exitMinute
      ++ [octet (packFields [(5, 0), (1, yesNo late), (1, yesNo early), (1, yesNo unlisted)])]
  | .report r => r.octets

/-- The octets over which the CRC of a frame runs: address, length and payload (R177). -/
def crcOctets (address : Byte) (payload : List Byte) : List Byte := address :: octet payload.length :: payload

/-- Every octet of a frame the node sends, from the start octet to the CRC (section 11.2). -/
def TxFrame.octets (f : TxFrame) (source : Nat) : List Byte :=
  let address := octet (source % 16 * 16 + f.destination % 16)
  let payload := f.body.payload
  let crc := crc16 (crcOctets address payload)
  [0xC3#8, kindOctet f.body.kind.code] ++ crcOctets address payload ++ octets2 crc.toNat

/-- The octet of a guidance code (section 11.8). -/
def Guide.octet : Guide → Byte
  | .destination address r => Sys2Proof.Machine.octet (address % 16 * 16 + r.code)
  | .hold => 0x0E#8
  | .blank => 0x0F#8

/-- The 24 bits of a display transfer, as three octets (R194). -/
def GuideCodes.octets (c : GuideCodes) : List Byte := [c.gate.octet, c.point0.octet, c.point1.octet]

end Sys2Proof.Machine
end

