-- ==== Sys2Proof/Machine/Operands.lean ====
section
/-! DEFINITION. What a step reads out of the octets it is given: the checks of a received frame (R177), the fields of
each frame kind with the discards of R192 and R193, and the fields of a tag report (R153). -/

namespace Sys2Proof.Machine

open Sys2Proof

/-! ## The checks of a complete frame (R176, R177) -/

/-- What the checks of R177 make of a frame. -/
inductive FrameCheck where
  /-- Discarded, with no trace. -/
  | discarded
  /-- Discarded for carrying the node's own address as source; the conflict is recorded (R177, check 4). -/
  | conflict (code destination : Nat)
  /-- Accepted, to be handed to the owner of its kind. -/
  | accepted (kind : FrameKind) (source : Nat)
deriving DecidableEq, Repr

/-- The allowed payload lengths of a kind (section 11.2). -/
def lengthAllowed (k : FrameKind) (p : List Byte) : Bool :=
  match k with
  | .time => p.length = 5
  | .duty => p.length = 7
  | .plan => p.length = 18 || p.length = 20
  | .control => p.length = 2
  | .poll => p.length = 0
  | .arrive => p.length = 7
  | .offer => p.length = 15 && decide (octetAt p 2 < 3) || p.length = 12 && octetAt p 2 = 3
  | .bid => p.length = 6 || p.length = 14
  | .take => p.length = 7 || p.length = 15
  | .stray => p.length = 3
  | .record => p.length = 12
  | .call => p.length = 8
  | .gone => p.length = 16
  | .report => decide (7 ≤ p.length) && decide (p.length ≤ 37)

/-- The corrected kind of a frame, where its code names one (R176, R177). -/
def rxKind (f : RxFrame) : Option FrameKind := (kindCode f.kindOctet).bind FrameKind.ofCode

/-- The source address of a frame. -/
def rxSource (f : RxFrame) : Nat := f.addressOctet.toNat / 16

/-- The destination address of a frame. -/
def rxDestination (f : RxFrame) : Nat := f.addressOctet.toNat % 16

/-- The checks of R177 in their order, by a node of address `own`. -/
def rxCheck (f : RxFrame) (own : Nat) : FrameCheck :=
  if crc16 (crcOctets f.addressOctet f.payload) ≠ f.crc then .discarded
  else
    match rxKind f with
    | none => .discarded
    | some k =>
      if !lengthAllowed k f.payload then .discarded
      else if rxSource f = 15 then .discarded
      else if rxSource f = own then .conflict k.code (rxDestination f)
      else if rxDestination f = Config.broadcast ∨ rxDestination f = own then .accepted k (rxSource f)
      else .discarded

/-! ## Frame fields -/

/-- Fields of a TIME (section 11.3). -/
structure TimeFields where
  m : Nat
  shift : Option Shift
  change : Nat
deriving DecidableEq, Repr

/-- The fields of a TIME payload. -/
def timeFields (p : List Byte) : TimeFields :=
  { m := pairAt p 0, shift := Shift.ofCode (p[2]?.getD 0#8), change := pairAt p 3 }

/-- Fields of a DUTY (section 11.3). -/
structure DutyFields where
  bus : Nat
  run : Nat
  wall : Nat
  pinned : Bool
deriving DecidableEq, Repr

/-- The fields of a DUTY that the checks of R12 pass, or none. With run 0 the wall minute and the pinned field are not
used (R14), so their values do not discard the frame. -/
def dutyFields (p : List Byte) : Option DutyFields :=
  let bus := pairAt p 0
  let run := pairAt p 2
  let wall := pairAt p 4
  if bus = 0 ∨ 9999 < bus ∨ 4095 < run then none
  else if run = 0 then some { bus := bus, run := 0, wall := 0, pinned := false }
  else if 1439 < wall then none
  else (yesNoOf (octetAt p 6)).map (fun pinned => { bus := bus, run := run, wall := wall, pinned := pinned })

/-- Fields of a PLAN (section 11.3). Masks are numbers of 56 bits, the stencil one of 16. -/
structure PlanFields where
  point : Nat
  first : Nat
  count : Nat
  openMask : Nat
  reducedMask : Nat
  merge : Bool
  stencil : Option (Vector Bool 12)
deriving DecidableEq, Repr

/-- Bit of slot `k` in a mask of 56 bits (section 11.3). -/
def maskBit (mask k : Nat) : Bool := fieldAt 56 k 1 mask = 1

/-- The stencil of two octets: place q is bit offset q, 1 for FULL-ALLOWED (sections 11.3, 11.9). -/
def stencilOf (n : Nat) : Vector Bool 12 := Vector.ofFn (fun q : Fin 12 => decide (fieldAt 16 q.val 1 n = 1))

/-- The fields of a PLAN, or none where the mode is an unlisted code (R192). DESIGN CHOICE (log entry 44): the mode is
read even where the slot count is 0. -/
def planFields (p : List Byte) : Option PlanFields :=
  (yesNoOf (octetAt p 17)).map (fun merge =>
    { point := octetAt p 0, first := octetAt p 1, count := octetAt p 2,
      openMask := numberOf ((p.drop 3).take 7), reducedMask := numberOf ((p.drop 10).take 7), merge := merge,
      stencil := if p.length = 20 then some (stencilOf (pairAt p 18)) else none })

/-- Fields of an OFFER heard (section 11.3). -/
structure OfferFields where
  number : Nat
  supersedes : Nat
  cargo : Cargo
deriving DecidableEq, Repr

/-- The SWAP request of an OFFER, or none where R193 refuses it. -/
def swapFields (p : List Byte) (dayLength : Nat) : Option SwapRequest :=
  let run := pairAt p 3
  let cls := octetAt p 5
  let wall := pairAt p 6
  let departure := pairAt p 8
  let need := pairAt p 10
  if run = 0 ∨ 4095 < run ∨ 7 < cls ∨ 1439 < wall ∨ dayLength ≤ departure ∨ 1499 < need then none
  else some { run := run, cls := cls, wall := some wall, departure := departure, need := need }

/-- The visit record that 12 octets carry, or none where R193 refuses it under the receiver's day length. -/
def visitFields (l : List Byte) (dayLength : Nat) : Option VisitRecord :=
  match VisitRecord.ofNumber (numberOf l) with
  | some r => if r.duty.lawful dayLength then some r else none
  | none => none

/-- The fields of an OFFER, or none where R193 refuses it. -/
def offerFields (p : List Byte) (dayLength : Nat) : Option OfferFields :=
  let number := octetAt p 0
  let supersedes := octetAt p 1
  if octetAt p 2 = 3 then
    (swapFields p dayLength).map (fun q => { number := number, supersedes := supersedes, cargo := .swap q })
  else
    match visitFields ((p.drop 3).take 12) dayLength with
    | some r =>
      if r.next.code = octetAt p 2 then
        some { number := number, supersedes := supersedes, cargo := .visit r }
      else none
    | none => none

/-- The head bus fields at octet `i` of a SWAP BID or TAKE, or none where R193 refuses them. -/
def headFields (p : List Byte) (i dayLength : Nat) : Option HeadFields :=
  let bus := pairAt p i
  let run := pairAt p (i + 2)
  let departure := pairAt p (i + 6)
  match wallOf (pairAt p (i + 4)) with
  | none => none
  | some wall =>
    let agrees :=
      if run = 0 then wall.isNone && decide (departure = Config.spareDeparture)
      else wall.isSome && decide (departure < dayLength)
    if bus = 0 ∨ 9999 < bus ∨ 4095 < run ∨ agrees = false then none
    else some { bus := bus, run := run, wall := wall, departure := departure }

/-- Fields of a BID heard (section 11.3); `head` is present in the SWAP form. -/
structure BidFields where
  tag : Tag
  bus : Nat
  value : Nat
  head : Option HeadFields
deriving DecidableEq, Repr

/-- The fields of a BID, or none where R193 refuses its head bus. -/
def bidFields (p : List Byte) (dayLength : Nat) : Option BidFields :=
  let b : BidFields :=
    { tag := { holder := octetAt p 0, number := octetAt p 1 }, bus := pairAt p 2, value := pairAt p 4, head := none }
  if p.length = 14 then (headFields p 6 dayLength).map (fun h => { b with head := some h }) else some b

/-- Fields of a TAKE heard (section 11.3); `head` is present in the SWAP form. -/
structure TakeFields where
  tag : Tag
  bus : Nat
  value : Nat
  resource : Resource
  head : Option HeadFields
deriving DecidableEq, Repr

/-- The fields of a TAKE, or none where its resource is an unlisted code or R193 refuses its head bus. -/
def takeFields (p : List Byte) (dayLength : Nat) : Option TakeFields :=
  match Resource.ofCode (octetAt p 6) with
  | none => none
  | some r =>
    let t : TakeFields :=
      { tag := { holder := octetAt p 0, number := octetAt p 1 }, bus := pairAt p 2, value := pairAt p 4,
        resource := r, head := none }
    if p.length = 15 then (headFields p 7 dayLength).map (fun h => { t with head := some h }) else some t

/-- The four actions of a CONTROL (section 11.2). -/
inductive ControlAction where
  | openLane
  | closeLane
  | clearPoint
  | restart
deriving DecidableEq, Repr

/-- The action of a CONTROL; codes above 3 are unlisted. -/
def controlAction (p : List Byte) : Option ControlAction :=
  match octetAt p 0 with
  | 0 => some .openLane
  | 1 => some .closeLane
  | 2 => some .clearPoint
  | 3 => some .restart
  | _ => none

/-! ## The tag report (R153, section 11.7) -/

/-- The fields of a tag report. -/
structure TagFields where
  reader : Fin 17
  bus : Nat
  cls : Nat
  fuel : Nat
  wash : WashRequest
deriving DecidableEq, Repr

/-- The fields of a complete tag report, or none where R153 discards it. -/
def tagFields (t : TagOctets) : Option TagFields :=
  let bus := t.busHigh.toNat * 256 + t.busLow.toNat
  if crc8 [t.reader, t.busHigh, t.busLow, t.busClass, t.fuel, t.wash] ≠ t.check then none
  else if h : t.reader.toNat < 17 then
    if bus = 0 ∨ 9999 < bus then none
    else
      (WashRequest.ofCode t.wash.toNat).map (fun wash =>
        { reader := ⟨t.reader.toNat, h⟩, bus := bus, cls := t.busClass.toNat % 8, fuel := min 100 t.fuel.toNat,
          wash := wash })
  else none

/-- The roles of the readers (R154). -/
inductive ReaderRole where
  | gate
  | pointEntry (p : PointId)
  | pointExit (p : PointId)
  | laneEntry (n : Nat)
  | laneExit (n : Nat)
deriving DecidableEq, Repr

/-- The role of a reader index (R154). -/
def readerRole (i : Fin 17) : ReaderRole :=
  if i.val = 0 then .gate
  else if i.val = 1 then .pointEntry .p0
  else if i.val = 2 then .pointExit .p0
  else if i.val = 3 then .pointEntry .p1
  else if i.val = 4 then .pointExit .p1
  else if i.val % 2 = 1 then .laneEntry ((i.val - 5) / 2)
  else .laneExit ((i.val - 6) / 2)

end Sys2Proof.Machine
end

