-- ==== Sys2Proof/Machine/Flags.lean ====
section
/-! DEFINITION. The computed values, marks and flags of the rules that need no change of state: the day length and the
conversion of wall times, the duty of a bound and an unbound record, a lane's occupied length, fit, cost and lamp, the
flags of a GONE, a call time, the better of two bids. -/

namespace Sys2Proof.Machine

open Sys2Proof

/-! ## Clock (section 1.1, R10) -/

/-- The day length L = 1440 − S of a shift (section 1.1). -/
def Shift.dayLength : Shift → Nat
  | .back => 1500
  | .none => 1440
  | .forward => 1380

/-- The day length in force (R1). -/
def Clock.dayLength (c : Clock) : Nat := c.shift.dayLength

/-- The change minute clamped into 60–1379 (R6). -/
def clampChange (c : Nat) : Nat := max 60 (min 1379 c)

/-- The yard minute of a wall minute under a shift and a change minute (R10). -/
def convertWall (shift : Shift) (change w : Nat) : Nat :=
  match shift with
  | .none => w
  | .forward => if w < change then w else if w < change + 60 then change else w - 60
  | .back => if w + 60 < change then w else w + 60

/-- Whether a wall minute lies in the hour a forward shift removes, so that TIME_ADJUSTED is due (R10). -/
def inMissingHour (shift : Shift) (change w : Nat) : Bool :=
  match shift with
  | .forward => decide (change ≤ w) && decide (w < change + 60)
  | _ => false

/-- A deadline carried over noon: less the old day length, and held at 0 (R9). -/
def carryMinute (oldLength minute : Nat) : Nat := minute - oldLength

/-! ## Duties (R11, R13, R14) -/

/-- The duty fields of a record that has no run (R14). -/
def Duty.unbound : Duty :=
  { state := .spare, run := 0, wall := none, departure := Config.spareDeparture, pinned := false, substituted := false }

/-- The duty fields a gate read gives a record (R11). -/
def Duty.awaited : Duty :=
  { state := .awaited, run := 0, wall := none, departure := Config.spareDeparture, pinned := false,
    substituted := false }

/-- The duty fields of a bound record (R13), converted under the clock's shift and change minute. -/
def Duty.bindTo (c : Clock) (run wall : Nat) (pinned substituted : Bool) : Duty :=
  { state := .bound, run := run, wall := some wall, departure := convertWall c.shift c.change wall, pinned := pinned,
    substituted := substituted }

/-- Whether a record is BOUND. -/
def VisitRecord.isBound (r : VisitRecord) : Bool := r.duty.state = .bound

/-- The departure a rule reads: 1499 for a record that is not BOUND (R51). -/
def VisitRecord.departs (r : VisitRecord) : Nat := if r.isBound then r.duty.departure else Config.spareDeparture

/-- The record with its duty unbound (R14). -/
def VisitRecord.unbind (r : VisitRecord) : VisitRecord := { r with duty := Duty.unbound }

/-- The stage after a fuel service, or after one that was given up (R19). -/
def VisitRecord.afterFuel (r : VisitRecord) : NextStage := if r.washRequest = .none then .berth else .wash

/-! ## Configured values by class (section 11.9) -/

/-- The configured length of a class. -/
def Image.lengthOf (i : Image) (cls : Nat) : Nat := i.classLength[cls]?.getD 0

/-- The configured tank volume of a class. -/
def Image.tankOf (i : Image) (cls : Nat) : Nat := i.classTank[cls]?.getD 0

/-- The configured length of a lane. -/
def Image.laneLengthOf (i : Image) (n : Nat) : Nat := i.laneLength[n]?.getD 0

/-! ## Lanes (R49 to R51, R136) -/

/-- Whether an entry stands in the front part of a lane's list (R47). -/
def LaneEntry.isFront (e : LaneEntry) : Bool := e.state = .parked || e.state = .called

/-- The occupied length of a lane (R49). -/
def Lane.occupied (i : Image) (l : Lane) : Nat :=
  l.entries.foldl (fun n e => n + (i.lengthOf e.visit.cls + 1)) 0

/-- Whether a bus of length `len` fits a lane of length `laneLen` (R50). -/
def Lane.fits (i : Image) (l : Lane) (laneLen len : Nat) : Bool :=
  decide (l.entries.length < Config.laneCapacity) && decide (l.occupied i + len + 1 ≤ laneLen)

/-- The free length after a placement (R50). -/
def Lane.freeAfter (i : Image) (l : Lane) (laneLen len : Nat) : Nat := laneLen - l.occupied i - len - 1

/-- The berth cost of a lane for a departure (R51). -/
def Lane.cost (openCost : Nat) (l : Lane) (departure : Nat) : Nat :=
  match l.entries.getLast? with
  | none => openCost
  | some e =>
    let t := e.visit.departs
    if t ≤ departure then departure - t
    else 2000 + 100 * (l.entries.countP (fun x => decide (departure < x.visit.departs))) + min (t - departure) 99

/-- The indication of a lane's lamp (R136). -/
def Lane.lamp (l : Lane) : Lamp :=
  if l.entries.any (fun e => decide (e.state = .parked) && decide (e.ask = .refused)) then .blocked
  else if l.entries.any (fun e => decide (e.state = .called)) then .call
  else if l.state = .closed then .closed
  else .dark

/-- The list with an entry put directly behind the last PARKED or CALLED one (R58, R61). -/
def parkBehind (e : LaneEntry) (l : List LaneEntry) : List LaneEntry :=
  l.filter LaneEntry.isFront ++ [e] ++ l.filter (fun x => !x.isFront)

/-- Count of unconfirmed entries (R65, R190). -/
def Lane.unconfirmed (l : Lane) : Nat := l.entries.countP (fun e => e.unconfirmed)

/-! ## Pull-out (R130, R138) -/

/-- The call time of an entry; it has one only while it is BOUND (R130). -/
def callTime (lead : Nat) (r : VisitRecord) : Option Nat :=
  if r.isBound then some (r.duty.departure - lead) else none

/-- Whether an entry is PARKED and BOUND with its call time at or below `m` (R131). -/
def LaneEntry.isDue (lead m : Nat) (e : LaneEntry) : Bool :=
  decide (e.state = .parked) && (callTime lead e.visit).any (fun t => decide (t ≤ m))

/-- The late flag of a GONE (R138). -/
def goneLate (r : VisitRecord) (m : Nat) : Bool := r.isBound && decide (r.duty.departure < m)

/-- The early flag of a GONE (R138). -/
def goneEarly (r : VisitRecord) (state : LaneEntryState) : Bool := r.isBound && decide (state ≠ .called)

/-! ## Queues (R86) -/

/-- Whether an entry stands in the front part of a queue (R86). -/
def QueueEntry.isFront (e : QueueEntry) : Bool :=
  match e.state with
  | .waiting => true
  | .serving => true
  | .finished => true
  | _ => false

/-- The queue with an entry put directly behind the last SERVING, WAITING or FINISHED one (R94, R96). -/
def queueBehind (e : QueueEntry) (q : List QueueEntry) : List QueueEntry :=
  q.filter QueueEntry.isFront ++ [e] ++ q.filter (fun x => !x.isFront)

/-! ## Bids (R33, R34) -/

/-- Whether value and address `a` are better than `b`: the lower value, and among equal values the lower address. -/
def betterBid (a b : Nat × Nat) : Bool := decide (a.1 < b.1) || decide (a.1 = b.1) && decide (a.2 < b.2)

/-- The number after an offer number (R24). -/
def nextOfferNumber (n : Nat) : Nat := if 255 ≤ n then 1 else n + 1

/-- An outbound item's name (R21). -/
def OutItem.key (i : OutItem) : ItemKey :=
  match i.cargo with
  | .visit r => .bus r.bus
  | .swap q => .swapRun q.run

/-- Whether item `a` stands at or before item `b` in the outbound list's order (R21). -/
def OutItem.before (a b : OutItem) : Bool :=
  decide (a.ready < b.ready) || decide (a.ready = b.ready) && decide (a.joinOrder ≤ b.joinOrder)

/-- An item put at its place in the outbound list (R21). -/
def insertItem (i : OutItem) : List OutItem → List OutItem
  | [] => [i]
  | x :: xs => if x.before i then x :: insertItem i xs else i :: x :: xs

/-- The outbound list in its order (R21, R22). -/
def sortItems (l : List OutItem) : List OutItem := l.foldl (fun acc i => insertItem i acc) []

end Sys2Proof.Machine
end

