-- ==== Sys2Proof/Machine/Ops.lean ====
section
/-! DEFINITION. The operations that several blocks share: node-state tests, the transmit queue (R170, R172), the
report queue (R187, R188), guidance (R166, R194), every record and copy of the node (R36), the outbound list and the
start of an offer (R21 to R28), the bid list (R31 to R34), lanes and their entries (R47, R49), calls and head tests
(R133 to R135), bindings (R13). -/

namespace Sys2Proof.Machine

open Sys2Proof

/-! ## Reading the node -/

/-- WAITING TIME or IN SERVICE, with the reset pin released (R178, R185). -/
def State.active (s : State) : Bool :=
  !s.loader.resetHeld && (s.loader.node = .waitingTime || s.loader.node = .inService)

/-- IN SERVICE, with the reset pin released (R181). -/
def State.inService (s : State) : Bool := !s.loader.resetHeld && s.loader.node = .inService

/-- Whether minute events reach the blocks: IN SERVICE with the clock set (R2, R43, R150). -/
def State.minuteLive (s : State) : Bool := s.inService && s.clock.isSet

/-- The clamped image in force (R184). -/
def State.image (s : State) : Image := s.loader.image

/-- The configured values of a point. -/
def State.pointImage (s : State) : PointId → PointImage
  | .p0 => s.loader.image.point0
  | .p1 => s.loader.image.point1

/-- A service point. -/
def State.point (s : State) : PointId → Point
  | .p0 => s.point0
  | .p1 => s.point1

/-- The node with one service point replaced. -/
def State.setPoint (p : PointId) (v : Point) (s : State) : State :=
  match p with
  | .p0 => { s with point0 := v }
  | .p1 => { s with point1 := v }

/-- The node with one service point changed. -/
def State.modPoint (p : PointId) (f : Point → Point) (s : State) : State := s.setPoint p (f (s.point p))

/-- The slot table of a point (R74). -/
def State.table (s : State) : PointId → SlotTable
  | .p0 => s.timeline.table0
  | .p1 => s.timeline.table1

/-! ## Detectors (R160) -/

/-- The index of a detector pin among the thirteen. -/
def pinIndex : Pin → Fin 13
  | .laneClear n => ⟨n.val, by omega⟩
  | .occupied .p0 => 6
  | .occupied .p1 => 7
  | .machineA .p0 => 8
  | .machineB .p0 => 9
  | .machineA .p1 => 10
  | .machineB .p1 => 11
  | .maintenanceKey => 12

/-- The detector of a pin. -/
def State.detector (s : State) (pin : Pin) : Detector := s.field.detectors[pinIndex pin]

/-- The node with one detector replaced. -/
def State.setDetector (pin : Pin) (d : Detector) (s : State) : State :=
  { s with field := { s.field with detectors := s.field.detectors.set (pinIndex pin) d } }

/-- The debounced level of a pin (R162). -/
def State.level (s : State) (pin : Pin) : Bool := (s.detector pin).debounced

/-- Whether a detector is present (section 8.3). -/
def State.isPresent (s : State) : Pin → Bool
  | .laneClear n => n.val < s.loader.image.laneCount
  | .occupied p => (s.pointImage p).kind ≠ .none
  | .machineA p => (s.pointImage p).kind ≠ .none
  | .machineB p => (s.pointImage p).kind = .wash
  | .maintenanceKey => true

/-! ## The transmit queue (R170, R172) -/

/-- A frame put behind every frame of its class and of the classes before it (R170). -/
def insertFrame (f : TxFrame) : List TxFrame → List TxFrame
  | [] => [f]
  | g :: gs => if g.cls.base ≤ f.cls.base then g :: insertFrame f gs else f :: g :: gs

/-- The node with a frame joined to its transmit queue (R170). -/
def State.enqueue (body : FrameBody) (destination : Nat) (s : State) : State :=
  { s with line := { s.line with
      transmit := insertFrame
        { body := body, destination := destination, order := s.line.nextOrder, mismatches := 0, sending := false }
        s.line.transmit
      nextOrder := s.line.nextOrder + 1 } }

/-- Whether a frame may be displaced by one of a higher class (R172). -/
def TxFrame.displaceable (f : TxFrame) : Bool := f.cls = .low && !f.sending

/-- Whether the transmit queue holds 16 frames; one that completes after a soft restart is counted (R170, R180). -/
def State.transmitFull (s : State) : Bool :=
  decide (Config.transmitCapacity ≤ s.line.transmit.length + s.line.muted.toList.length)

/-- Whether a frame of class `c` placed now would join the transmit queue (R172). -/
def State.canPlace (c : FrameClass) (s : State) : Bool :=
  !s.transmitFull || (decide (c ≠ .low) && s.line.transmit.any TxFrame.displaceable)

/-- Whether the head report waits for the next quiet is set (R188). -/
def State.setRetry (v : Bool) (s : State) : State := { s with loader := { s.loader with retryAtQuiet := v } }

/-- The transmit queue without its oldest displaceable frame (R172). -/
def State.displace (s : State) : State :=
  { s with line := { s.line with transmit := s.line.transmit.eraseP TxFrame.displaceable } }

/-- The node after an owner places a frame: it joins, it displaces the oldest LOW frame, whose report then waits for
the next quiet (R188), or it is discarded (R172). Callers that are told of a discard ask `canPlace` first. -/
def State.place (body : FrameBody) (destination : Nat) (s : State) : State :=
  if !s.transmitFull then s.enqueue body destination
  else if decide (body.kind.cls ≠ .low) && s.line.transmit.any TxFrame.displaceable then
    (s.displace.setRetry true).enqueue body destination
  else s

/-- A frame to every station (R170). -/
def State.send (body : FrameBody) (s : State) : State := s.place body Config.broadcast

/-- The node after an owner removes its frames that satisfy `p` and are not being sent (R172). DESIGN CHOICE (log entry 67): the
frame that a soft restart left on the line is not among them, while it is sent nor while it waits for its second attempt. -/
def State.dropFrames (p : FrameBody → Bool) (s : State) : State :=
  { s with line := { s.line with transmit := s.line.transmit.filter (fun f => f.sending || !p f.body) } }

/-- Whether a frame is the node's OFFER. -/
def FrameBody.isOffer : FrameBody → Bool
  | .offer .. => true
  | _ => false

/-- Whether a frame is a REPORT. -/
def FrameBody.isReport : FrameBody → Bool
  | .report .. => true
  | _ => false

/-- Whether a frame is the node's BID or TAKE for an offer tag. -/
def FrameBody.isClaimOf (tag : Tag) : FrameBody → Bool
  | .bid t .. => t = tag
  | .take t .. => t = tag
  | _ => false

/-! ## Reports (R187, R188) -/

/-- The node after the head report's frame is placed, where no REPORT frame stands in the transmit queue (R188). -/
def State.placeHeadReport (s : State) : State :=
  match s.loader.reports with
  | [] => s.setRetry false
  | r :: _ =>
    if s.line.transmit.any (fun f => f.body.isReport) then s
    else (s.setRetry (!s.canPlace .low)).place (.report r) Config.officeStation

/-- The node with its report queue replaced. -/
def State.setReports (l : List Report) (s : State) : State := { s with loader := { s.loader with reports := l } }

/-- The node with a further report counted (R187). -/
def State.countReport (s : State) : State :=
  { s with loader := { s.loader with nextSequence := (s.loader.nextSequence + 1) % 256 } }

/-- The minute a report carries: 0 while the clock-set flag is clear (R187). -/
def State.reportMinute (s : State) : Nat := if s.clock.isSet then s.clock.m else 0

/-- The node after a report is placed (R187). A full queue first loses its oldest report whose frame is not being
sent, and that report's frame with it. -/
def State.report (b : ReportBody) (s : State) : State :=
  if !s.active then s
  else
    let r : Report := { sequence := s.loader.nextSequence, minute := s.reportMinute, body := b }
    if s.loader.reports.length < Config.reportCapacity then
      let joined := s.countReport.setReports (s.loader.reports ++ [r])
      if s.loader.reports.isEmpty then joined.placeHeadReport else joined
    else if s.line.transmit.any (fun f => f.body.isReport && f.sending) then
      s.countReport.setReports (s.loader.reports.take 1 ++ s.loader.reports.drop 2 ++ [r])
    else
      ((s.countReport.setReports (s.loader.reports.drop 1 ++ [r])).dropFrames FrameBody.isReport).placeHeadReport

/-- The next head report is placed once the former head has left the queue (R188). -/
def State.popReport (s : State) : State :=
  ((s.setReports (s.loader.reports.drop 1)).setRetry false).placeHeadReport

/-! ## Guidance (R166, R167, R194) -/

/-- The codes the three outputs hold. -/
def Field.codes (f : Field) : GuideCodes := { gate := f.gate.code, point0 := f.point0.code, point1 := f.point1.code }

/-- A transfer of the three codes starts, or a further one is owed while a transfer runs (R194). -/
def State.startTransfer (s : State) : State :=
  match s.field.transfer with
  | none => { s with field := { s.field with transfer := some s.field.codes, again := false } }
  | some _ => { s with field := { s.field with again := true } }

/-- The guidance output of a place. -/
def State.guide (s : State) : GuidePlace → GuideOutput
  | .gate => s.field.gate
  | .point .p0 => s.field.point0
  | .point .p1 => s.field.point1

/-- The node after a guidance code is set, for a bus or for none (R167, R194). -/
def State.setGuide (place : GuidePlace) (code : Guide) (bus : Option Nat) (s : State) : State :=
  let o : GuideOutput := { code := code, bus := bus }
  let f := match place with
    | .gate => { s.field with gate := o }
    | .point .p0 => { s.field with point0 := o }
    | .point .p1 => { s.field with point1 := o }
  State.startTransfer { s with field := f }

/-! ## Lanes (R47, R49, R136) -/

/-- The indications of the six lamp outputs; a lane beyond the lane count shows DARK (R136, R164). -/
def lampsOf (lanes : List Lane) : Vector Lamp 6 :=
  Vector.ofFn (fun n : Fin 6 => ((lanes[n.val]?).map Lane.lamp).getD .dark)

/-- The node with new lanes, its lamps set again (R136). -/
def State.setLanes (lanes : List Lane) (s : State) : State :=
  { s with lanes := lanes, field := { s.field with lamps := lampsOf lanes } }

/-- The node with one lane changed. -/
def State.modLane (n : Nat) (f : Lane → Lane) (s : State) : State := s.setLanes (s.lanes.modify n f)

/-- Each lane changed by a function of its number. -/
def mapLanesFrom (f : Nat → Lane → Lane) : Nat → List Lane → List Lane
  | _, [] => []
  | n, l :: ls => f n l :: mapLanesFrom f (n + 1) ls

/-- A lane without the entries that satisfy `p`. After a removal the OVERFULL mark is cleared where the occupied length
is at or below the lane length (R49). -/
def Lane.without (i : Image) (laneLen : Nat) (p : LaneEntry → Bool) (l : Lane) : Lane :=
  if l.entries.any p then
    let kept := { l with entries := l.entries.filter (fun e => !p e) }
    { kept with overfull := kept.overfull && decide (laneLen < kept.occupied i) }
  else l

/-- The node without the lane entries that satisfy `p`, lane by lane. -/
def State.removeLaneEntries (p : Nat → LaneEntry → Bool) (s : State) : State :=
  s.setLanes (mapLanesFrom (fun n l => l.without s.image (s.image.laneLengthOf n) (p n)) 0 s.lanes)

/-- The OVERFULL test of R49 after a stray insertion or a class change in lane `n`, for bus `b`. -/
def State.overfullTest (n b : Nat) (s : State) : State :=
  match s.lanes[n]? with
  | none => s
  | some l =>
    let occupied := l.occupied s.image
    let length := s.image.laneLengthOf n
    if length < occupied then
      State.report (.overfull n b occupied length false) (s.modLane n (fun l => { l with overfull := true }))
    else s.modLane n (fun l => { l with overfull := false })

/-- The lane entry of a bus, with its lane. -/
def State.laneEntry? (s : State) (n b : Nat) : Option LaneEntry :=
  (s.lanes[n]?).bind (fun l => l.entries.find? (fun e => e.visit.bus = b))

/-- The lane entries of all lanes, lane by lane. -/
def State.laneEntries (s : State) : List LaneEntry := s.lanes.flatMap (fun l => l.entries)

/-! ## Every record and every copy (R36) -/

/-- An outbound item with its record changed. -/
def OutItem.mapVisit (f : VisitRecord → VisitRecord) (i : OutItem) : OutItem :=
  match i.cargo with
  | .visit r => { i with cargo := .visit (f r) }
  | .swap _ => i

/-- A lane entry with its record changed. Its ask state returns to NONE where its run changes (R130). -/
def LaneEntry.mapVisit (f : VisitRecord → VisitRecord) (e : LaneEntry) : LaneEntry :=
  let v := f e.visit
  { e with visit := v, ask := if v.duty.run ≠ e.visit.duty.run then .none else e.ask }

/-- A queue entry with its record changed. -/
def QueueEntry.mapVisit (f : VisitRecord → VisitRecord) (e : QueueEntry) : QueueEntry := { e with visit := f e.visit }

/-- A point with the records of its queue changed. -/
def Point.mapVisit (f : VisitRecord → VisitRecord) (p : Point) : Point :=
  { p with queue := p.queue.map (QueueEntry.mapVisit f) }

/-- A frame of the transmit queue with the visit record of an OFFER or RECORD changed, where it is not being sent. -/
def TxFrame.mapVisit (f : VisitRecord → VisitRecord) (t : TxFrame) : TxFrame :=
  if t.sending then t
  else
    match t.body with
    | .offer n sup (.visit r) => { t with body := .offer n sup (.visit (f r)) }
    | .record r => { t with body := .record (f r) }
    | _ => t

/-- The node with every record and copy it holds changed, in the places R36 lists. DESIGN CHOICE (log entry 40): the frame
that completes on the line after a soft restart is not among them. -/
def State.mapVisits (f : VisitRecord → VisitRecord) (s : State) : State :=
  let t := s.setLanes (s.lanes.map (fun l => { l with entries := l.entries.map (LaneEntry.mapVisit f) }))
  { t with
    hand := { t.hand with
      outbound := t.hand.outbound.map (OutItem.mapVisit f)
      bids := t.hand.bids.map (fun b => { b with copy := b.copy.map f }) }
    point0 := t.point0.mapVisit f
    point1 := t.point1.mapVisit f
    line := { t.line with transmit := t.line.transmit.map (TxFrame.mapVisit f) } }

/-- The record of an outbound item. -/
def OutItem.visit? (i : OutItem) : Option VisitRecord :=
  match i.cargo with
  | .visit r => some r
  | .swap _ => none

/-- The record that a waiting OFFER or RECORD frame carries. -/
def TxFrame.visit? (t : TxFrame) : Option VisitRecord :=
  if t.sending then none
  else
    match t.body with
    | .offer _ _ (.visit r) => some r
    | .record r => some r
    | _ => none

/-- Every record and copy the node holds, in the places R36 lists, list by list from the head. -/
def State.visits (s : State) : List VisitRecord :=
  s.hand.outbound.filterMap OutItem.visit? ++ s.point0.queue.map (fun e => e.visit)
    ++ s.point1.queue.map (fun e => e.visit) ++ s.laneEntries.map (fun e => e.visit)
    ++ s.hand.bids.filterMap (fun b => b.copy) ++ s.line.transmit.filterMap TxFrame.visit?

/-! ## The outbound list and the start of an offer (R21 to R28) -/

/-- Whether a join would be refused (R21). -/
def State.outboundFull (s : State) : Bool := Config.outboundCapacity ≤ s.hand.outbound.length

/-- The outbound item of a key. -/
def State.item? (s : State) (k : ItemKey) : Option OutItem := s.hand.outbound.find? (fun i => i.key = k)

/-- The node with one outbound item changed, the list kept in its order (R22). -/
def State.modItem (k : ItemKey) (f : OutItem → OutItem) (s : State) : State :=
  { s with hand := { s.hand with outbound := sortItems (s.hand.outbound.map (fun i => if i.key = k then f i else i)) } }

/-- The node without one outbound item. -/
def State.removeItem (k : ItemKey) (s : State) : State :=
  { s with hand := { s.hand with outbound := s.hand.outbound.filter (fun i => decide (i.key ≠ k)) } }

/-- The node with its offer counter past the number just taken (R24). -/
def State.takeNumber (s : State) : State :=
  { s with hand := { s.hand with counter := nextOfferNumber s.hand.counter } }

/-- The node with its open offer replaced. -/
def State.setOffer (o : Option OpenOffer) (s : State) : State := { s with hand := { s.hand with offer := o } }

/-- The start of an offer for the head item (R23). Where the OFFER is discarded at once, by a transmit queue full of
frames it cannot displace, the offer is NONE again and its number is spent (R25; log entry 8). -/
def State.startOffer (it : OutItem) (s : State) : State :=
  let n := s.hand.counter
  let t := s.takeNumber
  if t.canPlace .normal then
    State.send (.offer n it.lastNumber it.cargo)
      (State.setOffer
        (some { number := n, phase := .queued, key := it.key, countBefore := it.offerCount, reNumber := 0, takes := [] })
        (t.modItem it.key (fun i => { i with offerCount := 1 })))
  else t

/-- The re-offer of the first expiry, under a fresh number (R28). Where it is discarded at once it stays owed, its
number spent, until a frame leaves the transmit queue or the test of R23 is made again (log entry 8). -/
def State.placeReoffer (o : OpenOffer) (s : State) : State :=
  match s.item? o.key with
  | none => s.setOffer none
  | some it =>
    let n := s.hand.counter
    let t := s.takeNumber.modItem o.key (fun i => { i with offerCount := 2 })
    if t.canPlace .normal then
      State.send (.offer n o.number it.cargo) (t.setOffer (some { o with phase := .reofferQueued, reNumber := n }))
    else t.setOffer (some { o with phase := .reofferQueued, reNumber := 0 })

/-- The test of R23, which also places a re-offer that is still owed (log entry 8). -/
def State.offerTest (s : State) : State :=
  if !s.inService then s
  else
    match s.hand.offer with
    | some o => if o.phase = .reofferQueued ∧ o.reNumber = 0 then s.placeReoffer o else s
    | none =>
      match s.hand.outbound with
      | [] => s
      | it :: _ => if it.ready ≤ s.clock.m then s.startOffer it else s

/-- A cargo joins the outbound list with ready minute m, and the test of R23 is made (R21, R23). A full list refuses
the join and nothing changes. -/
def State.join (cargo : Cargo) (place : Option GuidePlace) (s : State) : State :=
  if s.outboundFull then s
  else
    let it : OutItem :=
      { cargo := cargo, ready := s.clock.m, joinOrder := s.hand.joins, offerCount := 0, lastNumber := 0, place := place }
    State.offerTest
      { s with hand := { s.hand with outbound := insertItem it s.hand.outbound, joins := s.hand.joins + 1 } }

/-- The open offer for a key is cancelled without a re-offer: it becomes NONE and a queued OFFER or re-offer is
removed (R37, R39). DESIGN CHOICE (log entry 59): every OFFER of the node that is not being sent is removed, so also the
OFFER of an earlier, already cancelled offer that waits for its second attempt after a mismatch (R172). -/
def State.cancelOffer (k : ItemKey) (s : State) : State :=
  match s.hand.offer with
  | some o => if o.key = k then State.dropFrames FrameBody.isOffer (s.setOffer none) else s
  | none => s

/-! ## Calls and head tests (R133 to R135, R142) -/

/-- The run of an open offer of the node in BIDDING or TAKE WAIT, where it is a SWAP offer (R142). -/
def State.swapRunWaiting (s : State) : Option Nat :=
  match s.hand.offer with
  | some o =>
    match o.key with
    | .swapRun r => if o.phase = .bidding ∨ o.phase = .takeWait then some r else none
    | .bus _ => none
  | none => none

/-- Whether a bid entry names a bus as its head bus (R135). -/
def State.isHeadBid (s : State) (b : Nat) : Bool :=
  s.hand.bids.any (fun e => (e.head.map (fun h => h.bus)) = some b)

/-- Whether a head entry is held (R135). -/
def State.isHeld (s : State) (e : LaneEntry) : Bool := s.isHeadBid e.visit.bus || e.mark.isSome

/-- Whether a head entry's call waits for the node's own offer for its run (R142). -/
def State.awaitsOwnOffer (s : State) (e : LaneEntry) : Bool :=
  decide (e.ask = .asking) && decide (s.swapRunWaiting = some e.visit.duty.run)

/-- Whether the PARKED head of lane `n` is held (R135). -/
def State.headHeld (s : State) (n : Nat) : Bool :=
  ((s.lanes[n]?).bind (fun l => l.entries.head?)).any (fun e => decide (e.state = .parked) && s.isHeld e)

/-- Whether the PARKED head of lane `n` is kept from being called, by a hold or by the node's own offer (R135, R142). -/
def State.headWaits (s : State) (n : Nat) : Bool :=
  match (s.lanes[n]?).bind (fun l => l.entries.head?) with
  | some e => decide (e.state = .parked) && (s.isHeld e || s.awaitsOwnOffer e)
  | none => false

/-- Whether an entry asks for a substitute for a run (R140): PARKED, ASKING and carrying the run. -/
def LaneEntry.asksFor (run : Nat) (e : LaneEntry) : Bool :=
  decide (e.state = .parked) && decide (e.ask = .asking) && decide (e.visit.duty.run = run)

/-- Whether some entry of the node asks for a run: the entry a swap request was made for (R37, R142). -/
def State.asksFor (s : State) (run : Nat) : Bool := s.laneEntries.any (LaneEntry.asksFor run)

/-- The run of a swap request. -/
def OutItem.swapRun? (i : OutItem) : Option Nat :=
  match i.cargo with
  | .swap q => some q.run
  | .visit _ => none

/-- The runs of the swap requests whose entry no longer asks for them. -/
def State.deadSwaps (s : State) : List Nat :=
  (s.hand.outbound.filterMap OutItem.swapRun?).filter (fun r => !s.asksFor r)

/-- The swap requests that no entry asks for any longer are withdrawn, all of them before the test of R23 is made (R37; log
entry 66). -/
def State.withdrawSwaps (s : State) : State :=
  match s.deadSwaps with
  | [] => s
  | runs => State.offerTest (runs.foldl (fun t r => (t.cancelOffer (.swapRun r)).removeItem (.swapRun r)) s)

/-- The entry of bus `b` in lane `n` is called (R133). Its swap request, if any, is withdrawn (R142). -/
def State.callEntry (n : Nat) (e : LaneEntry) (s : State) : State :=
  let t := s.modLane n (fun l =>
    { l with entries := l.entries.map (fun x => if x.visit.bus = e.visit.bus then { x with state := .called } else x) })
  State.withdrawSwaps
    (t.send (.call e.visit.duty.run e.visit.bus n e.visit.duty.departure e.visit.duty.substituted))

/-- The test of a lane's head (R134): a PARKED and BOUND head whose call time has come is called, unless it is held or
waits for the node's own offer. -/
def State.headTest (n : Nat) (s : State) : State :=
  if !s.inService then s
  else
    match (s.lanes[n]?).bind (fun l => l.entries.head?) with
    | some e => if e.isDue s.image.callLead s.clock.m && !s.headWaits n then s.callEntry n e else s
    | none => s

/-! ## Bids (R31 to R35, R145) -/

/-- The node without the bid entries of a tag, their BIDs and TAKEs removed from the transmit queue. -/
def State.removeBid (tag : Tag) (s : State) : State :=
  State.dropFrames (FrameBody.isClaimOf tag)
    { s with hand := { s.hand with bids := s.hand.bids.filter (fun b => decide (b.tag ≠ tag)) } }

/-- The node without the queue entries that satisfy `p`. -/
def State.removeQueueEntries (p : QueueEntry → Bool) (s : State) : State :=
  let keep := fun (v : Point) => { v with queue := v.queue.filter (fun e => !p e) }
  { s with point0 := keep s.point0, point1 := keep s.point1 }

/-- The node without the TENTATIVE entries of a tag. -/
def State.removeTentative (tag : Tag) (s : State) : State :=
  State.removeQueueEntries (fun e => decide (e.state = .tentative) && decide (e.tag = some tag))
    (s.removeLaneEntries (fun _ e => decide (e.state = .tentative) && decide (e.tag = some tag)))

/-- The node without the EXPECTED entries of a tag. -/
def State.removeExpected (tag : Tag) (s : State) : State :=
  State.removeQueueEntries (fun e => decide (e.state = .expected) && decide (e.tag = some tag))
    (s.removeLaneEntries (fun _ e => decide (e.state = .expected) && decide (e.tag = some tag)))

/-- A bid is lost or withdrawn: bid entry, frames and TENTATIVE entry go in one event (R32, R53, R91). -/
def State.dropBid (tag : Tag) (s : State) : State := (s.removeBid tag).removeTentative tag

/-- A bid or a take is given up: bid entry, frames, TENTATIVE and EXPECTED entry go in one event (R34, R35). -/
def State.dropClaim (tag : Tag) (s : State) : State := (s.dropBid tag).removeExpected tag

/-- The tags of the bid entries of a bus: its own bids, and SWAP bids that offer it as head bus (R38, R39). -/
def State.bidTagsOf (s : State) (b : Nat) : List Tag :=
  (s.hand.bids.filter (fun e =>
    (decide (e.stage ≠ .swap) && decide (e.bus = b)) || decide ((e.head.map (fun h => h.bus)) = some b))).map
    (fun e => e.tag)

/-- The bid entries of a bus are dropped with their TENTATIVE entries and frames (R38, R39). -/
def State.dropBidsOf (b : Nat) (s : State) : State := (s.bidTagsOf b).foldl (fun t tag => t.dropBid tag) s

/-- Whether a bus stands PARKED at the head of a lane. -/
def State.isParkedHead (s : State) (place : Resource) (b : Nat) : Bool :=
  match place with
  | .lane n => ((s.lanes[n]?).bind (fun l => l.entries.head?)).any (fun e =>
      decide (e.visit.bus = b) && decide (e.state = .parked))
  | .point _ => false

/-- SWAP bids whose head bus is no longer the head of the lane they name are dropped, and a take mark on an entry that is
not the head ends without a binding (R145, R146). -/
def State.dropLostHeads (s : State) : State :=
  let lost := s.hand.bids.filter (fun e => match e.head with
    | some h => !s.isParkedHead e.resource h.bus
    | none => false)
  let t := lost.foldl (fun t e => t.removeBid e.tag) s
  if t.lanes.any (fun l => (l.entries.drop 1).any (fun e => e.mark.isSome)) then
    t.setLanes (t.lanes.map (fun l =>
      { l with entries := l.entries.take 1 ++ (l.entries.drop 1).map (fun e => { e with mark := none }) }))
  else t

/-- Whether lane `n` lost an entry between two states. -/
def State.lostEntry (before s : State) (n : Nat) : Bool :=
  match before.lanes[n]?, s.lanes[n]? with
  | some l, some l' => l.entries.any (fun e => !l'.entries.any (fun x => x.visit.bus = e.visit.bus))
  | _, _ => false

/-- Whether an event between two states frees the head of lane `n` for its test (R134): a hold on the head has ended
(R135), or the node's own offer that the call of an ASKING head waited for has left BIDDING and TAKE WAIT (R142). A head
that is moved while that offer stays open there frees nothing: the head after it waits for the next minute event (R131). -/
def State.headFreed (before s : State) (n : Nat) : Bool :=
  before.headWaits n && !s.headWaits n && (before.headHeld n || decide (s.swapRunWaiting ≠ before.swapRunWaiting))

/-- What an event on lanes, bids or the open offer brings about in the end: lost heads give up their bids and marks
(R145), swap requests no entry asks for are withdrawn (R37), and the head of every lane that lost an entry, or whose
head the event has freed, is tested (R134; log entry 21). DESIGN CHOICE (log entry 64): no rule orders these against the frames
that the event itself places, and they come after them, in the order given here. -/
def State.settle (before s : State) : State :=
  let t := s.dropLostHeads.withdrawSwaps
  (List.range t.lanes.length).foldl
    (fun u n => if before.lostEntry s n || before.headFreed u n then u.headTest n else u) t

/-! ## Bindings (R10, R13, R14) -/

/-- The TIME_ADJUSTED report of a conversion that falls in the missing hour (R10). -/
def State.reportAdjusted (bus run wall : Nat) (s : State) : State :=
  if inMissingHour s.clock.shift s.clock.change wall then
    s.report (.timeAdjusted bus run wall (convertWall s.clock.shift s.clock.change wall))
  else s

/-- Run and departure of the PARKED or CALLED lane entry of a bus. -/
def State.laneDuty? (s : State) (b : Nat) : Option (Nat × Nat) :=
  (s.laneEntries.find? (fun e => e.isFront && decide (e.visit.bus = b))).map
    (fun e => (e.visit.duty.run, e.visit.duty.departure))

/-- Whether a PARKED or CALLED lane entry of a bus is pinned (R15). -/
def State.isPinned (s : State) (b : Nat) : Bool :=
  s.laneEntries.any (fun e => e.isFront && decide (e.visit.bus = b) && e.visit.duty.pinned)

/-- Whether an event has ended what a head bus was named for: its run or departure differs between the two states (R145),
or it is pinned after the event (R15). DESIGN CHOICE (log entry 57): R145 names no drop for a DUTY or RECORD that pins the
head and leaves its run and departure as they are; the bid or mark is dropped there too, for R15 lets no pinned bus be
offered or lose its run. -/
def State.headChanged (before s : State) (b : Nat) : Bool :=
  decide (before.laneDuty? b ≠ s.laneDuty? b) || s.isPinned b

/-- SWAP bids and take marks whose head bus changed its run or departure between two states, or is pinned now, are dropped
(R15, R145, R146; log entry 57). -/
def State.dropChangedHeads (before s : State) : State :=
  let changed := State.headChanged before s
  let lost := s.hand.bids.filter (fun e => match e.head with
    | some h => changed h.bus
    | none => false)
  let t := lost.foldl (fun t e => t.removeBid e.tag) s
  if t.laneEntries.any (fun e => e.mark.isSome && changed e.visit.bus) then
    let clear := fun (e : LaneEntry) => if e.mark.isSome && changed e.visit.bus then { e with mark := none } else e
    t.setLanes (t.lanes.map (fun l => { l with entries := l.entries.map clear }))
  else t

/-- What a binding does to one record: the bus is bound, another carrier of the run is unbound (R13). -/
def bindVisit (bus run : Nat) (d : Duty) (r : VisitRecord) : VisitRecord :=
  if r.bus = bus then { r with duty := d }
  else if r.duty.run = run then r.unbind
  else r

/-- What an unbinding does to one record of bus `b` (R14). -/
def unbindVisit (b : Nat) (r : VisitRecord) : VisitRecord := if r.bus = b then r.unbind else r

/-- Whether the node holds a record or copy of a bus. -/
def State.holdsAny (s : State) (b : Nat) : Bool := s.visits.any (fun r => r.bus = b)

/-- The node after a bus is bound to a run in every place of R36, other carriers of the run unbound, the conversion
reported where it was adjusted, and the bids and marks of changed heads dropped (R10, R13, R145). -/
def State.bindBus (bus run wall : Nat) (pinned substituted : Bool) (s : State) : State :=
  let t := s.mapVisits (bindVisit bus run (Duty.bindTo s.clock run wall pinned substituted))
  let u := State.dropChangedHeads s t
  if s.holdsAny bus then u.reportAdjusted bus run wall else u

/-- The node after a bus is unbound in every place of R36 (R14). -/
def State.unbindBus (bus : Nat) (s : State) : State := State.dropChangedHeads s (s.mapVisits (unbindVisit bus))

/-- Whether a CALLED lane entry carries a run (R12, R147, R148). -/
def State.runCalled (s : State) (run : Nat) : Bool :=
  s.laneEntries.any (fun e => decide (e.state = .called) && decide (e.visit.duty.run = run))

end Sys2Proof.Machine
end

