-- ==== Sys2Proof/Machine/Timeline.lean ====
section
/-! DEFINITION. The Service Timeline (chapter 4): slot answers, PLAN, application at slot boundaries. -/

namespace Sys2Proof.Machine

open Sys2Proof

/-- The live state of slot `k`. -/
def SlotTable.liveAt (t : SlotTable) (k : Nat) : SlotState := t.live[k]?.getD .opened

/-- The staged state of slot `k`, none for no change. -/
def SlotTable.stagedAt (t : SlotTable) (k : Nat) : Option SlotState := (t.staged[k]?).getD none

/-- State of slot `k`: the live state of the begun slot, and for any other slot the state it will have when it begins
(R79, first question). -/
def State.slotState (s : State) (p : PointId) (k : Nat) : SlotState :=
  let t := s.table p
  if s.timeline.begun = some k then t.liveAt k else (t.stagedAt k).getD (t.liveAt k)

/-- The first minute of the first slot from `k` on, within `fuel` slots, that is not SHUT and begins below `day`. -/
def firstOpenSlot (answer : Nat → SlotState) (day : Nat) : Nat → Nat → Option Nat
  | 0, _ => none
  | fuel + 1, k =>
    if day ≤ 30 * k then none
    else if answer k = .shut then firstOpenSlot answer day fuel (k + 1)
    else some (30 * k)

/-- First start at or after minute `x` (R79, second question). -/
def State.firstStart (s : State) (p : PointId) (x : Nat) : Option Nat :=
  let day := s.clock.dayLength
  if day ≤ x then none
  else if s.slotState p (x / 30) ≠ .shut then some x
  else firstOpenSlot (s.slotState p) day 50 (x / 30 + 1)

/-- The more restrictive of two slot states (R74, R76). -/
def SlotState.stricter : SlotState → SlotState → SlotState
  | .shut, _ => .shut
  | _, .shut => .shut
  | .reduced, _ => .reduced
  | _, .reduced => .reduced
  | .opened, .opened => .opened

/-- The state two mask bits expand to (R76). -/
def expandMasks (openBit reducedBit : Bool) : SlotState :=
  if openBit then (if reducedBit then .reduced else .opened) else .shut

/-- A staged plan with the named range of a PLAN written in, by its mode (R75, R76). -/
def SlotTable.stage (t : SlotTable) (f : PlanFields) : SlotTable :=
  let last := min 50 (f.first + min f.count (50 - f.first))
  { t with staged := Vector.ofFn (fun k : Fin 50 =>
      let old := t.staged[k]
      if f.first ≤ k.val ∧ k.val < last then
        let new := expandMasks (maskBit f.openMask k.val) (maskBit f.reducedMask k.val)
        some (if f.merge then new.stricter (old.getD t.live[k]) else new)
      else old) }

/-- A table with its staged plan written into the live table and emptied (R78). -/
def SlotTable.apply (t : SlotTable) : SlotTable :=
  { live := Vector.ofFn (fun k : Fin 50 => (t.staged[k]).getD t.live[k]), staged := Vector.replicate 50 none }

/-- The node with the slot table of a point replaced. -/
def State.setTable (p : PointId) (t : SlotTable) (s : State) : State :=
  match p with
  | .p0 => { s with timeline := { s.timeline with table0 := t } }
  | .p1 => { s with timeline := { s.timeline with table1 := t } }

/-- The point an octet names (R75). -/
def pointOf : Nat → Option PointId
  | 0 => some .p0
  | 1 => some .p1
  | _ => none

/-- An accepted PLAN for point `p`: its slots are staged, and its stencil becomes the staged stencil of a washing lane
at once (R76, R77). -/
def State.acceptPlan (p : PointId) (f : PlanFields) (s : State) : State :=
  let t := s.setTable p ((s.table p).stage f)
  match f.stencil, (s.pointImage p).kind with
  | some st, .wash => t.modPoint p (fun v => { v with staged := some st })
  | _, _ => t

/-- What the Service Timeline makes of a PLAN's payload (R75). -/
def State.onPlan (source : Nat) (payload : List Byte) (s : State) : State :=
  if source ≠ Config.officeStation then s
  else
    match planFields payload with
    | none => s
    | some f =>
      match pointOf f.point with
      | none => s
      | some p => if (s.pointImage p).kind = .none ∨ 49 < f.first then s else s.acceptPlan p f

/-- Steps 1 to 3 of a slot-boundary event that names slot `k` (R78). -/
def State.applyPlans (k : Nat) (s : State) : State :=
  { s with timeline := { begun := some k, table0 := s.timeline.table0.apply, table1 := s.timeline.table1.apply } }

end Sys2Proof.Machine
end

