-- ==== Sys2Proof/Machine/Points.lean ====
section
/-! DEFINITION. What the two kinds of service point share: starts (R97, R120), the end of a service and the join of its
record (R102, R122), the end of CLEARING (R103, R123), a record taken away (R40). -/

namespace Sys2Proof.Machine

open Sys2Proof

/-! ## Needs, rates and cycle types -/

/-- The least whole number not below a / b (section 6 of the scope). -/
def ceilDiv (a b : Nat) : Nat := (a + b - 1) / b

/-- The needed litres of a bus (R87). -/
def neededLitres (i : Image) (r : VisitRecord) : Nat := ceilDiv (i.tankOf r.cls * (100 - r.fuelLevel)) 100

/-- The service rate in a slot of a state (R80, R87). A SHUT slot gives no rate; no start reaches it. -/
def serviceRate (st : SlotState) (rate : Nat) : Nat :=
  match st with
  | .reduced => max 1 (rate / 2)
  | _ => rate

/-- The duration of a fuel service (R87). -/
def fuelDuration (handling needed rate : Nat) : Nat := handling + ceilDiv needed rate

/-- The type of a wash cycle (R114): full only for a FULL request on a FULL-ALLOWED place in an OPEN slot. -/
def cycleType (request : WashRequest) (fullAllowed : Bool) (slot : SlotState) : CycleType :=
  if request = .full ∧ fullAllowed = true ∧ slot = .opened then .full else .rinse

/-- The nominal duration of a cycle (R116). -/
def cycleMinutes (c : PointImage) : CycleType → Nat
  | .full => c.fullCycle
  | .rinse => c.rinseCycle

/-- wash_outcome at completion (R114). -/
def washOutcome (request : WashRequest) (type : CycleType) : WashOutcome :=
  match request, type with
  | .full, .full => .full
  | .full, .rinse => .short
  | _, _ => .rinse

/-- Whether a place of a stencil is FULL-ALLOWED. -/
def stencilAt (st : Vector Bool 12) (q : Nat) : Bool := st[q]?.getD false

/-! ## The queue -/

/-- The first WAITING entry of a queue (R97). -/
def Point.firstWaiting (v : Point) : Option QueueEntry := v.queue.find? (fun e => e.state = .waiting)

/-- The SERVING entry of a queue. -/
def Point.serving? (v : Point) : Option QueueEntry := v.queue.find? (fun e => e.state = .serving)

/-- The entry of a bus. -/
def Point.entry? (v : Point) (b : Nat) : Option QueueEntry := v.queue.find? (fun e => e.visit.bus = b)

/-- The queue with the entry of a bus changed in its place. -/
def Point.modEntry (b : Nat) (f : QueueEntry → QueueEntry) (v : Point) : Point :=
  { v with queue := v.queue.map (fun e => if e.visit.bus = b then f e else e) }

/-- The queue without the entry of a bus. -/
def Point.dropEntry (b : Nat) (v : Point) : Point := { v with queue := v.queue.filter (fun e => decide (e.visit.bus ≠ b)) }

/-- The queue with the entry of a bus moved to the head (R97). -/
def Point.toHead (b : Nat) (v : Point) : Point :=
  { v with queue := v.queue.filter (fun e => decide (e.visit.bus = b))
      ++ v.queue.filter (fun e => decide (e.visit.bus ≠ b)) }

/-- A FINISHED entry asks to join the outbound list; it leaves the queue where it joins (R102, R122). -/
def State.askJoin (p : PointId) (b : Nat) (s : State) : State :=
  match (s.point p).queue.find? (fun e => decide (e.visit.bus = b) && decide (e.state = .finished)) with
  | none => s
  | some e =>
    if s.outboundFull then s
    else (s.modPoint p (Point.dropEntry b)).join (.visit e.visit) (some (.point p))

/-! ## Starts (R97, R120) -/

/-- A fuel service starts for an entry in a slot of state `st` (R97). -/
def State.beginFuel (p : PointId) (e : QueueEntry) (st : SlotState) (s : State) : State :=
  let c := s.pointImage p
  let n := neededLitres s.image e.visit
  s.modPoint p (fun v =>
    { v.modEntry e.visit.bus (fun x => { x with state := .serving }) with
      state := .busy
      service := some
        { start := s.clock.m, needed := n, cap := ceilDiv (11 * n) 10,
          duration := fuelDuration c.handling n (serviceRate st v.rate), lifted := s.level (.machineA p),
          deadline := s.clock.m + Config.nozzleMinutes }
      servicePulses := 0, delivered := 0, dryMinutes := 0, enable := decide (n ≠ 0) })

/-- A wash cycle starts for an entry in a slot of state `st` (R120). -/
def State.beginWash (p : PointId) (e : QueueEntry) (st : SlotState) (s : State) : State :=
  s.modPoint p (fun v =>
    let type := cycleType e.visit.washRequest (stencilAt v.stencil v.pointer) st
    let nominal := cycleMinutes (s.pointImage p) type
    { v.modEntry e.visit.bus (fun x => { x with state := .serving }) with
      state := .busy
      served := some e.visit.bus
      left := false
      cycle := some { type := type, place := v.pointer, start := s.clock.m, nominal := nominal,
                      deadline := s.clock.m + 2 * nominal, advance := true }
      startOutput := match type with | .full => .full | .rinse => .rinse })

/-- Whether the point-occupied level of a point is clear. -/
def State.pointClear (s : State) (p : PointId) : Bool := !s.level (.occupied p)

/-- The end of a fuel service (R102): the record takes its outcome and litres and goes to its next stage, the point
enters CLEARING, and the FINISHED entry asks to join. `left`: the bus is taken to have left (R101). -/
def State.endFuel (p : PointId) (outcome : FuelOutcome) (left : Bool) (s : State) : State :=
  match (s.point p).serving? with
  | none => s
  | some e =>
    let clear := s.pointClear p
    let t := s.modPoint p (fun v =>
      { v.modEntry e.visit.bus (fun x => { x with
          state := .finished, justServed := true
          visit := { x.visit with fuelOutcome := some outcome, litres := v.delivered, next := x.visit.afterFuel } }) with
        state := .clearing, service := none, enable := false, qualifies := false, served := some e.visit.bus
        left := left || clear })
    t.askJoin p e.visit.bus

/-- Whether CLEARING ends: the served bus has left, the FINISHED entry of its service has left the queue, and no start
output is on (R103, R123). Another entry of the same bus, made by a later read, is not waited for. -/
def State.clearingOver (s : State) (p : PointId) : Bool :=
  let v := s.point p
  decide (v.state = .clearing) && v.left && decide (v.startOutput = .off)
    && !v.queue.any (fun e => e.justServed)

/-- The point leaves CLEARING: for FAULT where a fault is pending, else for IDLE (R103, R123). -/
def State.leaveClearing (p : PointId) (s : State) : State :=
  s.modPoint p (fun v =>
    { v with state := if v.faultPending then .fault else .idle, faultPending := false, served := none, left := false })

/-- The state of the slot that holds a start at the present minute, none while no slot has begun (R79 to R82, R97, R120). It
is the begun slot's live state, and at the first minute of a slot the same whether the slot's boundary event has reached
the timeline yet or not. -/
def State.startState (s : State) (p : PointId) : Option SlotState :=
  s.timeline.begun.map (fun _ => s.slotState p (s.clock.m / 30))

/-- The start test of a point, with the tests that follow from it where a service that needs no fuel ends at once and
CLEARING with it (R97, R103, R120). `fuel` bounds those tests; a queue holds at most 8 entries. -/
def State.startTests : Nat → PointId → State → State
  | 0, _, s => s
  | fuel + 1, p, s =>
    if (s.point p).state ≠ .idle then s
    else
      match (s.point p).firstWaiting with
      | none => s
      | some e =>
        let t := s.modPoint p (Point.toHead e.visit.bus)
        match s.startState p, (s.pointImage p).kind with
        | none, _ => t
        | some .shut, _ => t
        | some st, .fuel =>
          let u := t.beginFuel p e st
          if neededLitres s.image e.visit = 0 then
            let w := u.endFuel p .done false
            if w.clearingOver p then State.startTests fuel p (w.leaveClearing p) else w
          else u
        | some st, .wash => if s.level (.machineB p) then t else t.beginWash p e st
        | some _, .none => t

/-- The start test of a point (R97, R120). -/
def State.startTest (p : PointId) (s : State) : State := State.startTests (Config.queueCapacity + 1) p s

/-- The test for the end of CLEARING, with the start test that follows it (R103, R123). -/
def State.clearingTest (p : PointId) (s : State) : State :=
  if s.clearingOver p then (s.leaveClearing p).startTest p else s

/-- The served bus is counted as having left (R103, R123). -/
def State.countLeft (p : PointId) (s : State) : State :=
  (s.modPoint p (fun v => { v with left := true })).clearingTest p

/-! ## A record taken away (R40) -/

/-- The record of a front entry as it is sent or moved: of the bus in service, with the litres delivered so far at a
fuel point, and with the outcome of the served stage absent (R40). -/
def State.handedRecord (s : State) (p : PointId) (e : QueueEntry) : VisitRecord :=
  if e.state = .serving then
    match (s.pointImage p).kind with
    | .fuel => { e.visit with litres := (s.point p).delivered, fuelOutcome := none }
    | .wash => { e.visit with washOutcome := none }
    | .none => e.visit
  else e.visit

/-- The record of bus `b` is taken from a point's queue. Where it is in service the point ends the service at once: a
fuel point turns the enable off, a washing lane keeps its machine running without the stencil's advance (R40, R127). -/
def State.takeFromQueue (p : PointId) (b : Nat) (s : State) : State :=
  match (s.point p).queue.find? (fun e => decide (e.visit.bus = b) && e.isFront) with
  | none => s
  | some e =>
    let clear := s.pointClear p
    let t := s.modPoint p (fun v =>
      let w := { v with queue := v.queue.filter (fun x => !(decide (x.visit.bus = b) && x.isFront)) }
      if e.state = .serving then
        { w with state := .clearing, service := none, enable := false, qualifies := false, served := some b
                 left := (decide ((s.pointImage p).kind = .wash) && v.left) || clear
                 cycle := v.cycle.map (fun c => { c with advance := false }) }
      else w)
    t.clearingTest p

/-! ## Minute events at a point -/

/-- The EXPECTED entries of a queue that satisfy `p` and whose deadline is at or below m are removed, each with a
MISSING report (R92, R118). -/
def State.expireQueue (p : PointId) (q : QueueEntry → Bool) (s : State) : State :=
  let due := fun (e : QueueEntry) =>
    decide (e.state = .expected) && (e.deadline.any (fun d => decide (d ≤ s.clock.m))) && q e
  let gone := (s.point p).queue.filter due
  let t := s.modPoint p (fun v => { v with queue := v.queue.filter (fun e => !due e) })
  gone.foldl (fun u e => u.report (.missing e.visit.bus (.point p) e.tag)) t

/-- Whether a FINISHED entry asks at a minute event: one passed on by a washing lane in FAULT waits for its RECORD or
for the deadline of it (R119, R126; log entry 16); every other one, at a fuel point every one, asks (R102). -/
def QueueEntry.asks (e : QueueEntry) : Bool :=
  decide (e.state = .finished) && !(e.recordAwaited.isSome && e.passedOn)

/-- The FINISHED entries of a point ask again to join, in queue order, and the end of CLEARING is tested (R102, R103,
R119, R122). -/
def State.retryJoins (p : PointId) (s : State) : State :=
  let asking := ((s.point p).queue.filter QueueEntry.asks).map (fun e => e.visit.bus)
  (asking.foldl (fun t b => t.askJoin p b) s).clearingTest p

end Sys2Proof.Machine
end

