-- ==== Sys2Proof/Machine/Strays.lean ====
section
/-! DEFINITION. A bus found where it was not expected: where its record comes from, what the node gives up, the STRAY
frame and report (R38), the claim settled in favour of a bus that came early (R60, R95), the STRAY of another station
(R39). -/

namespace Sys2Proof.Machine

open Sys2Proof

/-- The record a node holds of a bus: in the outbound list, in the front part of a queue, or PARKED or CALLED in a lane
other than the place `here` (R38 step 1). An EXPECTED or TENTATIVE entry is a copy, not a record (R20). -/
def State.ownRecord? (s : State) (b : Nat) (here : Resource) : Option VisitRecord :=
  let fromOutbound := (s.item? (.bus b)).bind OutItem.visit?
  let fromPoint := fun (p : PointId) =>
    if here = .point p then none
    else ((s.point p).queue.find? (fun e => decide (e.visit.bus = b) && e.isFront)).map (s.handedRecord p)
  let fromLanes := (((List.range s.lanes.length).filter (fun n => decide (here ≠ .lane n))).findSome? (fun n =>
    ((s.lanes[n]?).bind (fun l => l.entries.find? (fun e => decide (e.visit.bus = b) && e.isFront))).map
      (fun e => e.visit)))
  fromOutbound <|> fromPoint .p0 <|> fromPoint .p1 <|> fromLanes

/-- The record of a bus's EXPECTED entry at a place other than `here` (R38 step 2). -/
def State.expectedElsewhere? (s : State) (b : Nat) (here : Resource) : Option VisitRecord :=
  let fromPoint := fun (p : PointId) =>
    if here = .point p then none
    else ((s.point p).queue.find? (fun e => decide (e.visit.bus = b) && decide (e.state = .expected))).map
      (fun e => e.visit)
  let fromLanes := (((List.range s.lanes.length).filter (fun n => decide (here ≠ .lane n))).findSome? (fun n =>
    ((s.lanes[n]?).bind (fun l =>
      l.entries.find? (fun e => decide (e.visit.bus = b) && decide (e.state = .expected)))).map (fun e => e.visit)))
  fromPoint .p0 <|> fromPoint .p1 <|> fromLanes

/-- The test of R23, where the node's own offer closed between two states (R23). -/
def State.testIfClosed (before s : State) : State :=
  if before.hand.offer.isSome && s.hand.offer.isNone then s.offerTest else s

/-- The node gives up its record of a bus everywhere but at `here`: the open offer of it is cancelled without re-offer,
a service of it ends by R40, and the test of R23 is made where an offer closed (R38 step 1). DESIGN CHOICE (log entry 66): the
test comes before the withdrawal of a swap request that the removal of a lane entry leaves without its carrier. -/
def State.giveUpRecord (b : Nat) (here : Resource) (s : State) : State :=
  let t := (s.cancelOffer (.bus b)).removeItem (.bus b)
  let u := if here = .point .p0 then t else t.takeFromQueue .p0 b
  let v := if here = .point .p1 then u else u.takeFromQueue .p1 b
  let w := v.removeLaneEntries (fun n e =>
    decide (here ≠ .lane n) && decide (e.visit.bus = b) && e.isFront)
  State.testIfClosed s w

/-- The EXPECTED entries of a bus are removed everywhere but at `here`, with no MISSING (R38 step 2, R39). -/
def State.dropExpectedOf (b : Nat) (here : Option Resource) (s : State) : State :=
  let fits := fun (e : QueueEntry) => decide (e.visit.bus = b) && decide (e.state = .expected)
  let keep := fun (p : PointId) (v : Point) =>
    if here = some (.point p) then v else { v with queue := v.queue.filter (fun e => !fits e) }
  let t := { s with point0 := keep .p0 s.point0, point1 := keep .p1 s.point1 }
  t.removeLaneEntries (fun n e =>
    decide (here ≠ some (.lane n)) && decide (e.visit.bus = b) && decide (e.state = .expected))

/-- A record with the spare defaults, its tag fields from the report (R18, R38 step 3). -/
def strayRecord (t : TagFields) (m : Nat) (next : NextStage) : VisitRecord :=
  { bus := t.bus, cls := t.cls, fuelLevel := t.fuel, washRequest := t.wash, gateMinute := m, next := next,
    duty := Duty.unbound, fuelOutcome := none, litres := 0, washOutcome := none, stray := true }

/-- The record a stray entry takes, and whether a RECORD is awaited for it (R38 steps 1 to 3). DEDUCED (log entry 61): of the
three sources R38 gives the record of a new entry, R61 and R96, the third alone takes class, fuel_level and wash_request from
the tag report, as R96 says; R156 gives the report's fields to a stray and speaks of no source. -/
def State.strayRecord? (s : State) (t : TagFields) (here : Resource) (next : NextStage) : VisitRecord × Bool :=
  match s.ownRecord? t.bus here with
  | some r => ({ r with stray := true, next := next }, false)
  | none =>
    match s.expectedElsewhere? t.bus here with
    | some r => ({ r with stray := true, next := next }, true)
    | none => (strayRecord t s.clock.m next, true)

/-- A record with the class, fuel_level and wash_request of a tag report (R156). -/
def VisitRecord.asRead (t : TagFields) (r : VisitRecord) : VisitRecord :=
  { r with cls := t.cls, fuelLevel := t.fuel, washRequest := t.wash }

/-- The record of an entry whose open claim a read settles, and whether a RECORD is awaited for it (R60, R95): the entry's copy
made a stray, with the fields of the report (R156). Where the node itself holds the bus's record, the entry takes that record
whole, as R38 step 1 gives, and awaits no RECORD (DEDUCED; log entries 11 and 61). -/
def State.claimedRecord (s : State) (t : TagFields) (here : Resource) (next : NextStage) (copy : VisitRecord) :
    VisitRecord × Bool :=
  match s.ownRecord? copy.bus here with
  | some r => ({ r with next := next, stray := true }, false)
  | none => ({ copy.asRead t with next := next, stray := true }, true)

/-- What the node gives up for a stray at `here`: its record of the bus, or its EXPECTED entry of it elsewhere, and
every bid entry of it (R38). DESIGN CHOICE (log entry 53): where the node holds the record, step 1 leaves an EXPECTED
entry of the bus at another place, made by the node's own TAKE of its own offer, until its timeout. DESIGN CHOICE (log entry
63): R38 gives no order within the event, and the OFFER of the next head, which the test of R23 places where an offer closes
here, joins the transmit queue before the STRAY; where it takes the last place and no LOW frame stands there, the STRAY is
discarded. -/
def State.clearForStray (b : Nat) (here : Resource) (s : State) : State :=
  let t :=
    if (s.ownRecord? b here).isSome then s.giveUpRecord b here
    else if (s.expectedElsewhere? b here).isSome then s.dropExpectedOf b (some here)
    else s
  t.dropBidsOf b

/-- The deadline of a RECORD awaited (R38). -/
def State.recordDeadline (s : State) (awaited : Bool) : Option Nat :=
  if awaited then some (s.clock.m + s.image.expectedTimeout) else none

/-- The STRAY frame and the STRAY report of a stray (R38), placed when the node has given up what it held of the bus (log
entry 63). -/
def State.announceStray (b : Nat) (here : Resource) (awaited : Bool) (s : State) : State :=
  (s.send (.stray b here)).report (.stray b here (if awaited then .awaited else .notAwaited))

/-- Where a record of the node may be taken by an entry read that turns an EXPECTED entry into the bus's record: the
entry takes that record's fields and the node gives the record up (R58, R94, R20). -/
def State.claimOwn (s : State) (b : Nat) (here : Resource) (next : NextStage) (copy : VisitRecord) : VisitRecord :=
  match s.ownRecord? b here with
  | some r => { r with next := next }
  | none => copy

/-- The RECORD that answers a STRAY for bus `b` from station `source`, built from the node's record at its removal
(R39, R41). DESIGN CHOICE (log entry 62): R39 gives no order within the event, and the model takes its items as they are
listed, so that the RECORD is placed before the cancelled offer's OFFER leaves the transmit queue; in a queue of 16 frames
with no LOW one to displace it is discarded, although the OFFER's removal would have made a place. -/
def State.answerStray (b source : Nat) (here : Resource) (s : State) : State :=
  match s.ownRecord? b here with
  | some r => (s.place (.record r) source).giveUpRecord b here
  | none => s

/-- A STRAY of another station for bus `b` (R39). The place `lane 6` stands for no place of the node. -/
def State.onStray (source b : Nat) (s : State) : State :=
  let t := (s.dropBidsOf b).dropExpectedOf b none
  let u := t.answerStray b source (.lane 6)
  State.settle s (State.testIfClosed u (u.cancelOffer (.bus b)))

end Sys2Proof.Machine
end

