-- ==== Sys2Proof/Machine/Lanes.lean ====
section
/-! DEFINITION. The Lane Controller (chapter 3): the berth bid (R52), reads at the lane entry (R57 to R62), reads at
the lane exit (R64 to R66), lane control (R67, R68), lane-clear (R71, R72), EXPECTED timeouts (R56). -/

namespace Sys2Proof.Machine

open Sys2Proof

/-! ## Pricing (R52) -/

/-- Whether the maintenance key is on (R69). -/
def State.keyOn (s : State) : Bool := s.level .maintenanceKey

/-- The cost and free length of lane `n` for a record, where the lane is priced (R50 to R52). -/
def State.berthPrice (s : State) (r : VisitRecord) (n : Nat) : Option (Nat × Nat) :=
  match s.lanes[n]? with
  | none => none
  | some l =>
    let len := s.image.lengthOf r.cls
    let laneLen := s.image.laneLengthOf n
    if l.state = .opened ∧ s.keyOn = false ∧ l.fits s.image laneLen len = true then
      some (l.cost s.image.openCost r.departs, l.freeAfter s.image laneLen len)
    else none

/-- The better of two priced lanes: lower cost, then less free length, then the one priced first (R52). -/
def betterLane (best : Option (Nat × Nat × Nat)) (n cost free : Nat) : Option (Nat × Nat × Nat) :=
  match best with
  | none => some (n, cost, free)
  | some (bn, bc, bf) => if cost < bc ∨ cost = bc ∧ free < bf then some (n, cost, free) else some (bn, bc, bf)

/-- The lane the node chooses for a record, with its cost (R52). -/
def State.berthBid (s : State) (r : VisitRecord) : Option (Nat × Nat) :=
  ((List.range s.lanes.length).foldl (fun best n =>
    match s.berthPrice r n with
    | none => best
    | some (cost, free) => betterLane best n cost free) none).map (fun b => (b.1, b.2.1))

/-! ## Reads at the lane entry (R57 to R62) -/

/-- The lane's entry of bus `b` becomes PARKED with visit record `v`, behind the last PARKED or CALLED entry, its
offer tag, value and deadline cleared (R58, R60). -/
def Lane.parkEntry (b : Nat) (v : VisitRecord) (awaited : Option Nat) (l : Lane) : Lane :=
  match l.entries.find? (fun e => e.visit.bus = b) with
  | none => l
  | some e =>
    let parked : LaneEntry :=
      { e with visit := v, state := .parked, tag := none, value := none, deadline := none, recordAwaited := awaited }
    { l with entries := parkBehind parked (l.entries.filter (fun x => decide (x.visit.bus ≠ b))) }

/-- The class of bus `b`'s entry in lane `n`, 0 where it has none. -/
def State.classIn (s : State) (n b : Nat) : Nat := ((s.laneEntry? n b).map (fun e => e.visit.cls)).getD 0

/-- The OVERFULL test of R49, made where the class of bus `b`'s entry in lane `n` is another than `old` (R49, R63). -/
def State.classTest (n b old : Nat) (s : State) : State := if s.classIn n b = old then s else s.overfullTest n b

/-- The bus came where the node took it (R58). Where the node's own record gives the entry another class, the OVERFULL
test of R49 follows (log entry 37). -/
def State.parkExpected (n : Nat) (e : LaneEntry) (s : State) : State :=
  let b := e.visit.bus
  let v := s.claimOwn b (.lane n) .parked e.visit
  ((s.giveUpRecord b (.lane n)).modLane n (Lane.parkEntry b v e.recordAwaited)).classTest n b e.visit.cls

/-- The bus left the lane unread and came in again at the rear (R59). DEDUCED (log entry 50): a CALLED one too, which R133
has keep its place "as the chapter Berths in Stacked Lanes gives". -/
def Lane.reenter (b : Nat) (l : Lane) : Lane :=
  match l.entries.find? (fun e => e.visit.bus = b) with
  | none => l
  | some e =>
    let others := l.entries.filter (fun x => decide (x.visit.bus ≠ b))
    { l with entries := parkBehind { e with unconfirmed := false } others }

/-- The bus came while the node's claim was open: the claim is settled in its favour and the entry is made a stray
(R60), with the record of `State.claimedRecord`. Where the class changes with it, the OVERFULL test of R49 follows (log
entry 37). DESIGN CHOICE (log entry 55): its report joins behind the STRAY report. -/
def State.parkClaimed (n : Nat) (t : TagFields) (e : LaneEntry) (s : State) : State :=
  let b := e.visit.bus
  let src := s.claimedRecord t (.lane n) .parked e.visit
  let freed := match e.tag with
    | some tag => s.removeBid tag
    | none => s
  State.classTest n b e.visit.cls
    (((freed.giveUpRecord b (.lane n)).modLane n (Lane.parkEntry b src.1 (s.recordDeadline src.2))).announceStray b (.lane n)
      src.2)

/-- The last TENTATIVE or EXPECTED entry of a lane, the one nearest the tail (R62). -/
def Lane.lastPending (l : Lane) : Option LaneEntry := l.entries.reverse.find? (fun e => !e.isFront)

/-- A place is made in a full lane by removing the pending entry nearest the tail (R62). -/
def State.makeLanePlace (n : Nat) (s : State) : State :=
  match s.lanes[n]? with
  | none => s
  | some l =>
    if l.entries.length < Config.laneCapacity then s
    else
      match l.lastPending with
      | none => s
      | some e =>
        let t := match e.tag with
          | some tag => s.removeBid tag
          | none => s
        let u := t.removeLaneEntries (fun k x => decide (k = n) && decide (x.visit.bus = e.visit.bus))
        if e.state = .expected then u.report (.missing e.visit.bus (.lane n) e.tag) else u

/-- A new PARKED entry (R61). -/
def LaneEntry.parkedStray (v : VisitRecord) (awaited : Option Nat) : LaneEntry :=
  { visit := v, state := .parked, tag := none, value := none, deadline := none, unconfirmed := false,
    recordAwaited := awaited, ask := .none, mark := none }

/-- A stray is inserted in lane `n` (R61, R62). DESIGN CHOICE (log entry 55): the STRAY report joins before the OVERFULL
report of the insertion. -/
def State.strayIntoLane (n : Nat) (t : TagFields) (s : State) : State :=
  let made := s.makeLanePlace n
  match made.lanes[n]? with
  | none => s
  | some l =>
    if Config.laneCapacity ≤ l.entries.length then
      (s.modLane n (fun l => { l with overfull := true })).report
        (.overfull n t.bus (l.occupied s.image) (s.image.laneLengthOf n) true)
    else
      let src := made.strayRecord? t (.lane n) .parked
      let cleared := made.clearForStray t.bus (.lane n)
      let inserted := cleared.modLane n (fun l =>
        { l with entries := parkBehind (LaneEntry.parkedStray src.1 (s.recordDeadline src.2)) l.entries })
      let announced := inserted.announceStray t.bus (.lane n) src.2
      match inserted.lanes[n]? with
      | some l' => if s.image.laneLengthOf n < l'.occupied s.image then announced.overfullTest n t.bus else announced
      | none => announced

/-- Whether a bid entry of a tag stands in the bid list (R57). -/
def State.holdsBid (s : State) (tag : Option Tag) : Bool := s.hand.bids.any (fun b => some b.tag = tag)

/-- An entry read of a bus at lane `n` (R57, R70). -/
def State.laneEntryRead (n : Nat) (t : TagFields) (s : State) : State :=
  match s.lanes[n]? with
  | none => s
  | some l =>
    if l.state = .unknown then s
    else
      match l.entries.find? (fun e => e.visit.bus = t.bus) with
      | none => State.settle s (s.strayIntoLane n t)
      | some e =>
        match e.state with
        | .parked => State.settle s (s.modLane n (Lane.reenter t.bus))
        | .called => State.settle s (s.modLane n (Lane.reenter t.bus))
        | .tentative => State.settle s (s.parkClaimed n t e)
        | .expected =>
          if s.holdsBid e.tag then State.settle s (s.parkClaimed n t e) else State.settle s (s.parkExpected n e)

/-! ## Reads at the lane exit (R64 to R66, R137) -/

/-- The GONE of a record handed over at its removal from lane `n` (R137, R138). -/
def State.sendGone (n : Nat) (e : LaneEntry) (s : State) : State :=
  s.send (.gone e.visit n s.clock.m (goneLate e.visit s.clock.m) (goneEarly e.visit e.state) false)

/-- The record of an unlisted GONE (section 11.4). -/
def unlistedRecord (t : TagFields) (m : Nat) : VisitRecord :=
  { bus := t.bus, cls := t.cls, fuelLevel := t.fuel, washRequest := t.wash, gateMinute := m, next := .parked,
    duty := Duty.unbound, fuelOutcome := none, litres := 0, washOutcome := none, stray := false }

/-- The PARKED and CALLED entries in front of a bus's place are marked unconfirmed (R65). -/
def markInFront (b : Nat) : List LaneEntry → List LaneEntry
  | [] => []
  | e :: es =>
    if e.visit.bus = b then e :: es
    else (if e.isFront then { e with unconfirmed := true } else e) :: markInFront b es

/-- An exit read of a bus at lane `n` (R64 to R66, R70). DESIGN CHOICE (log entry 64): R137 gives no order within the event, and
the GONE joins the transmit queue before the frames leave it that the removal takes back, the OFFER of a withdrawn swap request
and the BID or TAKE of a dropped SWAP bid (R37, R145); in a queue of 16 frames with no LOW one to displace it is discarded. -/
def State.laneExitRead (n : Nat) (t : TagFields) (s : State) : State :=
  match s.lanes[n]? with
  | none => s
  | some l =>
    match l.entries.find? (fun e => e.visit.bus = t.bus) with
    | none => s.send (.gone (unlistedRecord t s.clock.m) n s.clock.m false false true)
    | some e =>
      let freed := if e.isFront then s.modLane n (fun l => { l with entries := markInFront t.bus l.entries })
        else match e.tag with
          | some tag => s.removeBid tag
          | none => s
      let out := freed.removeLaneEntries (fun k x => decide (k = n) && decide (x.visit.bus = t.bus))
      State.settle s (out.sendGone n e)

/-! ## Lane-clear (R71, R72) -/

/-- The lane-clear input of lane `n` has become active (R71, R72). DESIGN CHOICE (log entry 43): of several entries removed
the GONE frames and MISSING reports are placed in list order from the head, and (log entry 64) before the frames leave the
transmit queue that the removal takes back. -/
def State.laneClear (n : Nat) (s : State) : State :=
  match s.lanes[n]? with
  | none => s
  | some l =>
    if l.state = .unknown then s.modLane n (fun _ => { state := .opened, entries := [], overfull := false })
    else
      let gone := l.entries.filter LaneEntry.isFront
      let out := s.removeLaneEntries (fun k e => decide (k = n) && e.isFront)
      State.settle s (gone.foldl (fun u e =>
        if e.unconfirmed then u.sendGone n e else u.report (.missing e.visit.bus (.lane n) none)) out)

/-! ## EXPECTED timeouts (R56) -/

/-- The EXPECTED lane entries that satisfy `q` and whose deadline is at or below m are removed, each with a MISSING
report (R56). -/
def State.expireLanes (q : LaneEntry → Bool) (s : State) : State :=
  let due := fun (e : LaneEntry) =>
    decide (e.state = .expected) && e.deadline.any (fun d => decide (d ≤ s.clock.m)) && q e
  let gone := (List.range s.lanes.length).flatMap (fun n =>
    (((s.lanes[n]?).map (fun l => l.entries.filter due)).getD []).map (fun e => (n, e)))
  if gone.isEmpty then s
  else
    let out := s.removeLaneEntries (fun _ e => due e)
    State.settle s (gone.foldl (fun u g => u.report (.missing g.2.visit.bus (.lane g.1) g.2.tag)) out)

/-! ## Lane control (R67, R68) -/

/-- A CLOSE_LANE for lane `n` (R67). -/
def State.closeLane (n : Nat) (s : State) : State :=
  match s.lanes[n]? with
  | some l => if l.state = .opened then s.modLane n (fun l => { l with state := .closed }) else s
  | none => s

/-- An OPEN_LANE for lane `n` (R68). -/
def State.openLane (n : Nat) (s : State) : State :=
  match s.lanes[n]? with
  | some l => if l.state = .closed ∧ s.keyOn = false then s.modLane n (fun l => { l with state := .opened }) else s
  | none => s

/-- What a CONTROL for a lane or a point does, where its source is the office station and the point, if it names one,
is configured; `onLane` and `onPoint` are its effects (R67, R107, R108). -/
def State.onControl (source : Nat) (payload : List Byte) (onLane : Nat → State → State)
    (onPoint : PointId → State → State) (s : State) : State :=
  if source ≠ Config.officeStation then s
  else
    match Resource.ofCode (octetAt payload 1) with
    | some (.lane n) => onLane n s
    | some (.point p) => if (s.pointImage p).kind = .none then s else onPoint p s
    | none => s

/-- A point's closed mark is set or cleared (R108, R128). -/
def State.setClosed (v : Bool) (p : PointId) (s : State) : State := s.modPoint p (fun w => { w with closed := v })

/-- CLEAR_POINT for point `p` (R107, R128). -/
def State.clearPoint (p : PointId) (s : State) : State :=
  match (s.pointImage p).kind with
  | .none => s
  | .fuel =>
    match (s.point p).state with
    | .fault => (s.modPoint p (fun v => { v with state := .idle })).startTest p
    | .clearing => s.modPoint p (fun v => { v with faultPending := false })
    | _ => s
  | .wash =>
    if (s.point p).state = .fault ∧ s.level (.machineB p) = false then
      (s.modPoint p (fun v => { v with state := .idle })).startTest p
    else s

end Sys2Proof.Machine
end

