-- ==== Sys2Proof/Machine/Fuel.lean ====
section
/-! DEFINITION. The Fuel Point Controller (chapter 5): the walk and the bid (R88 to R90), reads at a point's entry, in
the parts a washing lane shares (R93 to R96), reads at a fuel point's exit (R101, R104), pulses and the nozzle (R98,
R99), the nozzle timeout (R100), flow measurement and flow faults (R105, R106). -/

namespace Sys2Proof.Machine

open Sys2Proof

/-! ## The walk and the bid -/

/-- A walk of predicted starts through records, the candidate last: `step` gives start and finish of the record at a
position after a previous finish, or none (R89, R116). -/
def walkFrom (step : Nat → Nat → VisitRecord → Option (Nat × Nat)) :
    Nat → Nat → List VisitRecord → VisitRecord → Option (Nat × Nat)
  | j, prev, [], c => step j prev c
  | j, prev, r :: rs, c =>
    match step j prev r with
    | none => none
    | some x => walkFrom step (j + 1) x.2 rs c

/-- The records a walk takes before the candidate: WAITING, EXPECTED and TENTATIVE entries in queue order (R89). -/
def Point.walked (v : Point) : List VisitRecord :=
  (v.queue.filter (fun e => decide (e.state ≠ .serving) && decide (e.state ≠ .finished))).map (fun e => e.visit)

/-- The free time f0 of a fuel point (R88). -/
def State.fuelFree (s : State) (p : PointId) : Nat :=
  match (s.point p).state, (s.point p).service with
  | .busy, some sv => max (s.clock.m + 1) (sv.start + sv.duration)
  | .busy, none => s.clock.m + 1
  | _, _ => s.clock.m

/-- Predicted start and finish of a record at a fuel point after a previous finish (R87, R89). -/
def State.fuelStep (s : State) (p : PointId) (prev : Nat) (r : VisitRecord) : Option (Nat × Nat) :=
  (s.firstStart p (max prev s.clock.m)).map (fun x =>
    (x, x + fuelDuration (s.pointImage p).handling (neededLitres s.image r)
      (serviceRate (s.slotState p (x / 30)) (s.point p).rate)))

/-- The value of a fuel point for a FUEL offer, none in the cases of R90. -/
def State.fuelBid (s : State) (p : PointId) (r : VisitRecord) : Option Nat :=
  let v := s.point p
  if (s.pointImage p).kind ≠ .fuel ∨ v.state = .fault ∨ v.closed = true ∨ Config.queueCapacity ≤ v.queue.length then
    none
  else
    match walkFrom (fun _ prev x => s.fuelStep p prev x) 0 (s.fuelFree p) v.walked r with
    | none => none
    | some x =>
      if s.clock.dayLength ≤ x.2 ∨ r.departs < x.2 + s.image.margin then none else some x.1

/-! ## Reads at a point's entry (R93 to R96, R119) -/

/-- The next_stage of an entry at a point of a kind (R38, R119). -/
def PointKind.stageHere : PointKind → NextStage
  | .wash => .wash
  | _ => .fuel

/-- The entry of bus `b` becomes WAITING with visit record `v`, behind the last entry of the front part, its offer
tag, value and deadline cleared (R94, R95). -/
def Point.waitEntry (b : Nat) (v : VisitRecord) (awaited : Option Nat) (w : Point) : Point :=
  match w.entry? b with
  | none => w
  | some e =>
    let waiting : QueueEntry :=
      { e with visit := v, state := .waiting, tag := none, value := none, deadline := none, recordAwaited := awaited }
    { w with queue := queueBehind waiting (w.queue.filter (fun x => decide (x.visit.bus ≠ b))) }

/-- An EXPECTED entry with no bid entry left becomes WAITING; a record the node itself holds is taken into it (R94). -/
def State.waitExpected (p : PointId) (e : QueueEntry) (s : State) : State :=
  let b := e.visit.bus
  let v := s.claimOwn b (.point p) (s.pointImage p).kind.stageHere e.visit
  (s.giveUpRecord b (.point p)).modPoint p (Point.waitEntry b v e.recordAwaited)

/-- A claim still open is settled in favour of the bus: the entry becomes WAITING and a stray (R95), with the record of
`State.claimedRecord`. -/
def State.waitClaimed (p : PointId) (t : TagFields) (e : QueueEntry) (s : State) : State :=
  let b := e.visit.bus
  let src := s.claimedRecord t (.point p) (s.pointImage p).kind.stageHere e.visit
  let freed := match e.tag with
    | some tag => s.removeBid tag
    | none => s
  State.announceStray b (.point p) src.2
    ((freed.giveUpRecord b (.point p)).modPoint p (Point.waitEntry b src.1 (s.recordDeadline src.2)))

/-- A pending entry becomes WAITING by R94, or by R95 where its bid entry is still in the bid list (R93). -/
def State.waitPending (p : PointId) (t : TagFields) (e : QueueEntry) (s : State) : State :=
  if e.state = .expected ∧ s.holdsBid e.tag = false then s.waitExpected p e else s.waitClaimed p t e

/-- The last TENTATIVE or EXPECTED entry of a queue, the one nearest the tail (R96). -/
def Point.lastPending (v : Point) : Option QueueEntry := v.queue.reverse.find? (fun e => !e.isFront)

/-- A place is made in a full queue by removing the pending entry nearest the tail (R96). -/
def State.makeQueuePlace (p : PointId) (s : State) : State :=
  if (s.point p).queue.length < Config.queueCapacity then s
  else
    match (s.point p).lastPending with
    | none => s
    | some e =>
      let t := match e.tag with
        | some tag => s.removeBid tag
        | none => s
      let u := t.modPoint p (Point.dropEntry e.visit.bus)
      if e.state = .expected then u.report (.missing e.visit.bus (.point p) e.tag) else u

/-- A new WAITING entry (R96). -/
def QueueEntry.waitingStray (v : VisitRecord) (awaited : Option Nat) : QueueEntry :=
  { visit := v, state := .waiting, tag := none, value := none, deadline := none, recordAwaited := awaited,
    justServed := false, passedOn := false }

/-- A stray is inserted in a point's queue, or is reported as not listed where no place can be made (R96). -/
def State.strayIntoQueue (p : PointId) (t : TagFields) (s : State) : State :=
  let made := s.makeQueuePlace p
  if Config.queueCapacity ≤ (made.point p).queue.length then s.report (.stray t.bus (.point p) .notListed)
  else
    let src := made.strayRecord? t (.point p) (s.pointImage p).kind.stageHere
    let entry := QueueEntry.waitingStray src.1 (s.recordDeadline src.2)
    let cleared := made.clearForStray t.bus (.point p)
    (cleared.modPoint p (fun v => { v with queue := queueBehind entry v.queue })).announceStray t.bus (.point p) src.2

/-- The entry of bus `b` becomes FINISHED at a washing lane in FAULT, its record changed by `f`: it asks to join, unless it
awaits a RECORD (R119, R124, R126). -/
def State.finishFaulted (p : PointId) (b : Nat) (f : VisitRecord → VisitRecord) (s : State) : State :=
  match (s.point p).entry? b with
  | none => s
  | some e =>
    let t := s.modPoint p (Point.modEntry b (fun x => { x with state := .finished, visit := f x.visit, passedOn := true }))
    if e.recordAwaited.isSome then t else t.askJoin p b

/-- A washing lane in FAULT passes a WAITING bus on to another one (R119, R126). -/
def State.passOn (p : PointId) (b : Nat) (s : State) : State :=
  if ((s.point p).entry? b).any (fun e => decide (e.state = .waiting)) then
    s.finishFaulted p b (fun r => { r with next := .wash })
  else s

/-- What follows an entry read at a point: a washing lane in FAULT passes the bus on, any other point tests for a
start (R94 to R96, R119). -/
def State.afterEntry (p : PointId) (b : Nat) (s : State) : State :=
  if (s.pointImage p).kind = .wash ∧ (s.point p).state = .fault then s.passOn p b else s.startTest p

/-- An entry read of a bus at a service point (R93, R119). A bus already in the front part changes nothing. -/
def State.pointEntryRead (p : PointId) (t : TagFields) (s : State) : State :=
  match (s.point p).entry? t.bus with
  | none => State.settle s ((s.strayIntoQueue p t).afterEntry p t.bus)
  | some e => if e.isFront then s else State.settle s ((s.waitPending p t e).afterEntry p t.bus)

/-! ## The end of a fuel service (R98 to R102) -/

/-- fuel_outcome by the delivered and the needed litres (R99). -/
def fuelOutcomeOf (delivered needed : Nat) : FuelOutcome := if 9 * needed / 10 ≤ delivered then .done else .part

/-- The end of a service with the test for the end of CLEARING (R102, R103). -/
def State.endFuelTested (p : PointId) (outcome : FuelOutcome) (left : Bool) (s : State) : State :=
  (s.endFuel p outcome left).clearingTest p

/-- A flow pulse at a SERVING fuel point (R98); the enable goes off when the delivered litres reach the cap. -/
def State.onPulse (p : PointId) (s : State) : State :=
  let v := s.point p
  match v.state, v.service with
  | .busy, some sv =>
    let pulses := v.servicePulses + 1
    let delivered := min Config.litresCap (pulses / (s.pointImage p).pulsesPerLitre)
    let on := v.enable && decide (delivered < sv.cap)
    s.setPoint p
      { v with servicePulses := pulses, delivered := delivered, minutePulses := min Config.minutePulseCap (v.minutePulses + 1)
               enable := on, qualifies := v.qualifies && on }
  | _, _ => s

/-- The nozzle's debounced level has changed to lifted (R98). -/
def State.nozzleLifted (p : PointId) (s : State) : State :=
  if (s.point p).state = .busy then
    s.modPoint p (fun v => { v with service := v.service.map (fun sv => { sv with lifted := true }) })
  else s

/-- The nozzle's debounced level has changed to hung: the minute no longer qualifies, and a service whose nozzle was
lifted ends (R99, R105). -/
def State.nozzleHung (p : PointId) (s : State) : State :=
  let v := s.point p
  let t := s.modPoint p (fun v => { v with qualifies := false })
  match v.state, v.service with
  | .busy, some sv => if sv.lifted then t.endFuelTested p (fuelOutcomeOf v.delivered sv.needed) false else t
  | _, _ => t

/-- The nozzle timeout (R100). -/
def State.nozzleTimeout (p : PointId) (s : State) : State :=
  match (s.point p).state, (s.point p).service with
  | .busy, some sv =>
    if sv.lifted = false ∧ sv.deadline ≤ s.clock.m then s.endFuelTested p .skipped false else s
  | _, _ => s

/-! ## Reads at a fuel point's exit (R101, R103, R104) -/

/-- The bus in service drives off (R101). -/
def State.driveOff (p : PointId) (s : State) : State :=
  match (s.point p).service with
  | some sv =>
    s.endFuelTested p (if sv.lifted then fuelOutcomeOf (s.point p).delivered sv.needed else .skipped) true
  | none => s

/-- A WAITING bus leaves a fuel point unserved (R104). -/
def State.leaveUnfuelled (p : PointId) (b : Nat) (s : State) : State :=
  State.askJoin p b (s.modPoint p (Point.modEntry b (fun x =>
    { x with
      state := .finished
      visit := { x.visit with fuelOutcome := some .skipped, litres := 0, next := x.visit.afterFuel } })))

/-- Whether a bus is the served bus of a point in CLEARING (R103, R123). -/
def Point.isClearing (v : Point) (b : Nat) : Bool := decide (v.state = .clearing) && decide (v.served = some b)

/-- An exit read of the served bus in CLEARING counts toward the end of CLEARING, whatever the queue holds for the bus
(R103, R104, R123). -/
def State.countExit (p : PointId) (b : Nat) (s : State) : State :=
  if (s.point p).isClearing b then s.countLeft p else s

/-- An exit read of a bus at a fuel point (R101, R103, R104). Where the served bus in CLEARING has an entry again, by a
later read at the entry, the read is taken for that entry and then counted (log entry 38). -/
def State.fuelExitRead (p : PointId) (t : TagFields) (s : State) : State :=
  let b := t.bus
  match (s.point p).entry? b with
  | none => s.countExit p b
  | some e =>
    match e.state with
    | .serving => s.driveOff p
    | .waiting => (s.leaveUnfuelled p b).countExit p b
    | .finished => s.countExit p b
    | .tentative => State.settle s (((s.waitPending p t e).leaveUnfuelled p b).countExit p b)
    | .expected => State.settle s (((s.waitPending p t e).leaveUnfuelled p b).countExit p b)

/-! ## Flow measurement (R105, R106) -/

/-- Whether a minute interval that begins now would qualify (R105). -/
def State.flowConditions (s : State) (p : PointId) : Bool :=
  let v := s.point p
  decide ((s.pointImage p).kind = .fuel) && decide (v.state = .busy) && v.enable && s.level (.machineA p)

/-- The rate estimate after a qualifying interval (R105). -/
def newRate (rate pulses perLitre : Nat) : Nat := max 1 (min 250 ((3 * rate + pulses / perLitre) / 4))

/-- The measurement of an interval that a minute event completes (R105, R106). -/
def State.measureFlow (p : PointId) (s : State) : State :=
  s.modPoint p (fun v =>
    { v with
      rate := if v.qualifies then newRate v.rate v.minutePulses (s.pointImage p).pulsesPerLitre else v.rate
      dryMinutes :=
        if v.qualifies ∧ v.minutePulses = 0 then min Config.dryLimit (v.dryMinutes + 1) else 0 })

/-- A flow fault, where the dry minutes have reached 3 in a service (R106). -/
def State.flowFault (p : PointId) (s : State) : State :=
  let v := s.point p
  match v.state, v.service, v.serving? with
  | .busy, some sv, some e =>
    if Config.dryLimit ≤ v.dryMinutes then
      let t := s.report (.fuelFault e.visit.bus p v.delivered sv.needed)
      (t.modPoint p (fun v => { v with faultPending := true })).endFuelTested p .part false
    else s
  | _, _, _ => s

/-- A new minute interval begins at a point (R105). -/
def State.beginInterval (p : PointId) (s : State) : State :=
  s.modPoint p (fun v => { v with minutePulses := 0, qualifies := s.flowConditions p })

end Sys2Proof.Machine
end

