-- ==== Sys2Proof/Machine/Wash.lean ====
section
/-! DEFINITION. The Wash Lane Controller (chapter 6): the projection and the bid (R115 to R117), completion and the
stencil (R113, R121, R122), reads at a washing lane's exit (R123, R124), faults (R125 to R127), and what both kinds of
point do on the point-occupied input and at a minute event. -/

namespace Sys2Proof.Machine

open Sys2Proof

/-! ## The projection and the bid -/

/-- Whether a projected place allows a full cycle (R115): places past 11 are read from the staged stencil if one is
staged. -/
def Point.projectedPlace (v : Point) (q : Nat) : Bool :=
  if q ≤ 11 then stencilAt v.stencil q else stencilAt (v.staged.getD v.stencil) (q - 12)

/-- The projected place of position `j` of a walk (R115). -/
def Point.projectedIndex (v : Point) (j : Nat) : Nat :=
  v.pointer + j + (if v.state = .busy ∧ v.cycle.any (fun c => c.advance) = true then 1 else 0)

/-- The free time f0 of a washing lane (R116): of its running cycle while a start output is on. -/
def State.washFree (s : State) (p : PointId) : Nat :=
  match (s.point p).cycle with
  | some c => max (s.clock.m + 1) (c.start + c.nominal)
  | none => s.clock.m

/-- The projected type of a record at position `j` with projected start `x` (R115). -/
def State.projectedType (s : State) (p : PointId) (j x : Nat) (r : VisitRecord) : CycleType :=
  let v := s.point p
  cycleType r.washRequest (v.projectedPlace (v.projectedIndex j)) (s.slotState p (x / 30))

/-- Predicted start and finish of a record at a washing lane after a previous finish (R116). -/
def State.washStep (s : State) (p : PointId) (j prev : Nat) (r : VisitRecord) : Option (Nat × Nat) :=
  (s.firstStart p (max prev s.clock.m)).map (fun x =>
    (x, x + cycleMinutes (s.pointImage p) (s.projectedType p j x r)))

/-- The value of a washing lane for a WASH offer, none in the cases of R117. -/
def State.washBid (s : State) (p : PointId) (r : VisitRecord) : Option Nat :=
  let v := s.point p
  if (s.pointImage p).kind ≠ .wash ∨ v.state = .fault ∨ v.closed = true ∨ Config.queueCapacity ≤ v.queue.length then
    none
  else
    match walkFrom (s.washStep p) 0 (s.washFree p) v.walked r with
    | none => none
    | some x =>
      let type := s.projectedType p v.walked.length x.1 r
      let value := x.1 + (if r.washRequest = .full ∧ type = .rinse then Config.rinsePenalty else 0)
      if s.clock.dayLength ≤ x.2 ∨ r.departs < x.2 + s.image.margin ∨ s.clock.dayLength ≤ value then none
      else some value

/-! ## Completion (R113, R121 to R123, R127) -/

/-- The stencil after a cycle on place `q` completes: the next place, or a reload after place 11 (R113). -/
def Point.advanceStencil (v : Point) (q : Nat) : Point :=
  if q < 11 then { v with pointer := q + 1 }
  else { v with pointer := 0, stencil := v.staged.getD v.stencil, staged := none }

/-- The washed bus's entry becomes FINISHED with an outcome and goes to its berth, the lane in state `st` (R122). -/
def State.finishWash (p : PointId) (st : PointState) (outcome : VisitRecord → WashOutcome) (s : State) : State :=
  match (s.point p).serving? with
  | none => s.modPoint p (fun v => { v with state := st })
  | some e =>
    let clear := s.pointClear p
    let t := s.modPoint p (fun v =>
      { v.modEntry e.visit.bus (fun x =>
          { x with
            state := .finished, justServed := decide (st = .clearing)
            visit := { x.visit with washOutcome := some (outcome x.visit), next := .berth } }) with
        state := st, left := v.left || clear })
    t.askJoin p e.visit.bus

/-- The DONE input of a washing lane has become active (R121): a running cycle completes, and an orphaned one ends
without outcome or advance (R127). -/
def State.washDone (p : PointId) (s : State) : State :=
  let v := s.point p
  match v.cycle with
  | none => s
  | some c =>
    let t := s.modPoint p (fun v =>
      let w := { v with startOutput := .off, cycle := none }
      if c.advance then w.advanceStencil c.place else w)
    let u := if v.state = .busy then t.finishWash p .clearing (fun r => washOutcome r.washRequest c.type) else t
    u.clearingTest p

/-! ## Faults (R125 to R127) -/

/-- What a fault does to one entry of the queue behind the faulted bus (R126). -/
def State.faultEntry (p : PointId) (s : State) (e : QueueEntry) : State :=
  match e.state with
  | .waiting => s.passOn p e.visit.bus
  | .expected =>
    let t := match e.tag with
      | some tag => s.removeBid tag
      | none => s
    (t.modPoint p (Point.dropEntry e.visit.bus)).report (.missing e.visit.bus (.point p) e.tag)
  | .tentative =>
    let t := match e.tag with
      | some tag => s.removeBid tag
      | none => s
    t.modPoint p (Point.dropEntry e.visit.bus)
  | .finished => s
  | .serving => s

/-- A fault empties the queue, in queue order (R126). -/
def State.emptyQueue (p : PointId) (s : State) : State := (s.point p).queue.foldl (State.faultEntry p) s

/-- A machine fault of a running cycle (R125) or of an orphaned one (R127). -/
def State.washFault (p : PointId) (cause : WashFaultCause) (s : State) : State :=
  match (s.point p).cycle with
  | none => s
  | some c =>
    let bus := ((s.point p).serving?.map (fun e => e.visit.bus)).getD 0
    let off := s.modPoint p (fun v => { v with startOutput := .off, cycle := none })
    let ended := off.finishWash p .fault (fun _ => .skipped)
    let stopped := ended.modPoint p (fun v => { v with served := none, left := false })
    (stopped.report (.washFault bus p c.type c.place cause)).emptyQueue p

/-- The DONE timeout of a running or orphaned cycle (R125, R127). -/
def State.doneTimeout (p : PointId) (s : State) : State :=
  match (s.point p).cycle with
  | some c => if c.deadline ≤ s.clock.m then s.washFault p .timeout else s
  | none => s

/-! ## Reads at a washing lane's exit (R123, R124) -/

/-- The record of a bus that leaves a washing lane unwashed (R124). -/
def VisitRecord.unwashed (r : VisitRecord) : VisitRecord := { r with washOutcome := some .skipped, next := .berth }

/-- A WAITING bus leaves a washing lane unwashed (R124). -/
def State.leaveUnwashed (p : PointId) (b : Nat) (s : State) : State :=
  State.askJoin p b (s.modPoint p (Point.modEntry b (fun x => { x with state := .finished, visit := x.visit.unwashed })))

/-- A bus whose pending entry has just been taken as arrived leaves a washing lane unwashed (R124). In FAULT its entry is one
that R119 has made FINISHED: it does not ask to join while it awaits its RECORD (log entry 19). -/
def State.leaveArrived (p : PointId) (b : Nat) (s : State) : State :=
  if (s.point p).state = .fault then s.finishFaulted p b VisitRecord.unwashed else s.leaveUnwashed p b

/-- An exit read of a bus at a washing lane (R123, R124). Where the washed bus in CLEARING has an entry again, by a later
read at the entry, the read is taken for that entry and then counted (log entry 38). -/
def State.washExitRead (p : PointId) (t : TagFields) (s : State) : State :=
  let b := t.bus
  match (s.point p).entry? b with
  | none => s.countExit p b
  | some e =>
    match e.state with
    | .serving => s.modPoint p (fun v => { v with left := true })
    | .waiting => (s.leaveUnwashed p b).countExit p b
    | .finished => s.countExit p b
    | .tentative => State.settle s (((s.waitPending p t e).leaveArrived p b).countExit p b)
    | .expected => State.settle s (((s.waitPending p t e).leaveArrived p b).countExit p b)

/-! ## Both kinds of point -/

/-- The point-occupied input has become clear: the served bus has left (R103, R123). -/
def State.pointCleared (p : PointId) (s : State) : State :=
  let v := s.point p
  if v.state = .clearing then s.countLeft p
  else if (s.pointImage p).kind = .wash ∧ v.state = .busy then s.modPoint p (fun v => { v with left := true })
  else s

/-- An exit read at a point, by its kind (R156). -/
def State.pointExitRead (p : PointId) (t : TagFields) (s : State) : State :=
  match (s.pointImage p).kind with
  | .fuel => s.fuelExitRead p t
  | .wash => s.washExitRead p t
  | .none => s

/-- The RECORD awaited marks of a queue that satisfy `q` and whose deadline is at or below m are cleared (R42). -/
def State.expireRecords (p : PointId) (q : QueueEntry → Bool) (s : State) : State :=
  s.modPoint p (fun v => { v with queue := v.queue.map (fun e =>
    if e.recordAwaited.any (fun d => decide (d ≤ s.clock.m)) && q e then { e with recordAwaited := none } else e) })

/-- A minute event at a point (R92, R100, R102, R105, R106, R118, R119, R122, R125): first the measurement, where the
event completes an interval, then what falls due, then the joins asked again; then the next interval begins. -/
def State.pointMinute (p : PointId) (completes : Bool) (s : State) : State :=
  match (s.pointImage p).kind with
  | .none => s
  | .fuel =>
    let measured := if completes then (s.measureFlow p).flowFault p else s
    let due := ((measured.nozzleTimeout p).expireQueue p (fun _ => true)).expireRecords p (fun _ => true)
    (due.retryJoins p).beginInterval p
  | .wash =>
    let due := ((s.doneTimeout p).expireQueue p (fun _ => true)).expireRecords p (fun _ => true)
    due.retryJoins p

end Sys2Proof.Machine
end

