-- ==== Sys2Proof/Machine/PullOut.lean ====
section
/-! DEFINITION. The Pull-Out Controller (chapter 7): calls at a minute event (R131), swap requests and blocked runs
(R140, R141), late runs (R139), the bid with a lane head (R143, R144), take marks and their binding (R146, R147), the
asking bus at commit and at the second expiry (R148, R149). -/

namespace Sys2Proof.Machine

open Sys2Proof

/-! ## Calls at a minute event (R131) -/

/-- The ask state of the entry of bus `b` in lane `n` is set (R130). -/
def State.setAsk (n b : Nat) (a : AskState) (s : State) : State :=
  s.modLane n (fun l => { l with entries := l.entries.map (fun e => if e.visit.bus = b then { e with ask := a } else e) })

/-- The need of an entry with these entries ahead of it (R140). -/
def needOf (ahead : List LaneEntry) : Nat := ahead.foldl (fun n e => max n e.visit.departs) 0

/-- The swap request of a blocked entry (R140). -/
def swapRequestOf (e : LaneEntry) (ahead : List LaneEntry) : SwapRequest :=
  { run := e.visit.duty.run, cls := e.visit.cls, wall := e.visit.duty.wall, departure := e.visit.duty.departure,
    need := needOf ahead }

/-- A swap request is made; a full outbound list refuses it and leaves the ask state as it is (R140). The list holds no run
twice among its swap requests (R21). DESIGN CHOICE (log entry 52): where a further PARKED entry carries a run that a request
of the list names, its own request is refused as by a full list, and it asks again at the next minute event. -/
def State.askSwap (n : Nat) (e : LaneEntry) (ahead : List LaneEntry) (s : State) : State :=
  if s.outboundFull || (s.item? (.swapRun e.visit.duty.run)).isSome then s
  else (s.setAsk n e.visit.bus .asking).join (.swap (swapRequestOf e ahead)) none

/-- A run is BLOCKED: the report is placed and the ask state becomes REFUSED (R141, R149). -/
def State.blockRun (n : Nat) (e : LaneEntry) (cause : BlockedCause) (s : State) : State :=
  (s.report (.blocked e.visit.bus e.visit.duty.run n e.visit.duty.departure cause)).setAsk n e.visit.bus .refused

/-- Whether R131 takes an entry: due with ask state NONE, or due at the head. -/
def LaneEntry.isTaken (lead m : Nat) (isHead : Bool) (e : LaneEntry) : Bool :=
  e.isDue lead m && (isHead || decide (e.ask = .none))

/-- The buses of the entries R131 takes in a lane, in list order. -/
def takenBuses (lead m : Nat) : List LaneEntry → List Nat
  | [] => []
  | e :: es =>
    (if e.isTaken lead m true then [e.visit.bus] else [])
      ++ (es.filter (LaneEntry.isTaken lead m false)).map (fun x => x.visit.bus)

/-- An entry taken by R131 is dealt with by its place in lane `n`. -/
def State.dealDue (n : Nat) (s : State) (b : Nat) : State :=
  match (s.lanes[n]?).map (fun l => (l.entries.takeWhile (fun e => decide (e.visit.bus ≠ b)),
      l.entries.find? (fun e => e.visit.bus = b))) with
  | some ([], some e) => if s.headWaits n then s else s.callEntry n e
  | some (ahead, some e) =>
    if ahead.all (fun x => decide (x.state = .called)) then s
    else if e.visit.duty.pinned then s.blockRun n e .pinned
    else s.askSwap n e ahead
  | _ => s

/-- The call times of lane `n` are tested (R131); an UNKNOWN lane is not. -/
def State.callLane (s : State) (n : Nat) : State :=
  match s.lanes[n]? with
  | none => s
  | some l =>
    if l.state = .unknown then s
    else (takenBuses s.image.callLead s.clock.m l.entries).foldl (State.dealDue n) s

/-- The call times of every lane are tested, lane by lane (R131). -/
def State.callTimes (s : State) : State := (List.range s.lanes.length).foldl State.callLane s

/-! ## Late runs (R139, R152) -/

/-- A record of the node with where it stands and whether it is CALLED (R139). -/
structure Standing where
  visit : VisitRecord
  place : RunPlace
  called : Bool
deriving DecidableEq, Repr

/-- The records of a lane. -/
def laneStandings (n : Nat) (l : Lane) : List Standing :=
  (l.entries.filter LaneEntry.isFront).map (fun e =>
    { visit := e.visit, place := .at (.lane n), called := decide (e.state = .called) })

/-- The records of a point's queue. -/
def pointStandings (p : PointId) (v : Point) : List Standing :=
  (v.queue.filter QueueEntry.isFront).map (fun e => { visit := e.visit, place := .at (.point p), called := false })

/-- The records of every lane. -/
def State.lanesStandings (s : State) : List Standing :=
  (List.range s.lanes.length).flatMap (fun n => ((s.lanes[n]?).map (laneStandings n)).getD [])

/-- Every record the late test reads (R139). DESIGN CHOICE (log entry 48): the reports of one test join in this order, the
outbound list, point 0, point 1, and then the lanes. -/
def State.standings (s : State) : List Standing :=
  (s.hand.outbound.filterMap OutItem.visit?).map (fun r => { visit := r, place := .outboundList, called := false })
    ++ pointStandings .p0 s.point0 ++ pointStandings .p1 s.point1 ++ s.lanesStandings

/-- A run is reported LATE and joins the late set, where it is not there yet (R139). -/
def State.reportLate (s : State) (x : Standing) : State :=
  if s.lateRuns.contains x.visit.duty.run then s
  else
    State.report (.late x.visit.bus x.visit.duty.run x.visit.duty.departure x.place x.called)
      { s with lateRuns := s.lateRuns ++ [x.visit.duty.run] }

/-- Whether a record is past its departure (R139). -/
def Standing.isLate (m : Nat) (x : Standing) : Bool := x.visit.isBound && decide (x.visit.duty.departure < m)

/-- The late test over the records that satisfy `q` (R139). -/
def State.lateTest (q : Standing → Bool) (s : State) : State :=
  (s.standings.filter (fun x => x.isLate s.clock.m && q x)).foldl State.reportLate s

/-- LATE for every run held in a CALLED lane entry, before a rollover (R8 step 1, R152). DESIGN CHOICE (log entry 48):
the reports of one rollover join by rising lane number, each lane in list order. -/
def State.lateCalled (s : State) : State :=
  (s.lanesStandings.filter (fun x => x.called && decide (x.visit.duty.run ≠ 0))).foldl State.reportLate s

/-! ## The bid with a lane head (R143, R144) -/

/-- Whether a head entry of an OPEN or CLOSED lane is eligible for a request (R143). -/
def State.isEligible (s : State) (q : SwapRequest) (e : LaneEntry) : Bool :=
  decide (e.state = .parked) && decide (e.visit.cls = q.cls) && !e.visit.duty.pinned
    && decide (q.departure < e.visit.departs) && e.recordAwaited.isNone && !e.unconfirmed && e.mark.isNone
    && !s.isHeadBid e.visit.bus && (callTime s.image.callLead e.visit).all (fun t => decide (s.clock.m < t))

/-- The value of an eligible head (R144). -/
def headValue (need departure : Nat) : Nat :=
  if need ≤ departure then departure - need else 2000 + (need - departure)

/-- The eligible head of lane `n` with its value. -/
def State.headPrice (s : State) (q : SwapRequest) (n : Nat) : Option (Nat × LaneEntry) :=
  match s.lanes[n]? with
  | none => none
  | some l =>
    match l.entries.head? with
    | none => none
    | some e =>
      if l.state ≠ .unknown ∧ s.isEligible q e = true then some (headValue q.need e.visit.departs, e) else none

/-- The head fields a SWAP bid carries: run 0 and no departure_wall for a head that is not BOUND (R145). -/
def LaneEntry.headFields (e : LaneEntry) : HeadFields :=
  if e.visit.isBound then
    { bus := e.visit.bus, run := e.visit.duty.run, wall := e.visit.duty.wall, departure := e.visit.duty.departure }
  else { bus := e.visit.bus, run := 0, wall := none, departure := Config.spareDeparture }

/-- The lane, value and head of the node's bid for a request: lowest value, then lowest lane number (R144). -/
def State.swapBid (s : State) (q : SwapRequest) : Option (Nat × Nat × HeadFields) :=
  (List.range s.lanes.length).foldl (fun best n =>
    match s.headPrice q n, best with
    | some (v, e), some (bn, bv, bh) => if v < bv then some (n, v, e.headFields) else some (bn, bv, bh)
    | some (v, e), none => some (n, v, e.headFields)
    | none, _ => best) none

/-! ## Take marks (R146, R147) -/

/-- The marked entry of a tag. -/
def State.marked? (s : State) (tag : Tag) : Option LaneEntry :=
  s.laneEntries.find? (fun e => (e.mark.map (fun k => k.tag)) = some tag)

/-- The lane entries of a bus changed in their places. -/
def State.modLaneBus (b : Nat) (f : LaneEntry → LaneEntry) (s : State) : State :=
  s.setLanes (s.lanes.map (fun l => { l with entries := l.entries.map (fun e => if e.visit.bus = b then f e else e) }))

/-- A take mark ends without a binding (R146). -/
def State.clearMark (tag : Tag) (s : State) : State :=
  match s.marked? tag with
  | none => s
  | some e => s.modLaneBus e.visit.bus (fun x => { x with mark := none })

/-- The mark of bus `b` ends: the bus is bound to the run taken, unless a CALLED entry carries it (R147). The bus is not
pinned: the DUTY or RECORD that pins a marked bus ends its mark (R15; `State.dropChangedHeads`). DEDUCED (log entry 60):
every other carrier of the run is unbound as R147 says, a pinned one too, though R15 has no pinned record's run moved. -/
def State.bindTaken (b : Nat) (k : TakeMark) (s : State) : State :=
  let t := s.modLaneBus b (fun x => { x with mark := none })
  if t.runCalled k.run then t
  else (t.bindBus b k.run (k.wall.getD 0) false true).modLaneBus b (fun x => { x with ask := .none })

/-- The take mark of an offer ends with its binding (R146, R147). -/
def State.bindMark (tag : Tag) (s : State) : State :=
  match s.marked? tag with
  | none => s
  | some e =>
    match e.mark with
    | none => s
    | some k => s.bindTaken e.visit.bus k

/-! ## The asking bus (R148, R149) -/

/-- The asking entry of a run, with its lane: the entry the swap request was made for (R148, R149). The run of a pinned one
is not moved (R15). R148 speaks of the PARKED entry that carries the run. DESIGN CHOICE (log entry 52): where several PARKED
entries carry it, the one that asks is meant; of several that ask, the first by lane number and list order. -/
def State.asker? (s : State) (run : Nat) : Option (Nat × LaneEntry) :=
  (List.range s.lanes.length).findSome? (fun n =>
    ((s.lanes[n]?).bind (fun l => l.entries.find? (fun e => e.asksFor run && !e.visit.duty.pinned))).map (fun e => (n, e)))

/-- The asking bus is rebound to the head's former run at the commit of a SWAP offer for a run; it is unbound where
the head was a spare, or where a CALLED entry carries that run (R148). DEDUCED (log entry 60): every other carrier of the
head's run is unbound as R148 says, a pinned one too, though R15 has no pinned record's run moved. -/
def State.rebindAsker (run : Nat) (h : HeadFields) (s : State) : State :=
  match s.asker? run with
  | none => s
  | some (_, e) =>
    let b := e.visit.bus
    let t :=
      if h.run ≠ 0 ∧ s.runCalled h.run = false then s.bindBus b h.run (h.wall.getD 0) false true
      else s.unbindBus b
    t.modLaneBus b (fun x =>
      { x with ask := .none, visit := { x.visit with duty := { x.visit.duty with substituted := true } } })

/-- The second expiry of a SWAP offer for a run: BLOCKED with cause NO_SWAP (R149). -/
def State.refuseSwap (run : Nat) (s : State) : State :=
  match s.asker? run with
  | none => s
  | some (n, e) => s.blockRun n e .noSwap

/-- A minute event at the Pull-Out Controller: the calls, then the late test (R131, R139). -/
def State.pullOutMinute (s : State) : State := s.callTimes.lateTest (fun _ => true)

end Sys2Proof.Machine
end

