-- ==== Sys2Proof/Machine/Handover.lean ====
section
/-! DEFINITION. The Handover Controller's protocol (chapter 2): the holder's offer (R25 to R29), bids (R30 to R33),
takes (R34), superseded tags (R24, R35), DUTY (R12, R36), RECORD (R42, R63), the duty wait (R16). -/

namespace Sys2Proof.Machine

open Sys2Proof

/-- The node with every bid entry changed. -/
def State.modBids (f : BidEntry → BidEntry) (s : State) : State :=
  { s with hand := { s.hand with bids := s.hand.bids.map f } }

/-! ## The holder's offer (R25 to R29) -/

/-- The better of two heard TAKEs, by value and then by source address; of equal ones the first heard (R27). -/
def betterTake (a b : HeardTake) : HeardTake := if betterBid (b.value, b.source) (a.value, a.source) then b else a

/-- The best of the TAKEs heard (R27). -/
def bestTake : List HeardTake → Option HeardTake
  | [] => none
  | t :: ts => some (ts.foldl betterTake t)

/-- The item's guidance output shows the taker's address and resource (R27, R167). -/
def State.showTaker (it : OutItem) (t : HeardTake) (s : State) : State :=
  match it.place, it.cargo with
  | some place, .visit r => s.setGuide place (.destination t.source t.resource) (some r.bus)
  | _, _ => s

/-- The commit of the open offer to a TAKE (R27, R148). DESIGN CHOICE (log entry 59): every OFFER of the node that is not
being sent is removed with a queued re-offer. DESIGN CHOICE (log entry 66): the test of R23 comes before the withdrawal of a
swap request whose carrier the rebinding of R148 unbinds, so that an offer of that request may be started, and its number
spent, in the event that withdraws it. -/
def State.commit (o : OpenOffer) (t : HeardTake) (s : State) : State :=
  match s.item? o.key with
  | none => s.setOffer none
  | some it =>
    let closed := State.dropFrames FrameBody.isOffer ((s.removeItem o.key).setOffer none)
    let shown := closed.showTaker it t
    let rebound := match it.cargo, t.head with
      | .swap q, some h => shown.rebindAsker q.run h
      | _, _ => shown
    rebound.offerTest

/-- The record of an item after its second expiry (R19, R29). -/
def skipStage (r : VisitRecord) : VisitRecord :=
  match r.next with
  | .fuel => { r with fuelOutcome := some .skipped, litres := 0, next := r.afterFuel }
  | .wash => { r with washOutcome := some .skipped, next := .berth }
  | _ => r

/-- The node with a further join counted (R21). -/
def State.countJoin (s : State) : State := { s with hand := { s.hand with joins := s.hand.joins + 1 } }

/-- An item moves on to its next stage (R22, R29). -/
def State.skipItem (k : ItemKey) (r : VisitRecord) (s : State) : State :=
  s.modItem k (fun i => { i with cargo := .visit (skipStage r), ready := s.clock.m, offerCount := 0, lastNumber := 0 })

/-- A bus is stranded: its item waits for the stranded retry as if it had just joined, and the guidance output of its
place shows HOLD (R22, R29). -/
def State.strandItem (it : OutItem) (r : VisitRecord) (s : State) : State :=
  let reported := s.report (.stranded r.bus r.cls r.duty.departure)
  let waits := reported.modItem it.key (fun i =>
    { i with ready := s.clock.m + s.image.strandedRetry, joinOrder := s.hand.joins, offerCount := 0, lastNumber := 0 })
  match it.place with
  | some place => waits.countJoin.setGuide place .hold (some r.bus)
  | none => waits.countJoin

/-- The second expiry of the open offer, by stage (R22, R29, R149). -/
def State.secondExpiry (o : OpenOffer) (s : State) : State :=
  match s.item? o.key with
  | none => s.setOffer none
  | some it =>
    let closed := s.setOffer none
    let moved := match it.cargo with
      | .swap q => (closed.removeItem o.key).refuseSwap q.run
      | .visit r =>
        match r.next with
        | .fuel => closed.skipItem o.key r
        | .wash => closed.skipItem o.key r
        | _ => closed.strandItem it r
    moved.offerTest

/-- The end of the bid window of the node's own offer (R25). -/
def State.offerWindowEnd (s : State) : State :=
  match s.hand.offer with
  | some o => if o.phase = .bidding then s.setOffer (some { o with phase := .takeWait }) else s
  | none => s

/-- The end of the take wait of the node's own offer: commit, first expiry or second expiry (R25, R27 to R29). -/
def State.takeWaitEnd (s : State) : State :=
  match s.hand.offer with
  | none => s
  | some o =>
    if o.phase ≠ .takeWait then s
    else
      State.settle s (match bestTake o.takes with
        | some t => s.commit o t
        | none => if ((s.item? o.key).map (fun i => i.offerCount)).getD 1 < 2 then s.placeReoffer o else s.secondExpiry o)

/-- The node's own OFFER has ended on the line (R25, R28): the bid window of its number starts. A number that is not
the open offer's queued one changes nothing. -/
def State.ownOfferHeard (number : Nat) (s : State) : State :=
  match s.hand.offer with
  | none => s
  | some o =>
    if (o.phase = .queued ∧ o.number = number) ∨ (o.phase = .reofferQueued ∧ o.reNumber = number ∧ number ≠ 0) then
      (s.setOffer (some { o with number := number, reNumber := 0, phase := .bidding, takes := [] })).modItem o.key
        (fun i => { i with lastNumber := number })
    else s

/-- The node's OFFER is discarded without being sent (R25, R28). -/
def State.ownOfferDiscarded (number : Nat) (s : State) : State :=
  match s.hand.offer with
  | none => s
  | some o =>
    if o.phase = .queued ∧ o.number = number then
      ((s.setOffer none).modItem o.key (fun i => { i with offerCount := o.countBefore })).offerTest
    else if o.phase = .reofferQueued ∧ o.reNumber = number then s.placeReoffer o
    else s

/-! ## Hearing an OFFER (R24, R30, R31, R35) -/

/-- The tags that an OFFER of bus `b` by holder `h` under number `n` closes: those of the node's bid entries and
EXPECTED entries of the bus that name the same holder and another number (R35). -/
def State.closedTags (s : State) (h n b : Nat) : List Tag :=
  let closes := fun (t : Option Tag) => t.any (fun t => decide (t.holder = h) && decide (t.number ≠ n))
  let fromBids := (s.hand.bids.filter (fun e =>
    decide (e.stage ≠ .swap) && decide (e.bus = b) && closes (some e.tag))).map (fun e => e.tag)
  let fromQueue := fun (v : Point) => (v.queue.filter (fun e =>
    decide (e.visit.bus = b) && decide (e.state = .expected) && closes e.tag)).filterMap (fun e => e.tag)
  let fromLanes := (s.laneEntries.filter (fun e =>
    decide (e.visit.bus = b) && decide (e.state = .expected) && closes e.tag)).filterMap (fun e => e.tag)
  fromBids ++ fromQueue s.point0 ++ fromQueue s.point1 ++ fromLanes

/-- An EXPECTED entry's tag is cleared where a new offer carries the same tag (R24). -/
def State.clearTag (tag : Tag) (s : State) : State :=
  let lane := fun (e : LaneEntry) => if e.state = .expected ∧ e.tag = some tag then { e with tag := none } else e
  let queue := fun (e : QueueEntry) => if e.state = .expected ∧ e.tag = some tag then { e with tag := none } else e
  let t := s.setLanes (s.lanes.map (fun l => { l with entries := l.entries.map lane }))
  { t with point0 := { t.point0 with queue := t.point0.queue.map queue }
           point1 := { t.point1 with queue := t.point1.queue.map queue } }

/-- What a heard OFFER removes before the bid decision (R35, R24, R146). -/
def State.supersede (h : Nat) (f : OfferFields) (s : State) : State :=
  let old : Tag := { holder := h, number := f.supersedes }
  let t := if f.supersedes = 0 then s else (s.dropClaim old).clearMark old
  let u := match f.cargo with
    | .visit r => (t.closedTags h f.number r.bus).foldl (fun (u : State) tag => u.dropClaim tag) t
    | .swap _ => t
  let new : Tag := { holder := h, number := f.number }
  State.settle s ((u.clearTag new).clearMark new)

/-- The better of the two points' values, point 0 among equal ones (R30). -/
def bestPoint (a b : Option Nat) : Option (PointId × Nat) :=
  match a, b with
  | some x, some y => if y < x then some (.p1, y) else some (.p0, x)
  | some x, none => some (.p0, x)
  | none, some y => some (.p1, y)
  | none, none => none

/-- What the node bids on an OFFER, if it bids: the bid entry with its resource and value (R30, R31). -/
def State.decideBid (s : State) (h : Nat) (f : OfferFields) : Option BidEntry :=
  let entry : Nat → Option VisitRecord → Resource → Nat → Option HeadFields → Option SwapRequest → BidEntry :=
    fun bus copy resource value head asked =>
      { tag := { holder := h, number := f.number }, bus := bus, stage := f.cargo.stage, copy := copy, resource := resource,
        value := value, head := head, asked := asked, state := .computed, heard := [], waitOver := false, noBinding := false }
  match f.cargo with
  | .swap q =>
    if h = s.loader.address then none
    else (s.swapBid q).map (fun b => entry 0 none (.lane b.1) b.2.1 (some b.2.2) (some q))
  | .visit r =>
    match r.next with
    | .fuel =>
      (bestPoint (s.fuelBid .p0 r) (s.fuelBid .p1 r)).map (fun b => entry r.bus (some r) (.point b.1) b.2 none none)
    | .wash =>
      (bestPoint (s.washBid .p0 r) (s.washBid .p1 r)).map (fun b => entry r.bus (some r) (.point b.1) b.2 none none)
    | _ =>
      (s.berthBid r).map (fun b => entry r.bus (some { r with next := .parked }) (.lane b.1) b.2 none none)

/-- Whether the node holds an entry of a bus in a lane list or a service queue, in any state (R30, R157). -/
def State.holdsEntry (s : State) (b : Nat) : Bool :=
  s.laneEntries.any (fun e => e.visit.bus = b) || s.point0.queue.any (fun e => e.visit.bus = b)
    || s.point1.queue.any (fun e => e.visit.bus = b)

/-- Whether the conditions of R30 that concern the node as a whole allow a bid. -/
def State.mayBid (s : State) (h : Nat) (f : OfferFields) : Bool :=
  s.inService && decide (s.hand.bids.length < Config.bidCapacity)
    && !s.hand.bids.any (fun e => decide (e.tag = { holder := h, number := f.number }))
    && (match f.cargo with
        | .swap _ => true
        | .visit r => !s.holdsEntry r.bus && !s.hand.bids.any (fun e => decide (e.stage ≠ .swap) && decide (e.bus = r.bus)))

/-- The TENTATIVE entry of a bid is placed at the tail of its lane or queue (R31, R53, R91). A SWAP bid places none. -/
def State.placeTentative (b : BidEntry) (s : State) : State :=
  match b.copy, b.resource with
  | some r, .lane n =>
    s.modLane n (fun l => { l with entries := l.entries ++
      [{ visit := r, state := .tentative, tag := some b.tag, value := some b.value, deadline := none,
         unconfirmed := false, recordAwaited := none, ask := .none, mark := none }] })
  | some r, .point p =>
    s.modPoint p (fun v => { v with queue := v.queue ++
      [{ visit := r, state := .tentative, tag := some b.tag, value := some b.value, deadline := none,
         recordAwaited := none, justServed := false, passedOn := false }] })
  | none, _ => s

/-- A bid is made: bid entry, TENTATIVE entry and BID frame in one event (R31). A BID that a full transmit queue would
discard withdraws the bid at once, so that nothing is left of it (R32, R172). -/
def State.makeBid (b : BidEntry) (s : State) : State :=
  if s.canPlace .normal then
    State.send (.bid b.tag b.bus b.value b.head)
      (State.placeTentative b { s with hand := { s.hand with bids := s.hand.bids ++ [b] } })
  else s

/-- An OFFER of holder `h` has ended on the line (R24, R30, R31, R35). -/
def State.offerHeard (h : Nat) (f : OfferFields) (s : State) : State :=
  let t := s.supersede h f
  if t.mayBid h f then
    match t.decideBid h f with
    | some b => t.makeBid b
    | none => t
  else t

/-! ## BIDs and the end of the bid window (R32, R33) -/

/-- A BID for a tag is kept for the comparison, while the tag's bid window is open (R33). -/
def State.bidHeard (source : Nat) (f : BidFields) (s : State) : State :=
  s.modBids (fun e =>
    if e.tag = f.tag ∧ e.state ≠ .taken then { e with heard := e.heard ++ [(f.value, source)] } else e)

/-- The node's own BID has ended on the line: its entry becomes SENT, and the BID counts in its own comparison (R31,
R33). -/
def State.ownBidHeard (tag : Tag) (value : Nat) (s : State) : State :=
  s.modBids (fun e =>
    if e.tag = tag ∧ e.state = .computed then
      { e with state := .sent, heard := e.heard ++ [(value, s.loader.address)] }
    else e)

/-- The TENTATIVE entries of a tag become EXPECTED with their deadline (R33, R54, R91). -/
def State.expectTag (tag : Tag) (s : State) : State :=
  let due := some (s.clock.m + s.image.expectedTimeout)
  let lane := fun (e : LaneEntry) =>
    if e.state = .tentative ∧ e.tag = some tag then { e with state := .expected, deadline := due } else e
  let queue := fun (e : QueueEntry) =>
    if e.state = .tentative ∧ e.tag = some tag then { e with state := .expected, deadline := due } else e
  let t := s.setLanes (s.lanes.map (fun l => { l with entries := l.entries.map lane }))
  { t with point0 := { t.point0 with queue := t.point0.queue.map queue }
           point1 := { t.point1 with queue := t.point1.queue.map queue } }

/-- The node takes: the bid entry becomes TAKEN, its entry EXPECTED, and a TAKE is placed (R33). A TAKE that the
transmit queue would discard gives the claim up at once (R34). DESIGN CHOICE (log entry 65): for SWAP the TAKE carries the head
bus as the bid entry has named it since the bid (R145), also where a TIME has reconverted the head's departure or a rollover
has unbound it since (R146). -/
def State.makeTake (e : BidEntry) (s : State) : State :=
  if s.canPlace .urgent then
    let t := s.modBids (fun x => if x.tag = e.tag then { x with state := .taken } else x)
    (t.expectTag e.tag).send (.take e.tag e.bus e.value e.resource e.head)
  else s.dropBid e.tag

/-- Whether a BID heard is better than the node's own (R33). -/
def BidEntry.beaten (own : Nat) (e : BidEntry) : Bool := e.heard.any (fun h => betterBid h (e.value, own))

/-- The end of the bid window of an offer (R32, R33). -/
def State.bidWindowEnd (tag : Tag) (s : State) : State :=
  match s.hand.bids.find? (fun e => e.tag = tag) with
  | none => s
  | some e =>
    match e.state with
    | .taken => s
    | .computed => State.settle s (s.dropBid tag)
    | .sent => State.settle s (if e.beaten s.loader.address then s.dropBid tag else s.makeTake e)

/-! ## TAKEs (R26, R27, R34, R146) -/

/-- Whether a TAKE concerns the item an open offer is for: it names the bus, or for SWAP it is of the SWAP form; one
of the SWAP form is taken as of stage SWAP (R26, section 11.2). -/
def TakeFields.fitsKey (f : TakeFields) : ItemKey → Bool
  | .bus b => decide (f.bus = b) && f.head.isNone
  | .swapRun _ => f.head.isSome

/-- The holder keeps a TAKE heard for its open offer, or commits to it at once where a re-offer waits (R26, R27). -/
def State.holderTake (source : Nat) (f : TakeFields) (s : State) : State :=
  match s.hand.offer with
  | none => s
  | some o =>
    let heard : HeardTake := { source := source, value := f.value, bus := f.bus, resource := f.resource, head := f.head }
    if f.tag ≠ { holder := s.loader.address, number := o.number } ∨ o.phase = .queued ∨ f.fitsKey o.key = false then s
    else if o.phase = .reofferQueued then s.commit o heard
    else s.setOffer (some { o with takes := o.takes ++ [heard] })

/-- The value of the node's own take of a tag: of a TAKEN bid entry or of an EXPECTED entry (R34). -/
def State.takenValue (s : State) (tag : Tag) : Option Nat :=
  let fromBids := (s.hand.bids.find? (fun e => decide (e.tag = tag) && decide (e.state = .taken))).map (fun e => e.value)
  let fromQueue := fun (v : Point) =>
    (v.queue.find? (fun e => decide (e.state = .expected) && decide (e.tag = some tag))).bind (fun e => e.value)
  let fromLanes :=
    (s.laneEntries.find? (fun e => decide (e.state = .expected) && decide (e.tag = some tag))).bind (fun e => e.value)
  fromBids <|> fromQueue s.point0 <|> fromQueue s.point1 <|> fromLanes

/-- A taker gives its claim up for a better TAKE of another station (R34). -/
def State.takerTake (source : Nat) (f : TakeFields) (s : State) : State :=
  match s.takenValue f.tag with
  | some v => if betterBid (f.value, source) (v, s.loader.address) then s.dropClaim f.tag else s
  | none => s

/-- A take mark ends without a binding at a better TAKE for its tag (R146). -/
def State.markTake (source : Nat) (f : TakeFields) (s : State) : State :=
  match (s.marked? f.tag).bind (fun e => e.mark) with
  | some k => if betterBid (f.value, source) (k.value, s.loader.address) then s.clearMark f.tag else s
  | none => s

/-- A TAKE of another station has ended on the line (R26, R34, R146). DESIGN CHOICE (log entry 68): the node takes it as the
offer's holder, as a taker and for its take mark, in this order. -/
def State.takeHeard (source : Nat) (f : TakeFields) (s : State) : State :=
  State.settle s (((s.holderTake source f).takerTake source f).markTake source f)

/-- The head bus of a SWAP take receives its take mark, at its PARKED or CALLED entry, unless a rollover has passed (R146,
R152). A pinned bus is no head of a bid: `State.isEligible` leaves it out, and the event that pins a head drops the bid
(R15; `State.dropChangedHeads`). -/
def State.setMark (e : BidEntry) (s : State) : State :=
  match e.head, e.asked with
  | some h, some q =>
    if e.noBinding then s
    else s.modLaneBus h.bus (fun x =>
      if x.isFront then
        { x with mark := some { tag := e.tag, run := q.run, wall := q.wall, departure := q.departure, value := e.value } }
      else x)
  | _, _ => s

/-- The node's own TAKE has ended on the line: the TAKEN bid entry leaves, and a SWAP head takes its mark, which ends at
once where the take wait has already ended (R34, R146). -/
def State.ownTakeHeard (f : TakeFields) (s : State) : State :=
  let t := s.holderTake s.loader.address f
  match t.hand.bids.find? (fun e => decide (e.tag = f.tag) && decide (e.state = .taken)) with
  | none => State.settle s t
  | some e =>
    let marked := (t.removeBid f.tag).setMark e
    State.settle s (if e.waitOver then marked.bindMark f.tag else marked)

/-- The end of the take wait of another node's offer (R146). -/
def State.takeMarkEnd (tag : Tag) (s : State) : State :=
  let t := s.modBids (fun e => if e.tag = tag ∧ e.stage = .swap then { e with waitOver := true } else e)
  State.settle s (t.bindMark tag)

/-! ## DUTY (R12 to R14, R36) -/

/-- Whether a DUTY is ignored whole, for a CALLED bus or a CALLED run (R12). -/
def State.ignoresDuty (s : State) (d : DutyFields) : Bool :=
  s.laneEntries.any (fun e => decide (e.state = .called) && decide (e.visit.bus = d.bus))
    || decide (d.run ≠ 0) && s.runCalled d.run

/-- A lane entry whose bus a DUTY or RECORD pins: an ASKING one asks no longer (R37, R130; log entry 58). DEDUCED (log entry
47): so it is where the flag was set already, since R15 has every binding DUTY with pinned yes set it. -/
def LaneEntry.pinned (e : LaneEntry) : LaneEntry := if e.ask = .asking then { e with ask := .none } else e

/-- What the Handover Controller makes of a DUTY (R12 to R14, R37). -/
def State.onDuty (source : Nat) (payload : List Byte) (s : State) : State :=
  if source ≠ Config.officeStation then s
  else
    match dutyFields payload with
    | none => s
    | some d =>
      if s.ignoresDuty d then s
      else if d.run = 0 then State.settle s (s.unbindBus d.bus)
      else
        let t := s.bindBus d.bus d.run d.wall d.pinned false
        State.settle s (if d.pinned then t.modLaneBus d.bus LaneEntry.pinned else t)

/-! ## RECORD (R42, R63) -/

/-- A stray entry's record with the fields a RECORD gives it (R42). -/
def VisitRecord.takeRecord (r : VisitRecord) (from' : VisitRecord) (duty : Duty) : VisitRecord :=
  { r with cls := from'.cls, duty := duty, fuelOutcome := from'.fuelOutcome, litres := from'.litres,
           washOutcome := from'.washOutcome }

/-- Whether the entry of a bus awaits a RECORD, in a queue. -/
def Point.awaits (v : Point) (b : Nat) : Bool := v.queue.any (fun e => decide (e.visit.bus = b) && e.recordAwaited.isSome)

/-- The lane whose entry of a bus awaits a RECORD. -/
def State.laneAwaiting? (s : State) (b : Nat) : Option Nat :=
  (List.range s.lanes.length).find? (fun n =>
    ((s.lanes[n]?).map (fun l => l.entries.any (fun e => decide (e.visit.bus = b) && e.recordAwaited.isSome))).getD false)

/-- Whether a CALLED lane entry of another bus carries a run (R42). -/
def State.runCalledElsewhere (s : State) (b run : Nat) : Bool :=
  s.laneEntries.any (fun e => decide (e.state = .called) && decide (e.visit.duty.run = run) && decide (e.visit.bus ≠ b))

/-- Every other record and copy that carries a nonzero run is unbound (R42). -/
def State.unbindOthers (b run : Nat) (s : State) : State :=
  if run = 0 then s else s.mapVisits (fun r => if r.bus ≠ b ∧ r.duty.run = run then r.unbind else r)

/-- A lane entry with the fields of a RECORD (R42). Its ask state returns to NONE where its run changes (R130). DESIGN CHOICE
(log entry 58): an ASKING entry that the RECORD pins with the run it has asks no longer, as after a DUTY that pins it; R37
and R130 name the DUTY alone, and R15 has no pinned run moved. -/
def LaneEntry.takeRecord (r : VisitRecord) (d : Duty) (e : LaneEntry) : LaneEntry :=
  let t := { e with
    visit := e.visit.takeRecord r d, recordAwaited := none
    ask := if d.run = e.visit.duty.run then e.ask else .none }
  if d.pinned then t.pinned else t

/-- The entry of a bus in lane `n` takes a RECORD; where it changes the class, the OVERFULL test follows (R42, R63,
R130; log entry 25). -/
def State.laneTakesRecord (n : Nat) (r : VisitRecord) (d : Duty) (s : State) : State :=
  State.classTest n r.bus (s.classIn n r.bus)
    (s.modLane n (fun l => { l with entries := l.entries.map (fun e =>
      if e.visit.bus = r.bus then e.takeRecord r d else e) }))

/-- The entry of a bus in a queue takes a RECORD; one a washing lane in FAULT passed on then asks to join, and the end of
CLEARING is tested (R42, R119, R123). -/
def State.queueTakesRecord (p : PointId) (r : VisitRecord) (d : Duty) (s : State) : State :=
  let waits := (s.point p).queue.any (fun e => decide (e.visit.bus = r.bus) && decide (e.state = .finished) && e.passedOn)
  let t := s.modPoint p (Point.modEntry r.bus (fun e =>
    { e with visit := e.visit.takeRecord r d, recordAwaited := none }))
  if waits then (t.askJoin p r.bus).clearingTest p else t

/-- A RECORD addressed to the node (R42). -/
def State.onRecord (r : VisitRecord) (s : State) : State :=
  let conflict := decide (r.duty.run ≠ 0) && s.runCalledElsewhere r.bus r.duty.run
  let duty := if conflict then Duty.unbound else r.duty
  let freed := if conflict then s else s.unbindOthers r.bus r.duty.run
  let done := fun (t : State) => State.settle s (State.dropChangedHeads s t)
  if s.point0.awaits r.bus then done (freed.queueTakesRecord .p0 r duty)
  else if s.point1.awaits r.bus then done (freed.queueTakesRecord .p1 r duty)
  else
    match s.laneAwaiting? r.bus with
    | some n => done (freed.laneTakesRecord n r duty)
    | none => s

/-- The RECORD awaited marks of lane entries that satisfy `q` and whose deadline is at or below m are cleared (R42). -/
def State.expireLaneRecords (q : LaneEntry → Bool) (s : State) : State :=
  s.setLanes (s.lanes.map (fun l => { l with entries := l.entries.map (fun e =>
    if e.recordAwaited.any (fun d => decide (d ≤ s.clock.m)) && q e then { e with recordAwaited := none } else e) }))

/-! ## Minute events (R16, R23) -/

/-- The duty wait of the records and copies that satisfy `q` (R16), those of waiting frames among them (DEDUCED, log
entry 42). R16 names the duty state, the run and the departure of a record it makes SPARE. DESIGN CHOICE (log entry 51):
its pinned and substituted flags, which an OFFER or RECORD of another station may have set, end with them. -/
def State.expireDutyWait (q : VisitRecord → Bool) (s : State) : State :=
  s.mapVisits (fun r =>
    if r.duty.state = .awaited ∧ r.gateMinute + s.image.dutyWait ≤ s.clock.m ∧ q r = true then { r with duty := Duty.unbound }
    else r)

/-- A minute event at the Handover Controller (R16, R23). -/
def State.handoverMinute (s : State) : State := (s.expireDutyWait (fun _ => true)).offerTest

/-- A minute event at the Lane Controller (R42, R56). -/
def State.lanesMinute (s : State) : State :=
  State.settle s ((s.expireLanes (fun _ => true)).expireLaneRecords (fun _ => true))

end Sys2Proof.Machine
end

