-- ==== Sys2Proof/Machine/Clock.lean ====
section
/-! DEFINITION. The Yard Clock (chapter 1): the minute event and the slot-boundary event (R2, R3), the rollover (R8,
R9), TIME (R5 to R7). -/

namespace Sys2Proof.Machine

open Sys2Proof

/-! ## The minute event -/

/-- Every block that acts on a minute event. -/
def allOwners : List Owner := [.timeline, .handover, .point .p0, .point .p1, .lanes, .pullOut]

/-- The order in which the blocks take a minute event: the given one, each block once, and then the rest. R187 leaves
the order open (log entry 3). -/
def ownerOrder (order : List Owner) : List Owner :=
  (order ++ allOwners).foldl (fun acc o => if acc.contains o then acc else acc ++ [o]) []

/-- A slot-boundary event for slot `k`: the staged plans are applied, then held starts are tested at each point (R78,
R82). -/
def State.slotBoundary (k : Nat) (s : State) : State := ((s.applyPlans k).startTest .p0).startTest .p1

/-- What one block does at a minute event; `boundary` is the slot index where a slot-boundary event comes with it, and
`completes` says that the event completes a minute interval (R2, R105). -/
def State.ownerMinute (boundary : Option Nat) (completes : Bool) (s : State) (o : Owner) : State :=
  match o with
  | .timeline => match boundary with
    | some k => s.slotBoundary k
    | none => s
  | .handover => s.handoverMinute
  | .point p => s.pointMinute p completes
  | .lanes => s.lanesMinute
  | .pullOut => s.pullOutMinute

/-- A minute event, with the slot-boundary event that comes with it (R2, R3). -/
def State.raiseMinute (order : List Owner) (boundary : Option Nat) (completes : Bool) (s : State) : State :=
  (ownerOrder order).foldl (State.ownerMinute boundary completes) s

/-! ## The rollover (R8, R9, R152) -/

/-- The outbound list with its ready minutes carried over noon (R9, R22). -/
def carryItems (old : Nat) (l : List OutItem) : List OutItem :=
  sortItems (l.map (fun i => { i with ready := carryMinute old i.ready }))

/-- A lane entry with its deadlines carried over noon (R9). -/
def LaneEntry.carry (old : Nat) (e : LaneEntry) : LaneEntry :=
  { e with deadline := e.deadline.map (carryMinute old), recordAwaited := e.recordAwaited.map (carryMinute old) }

/-- A queue entry with its deadlines carried over noon (R9). -/
def QueueEntry.carry (old : Nat) (e : QueueEntry) : QueueEntry :=
  { e with deadline := e.deadline.map (carryMinute old), recordAwaited := e.recordAwaited.map (carryMinute old) }

/-- A point with its deadlines and start minutes carried over noon (R9, R109, R129). -/
def Point.carry (old : Nat) (v : Point) : Point :=
  { v with
    queue := v.queue.map (QueueEntry.carry old)
    service := v.service.map (fun sv =>
      { sv with start := carryMinute old sv.start, deadline := carryMinute old sv.deadline })
    cycle := v.cycle.map (fun c => { c with start := carryMinute old c.start, deadline := carryMinute old c.deadline }) }

/-- Every deadline of the node carried over noon (R9). -/
def State.carryAll (old : Nat) (s : State) : State :=
  let t := s.setLanes (s.lanes.map (fun l => { l with entries := l.entries.map (LaneEntry.carry old) }))
  { t with
    hand := { t.hand with outbound := carryItems old t.hand.outbound }
    point0 := t.point0.carry old
    point1 := t.point1.carry old }

/-- Every ask state becomes NONE and every take mark ends without a binding (R152). -/
def State.clearAsks (s : State) : State :=
  s.setLanes (s.lanes.map (fun l => { l with entries := l.entries.map (fun e => { e with ask := .none, mark := none }) }))

/-- The SWAP bids stay, but no binding follows from them (R152). -/
def State.clearBindings (s : State) : State :=
  s.modBids (fun e => if e.stage = .swap then { e with noBinding := true } else e)

/-- The late set is emptied (R8). -/
def State.clearLate (s : State) : State := { s with lateRuns := [] }

/-- Every record and copy unbound, the ask states NONE, the take marks ended without a binding, the SWAP bids kept
without one, the late set emptied, and the swap requests withdrawn (R8 step 2, R45, R152). DESIGN CHOICE (log entry 41):
the withdrawal and the test of R23 that follows it (R37) come within step 2. -/
def State.unbindAll (s : State) : State :=
  (s.mapVisits VisitRecord.unbind).clearAsks.clearBindings.clearLate.withdrawSwaps

/-- The day rollover, up to the events it raises (R8). -/
def State.rollover (s : State) : State :=
  let old := s.clock.dayLength
  let unbound := s.lateCalled.unbindAll
  State.carryAll old { unbound with clock := { unbound.clock with m := 0, shift := .none } }

/-- The completion of the minute interval: m advances and the minute event is raised, or the day rolls over (R2, R3,
R8). -/
def State.minuteEvent (order : List Owner) (s : State) : State :=
  if s.clock.m + 1 < s.clock.dayLength then
    let m := s.clock.m + 1
    State.raiseMinute order (if m % 30 = 0 then some (m / 30) else none) true
      { s with clock := { s.clock with m := m } }
  else s.rollover.raiseMinute order (some 0) true

/-! ## TIME (R5 to R7) -/

/-- The clock after an accepted TIME (R6). -/
def timeClock (f : TimeFields) (shift : Shift) : Clock :=
  { m := min f.m (shift.dayLength - 1), shift := shift, change := clampChange f.change, isSet := true, running := true }

/-- A duty reconverted under a clock (R7). -/
def Duty.reconvert (c : Clock) (d : Duty) : Duty :=
  match d.state, d.wall with
  | .bound, some w => { d with departure := convertWall c.shift c.change w }
  | _, _ => d

/-- Bus, run and wall minute of each record and copy that a reconversion puts in the missing hour, each record once
(R7, R10), in the order of `State.visits`. DESIGN CHOICE (log entry 39): R187 leaves the order of their reports
open. -/
def State.adjusted (s : State) : List (Nat × Nat × Nat) :=
  ((s.visits.filter (fun r => r.isBound && (r.duty.wall.any (inMissingHour s.clock.shift s.clock.change)))).map
    (fun r => (r.bus, r.duty.run, r.duty.wall.getD 0))).foldl (fun acc x => if acc.contains x then acc else acc ++ [x]) []

/-- The departures of every BOUND record and copy reconverted, with the reports of the missing hour (R7). -/
def State.reconvertAll (s : State) : State :=
  let t := s.mapVisits (fun r => { r with duty := r.duty.reconvert s.clock })
  t.adjusted.foldl (fun u x => u.reportAdjusted x.1 x.2.1 x.2.2) t

/-- An accepted TIME (R6, R7, R105): the clock, the node state, the reconverted departures, the interval begun anew, and
the events it raises. -/
def State.acceptTime (f : TimeFields) (shift : Shift) (order : List Owner) (s : State) : State :=
  let old := s.clock
  let new := timeClock f shift
  let set := { s with clock := new, loader := { s.loader with node := .inService } }
  let converted := if old.shift = new.shift ∧ old.change = new.change then set else set.reconvertAll
  let begun := (converted.beginInterval .p0).beginInterval .p1
  let minute := !old.isSet || decide (old.m ≠ new.m ∨ old.shift ≠ new.shift ∨ old.change ≠ new.change)
  let boundary := if !old.isSet || decide (old.m / 30 ≠ new.m / 30) then some (new.m / 30) else none
  if minute then begun.raiseMinute order boundary false else begun

/-- What the Yard Clock makes of a TIME (R5). -/
def State.onTime (source : Nat) (payload : List Byte) (order : List Owner) (s : State) : State :=
  let f := timeFields payload
  if source ≠ Config.officeStation then s
  else
    match f.shift with
    | none => s
    | some shift => s.acceptTime f shift order

end Sys2Proof.Machine
end

