-- ==== Sys2Proof/Machine/FieldIO.lean ====
section
/-! DEFINITION. The Field Interface (chapter 8): tag reports (R153 to R156), gate reads (R157, R158), detectors (R160 to
R162), flow pulses (R163), guidance (R167), the display transfer (R194), and what the output pins show (R164, R165). -/

namespace Sys2Proof.Machine

open Sys2Proof

/-! ## Gate reads (R157, R158) -/

/-- next_stage of a record made at the gate (R19). -/
def gateStage (threshold : Nat) (t : TagFields) : NextStage :=
  if t.fuel < threshold then .fuel else if t.wash ≠ .none then .wash else .berth

/-- The visit record a gate read makes (R11, R18, R158). -/
def gateRecord (threshold m : Nat) (t : TagFields) : VisitRecord :=
  let next := gateStage threshold t
  { bus := t.bus, cls := t.cls, fuelLevel := t.fuel, washRequest := t.wash, gateMinute := m, next := next,
    duty := Duty.awaited, fuelOutcome := if next = .fuel then none else some .notWanted, litres := 0,
    washOutcome := if t.wash = .none then some .notWanted else none, stray := false }

/-- A gate read makes a record (R158). DESIGN CHOICE (log entry 68): the acts of the event come in the order R158 lists them, but
for the test of R23, which goes with the join. -/
def State.letIn (t : TagFields) (s : State) : State :=
  let r := gateRecord s.image.threshold s.clock.m t
  let announced := s.send (.arrive r.bus r.cls r.fuelLevel r.washRequest r.gateMinute)
  (announced.join (.visit r) (some .gate)).setGuide .gate .blank none

/-- An accepted gate read, through the tests of R157 in their order. -/
def State.gateRead (t : TagFields) (s : State) : State :=
  if !s.clock.isSet then (s.report (.noClock t.bus 0)).setGuide .gate .hold (some t.bus)
  else if (s.item? (.bus t.bus)).isSome || s.holdsEntry t.bus then s
  else if s.outboundFull then (s.report (.gateFull t.bus t.cls)).setGuide .gate .hold (some t.bus)
  else s.letIn t

/-! ## Tag reports (R153 to R156) -/

/-- Whether a reader is configured (R154). -/
def State.isConfigured (s : State) : ReaderRole → Bool
  | .gate => s.image.gateReader
  | .pointEntry p => (s.pointImage p).kind ≠ .none
  | .pointExit p => (s.pointImage p).kind ≠ .none
  | .laneEntry n => n < s.image.laneCount
  | .laneExit n => n < s.image.laneCount

/-- What the owner of a reader does with an accepted report (R156), with the guidance output of a point's place
(R167). -/
def State.handRead (role : ReaderRole) (t : TagFields) (s : State) : State :=
  match role with
  | .gate => s.gateRead t
  | .pointEntry p =>
    let shown := if (s.guide (.point p)).bus = some t.bus then s else s.setGuide (.point p) .blank none
    shown.pointEntryRead p t
  | .pointExit p => (s.setGuide (.point p) .blank none).pointExitRead p t
  | .laneEntry n => s.laneEntryRead n t
  | .laneExit n => s.laneExitRead n t

/-- Whether the repeat filter takes a report as a repeat (R155). -/
def isRepeat (e : Option FilterEntry) (bus now : Nat) : Bool :=
  e.any (fun x => decide (x.bus = bus) && decide (now - x.time < Config.repeatSeconds))

/-- A complete tag report that ends at second `now` (R153 to R156). -/
def State.tagReport (t : TagOctets) (now : Nat) (s : State) : State :=
  let taken := { s with field := { s.field with loopPartial := [] } }
  match tagFields t with
  | none => taken
  | some f =>
    let role := readerRole f.reader
    if s.isConfigured role = false ∨ isRepeat s.field.filter[f.reader] f.bus now = true then taken
    else
      State.handRead role f
        { taken with field := { taken.field with filter := s.field.filter.set f.reader (some { bus := f.bus, time := now }) } }

/-- The report being assembled is abandoned (R153). -/
def State.abandonReport (s : State) : State := { s with field := { s.field with loopPartial := [] } }

/-! ## Detectors (R160 to R162) -/

/-- The live level of a pin changes: its debounce timer starts, starts again or stops, where the debouncers run and the
detector is present (R160, R161). -/
def State.levelChange (pin : Pin) (level : Bool) (s : State) : State :=
  let d := s.detector pin
  if d.live = level then s
  else if s.active && s.isPresent pin then
    s.setDetector pin { d with live := level, timer := decide (level ≠ d.debounced) }
  else s.setDetector pin { d with live := level }

/-- A debounced change is raised to the owner of its detector (R162). -/
def State.raiseChange (pin : Pin) (level : Bool) (s : State) : State :=
  match pin with
  | .laneClear n => if level then s.laneClear n.val else s
  | .occupied p => if level then s else s.pointCleared p
  | .machineA p =>
    match (s.pointImage p).kind with
    | .fuel => if level then s.nozzleLifted p else s.nozzleHung p
    | .wash => if level then s.washDone p else s
    | .none => s
  | .machineB p => if level then s.washFault p .input else s.startTest p
  | .maintenanceKey => s

/-- A debounce timer completes (R160). -/
def State.debounced (pin : Pin) (s : State) : State :=
  let d := s.detector pin
  if s.active && s.isPresent pin && d.timer && decide (d.live ≠ d.debounced) then
    State.raiseChange pin d.live (s.setDetector pin { live := d.live, debounced := d.live, timer := false })
  else s

/-- A flow pulse is handed to a fuel point (R163). -/
def State.pulse (p : PointId) (s : State) : State :=
  if s.active ∧ (s.pointImage p).kind = .fuel then s.onPulse p else s

/-! ## The display transfer (R194) -/

/-- A display transfer ends with the latch pulse; a further one starts where a code was set meanwhile (R194). -/
def State.transferEnd (s : State) : State :=
  match s.field.transfer with
  | none => s
  | some codes =>
    { s with field := { s.field with
        shown := codes
        transfer := if s.field.again then some s.field.codes else none
        again := false } }

/-! ## What the output pins show (R164, R165, R186, R194, section 11.10) -/

/-- Whether a lamp output is on, so many tenths of a second after its indication was set: a flashing pattern starts with
its on phase (R164); the wink of CONFIG FAULT starts at the entry to it (R186). -/
def Lamp.isLit (l : Lamp) (tenths : Nat) : Bool :=
  match l with
  | .dark => false
  | .call => true
  | .blocked => decide (tenths % 10 < 5)
  | .closed => decide (tenths % 20 < 2)
  | .wink => decide (tenths % 10 < 1)

/-- The first machine output of a point: the enable of a fuel point, START-FULL of a washing lane (R165). -/
def State.firstOutput (s : State) (p : PointId) : Bool :=
  match (s.pointImage p).kind with
  | .none => false
  | .fuel => (s.point p).enable
  | .wash => decide ((s.point p).startOutput = .full)

/-- The second machine output of a point: off at a fuel point, START-RINSE of a washing lane (R165). -/
def State.secondOutput (s : State) (p : PointId) : Bool :=
  match (s.pointImage p).kind with
  | .wash => decide ((s.point p).startOutput = .rinse)
  | _ => false

/-- The 24 bits of a display transfer in the order sent: gate, point 0, point 1, each most significant bit first
(R194). -/
def GuideCodes.bits (c : GuideCodes) : List Bool :=
  c.octets.flatMap (fun o => [o.getLsbD 7, o.getLsbD 6, o.getLsbD 5, o.getLsbD 4, o.getLsbD 3, o.getLsbD 2,
    o.getLsbD 1, o.getLsbD 0])

end Sys2Proof.Machine
end

