-- ==== Sys2Proof/Machine/LineIO.lean ====
section
/-! DEFINITION. The Line Interface (chapter 9): line states (R169), deferral and the start of a frame (R171), read-back
(R173, R174), the receiver (R175), the checks of a received frame and its handing on (R177, R178). -/

namespace Sys2Proof.Machine

open Sys2Proof

/-! ## Line states (R169, R171, R175) -/

/-- Whether the node is sending a frame. -/
def State.isSending (s : State) : Bool := s.line.transmit.any (fun f => f.sending) || s.line.muted.any (fun f => f.sending)

/-- A character begins on the line (R169): QUIET becomes BUSY, the deferral round ends, and a receiver that waited for a
start octet assembles. -/
def State.charBegin (s : State) : State :=
  match s.line.phase with
  | .quiet => { s with line := { s.line with
      phase := .busy, deferral := none, receiver := if s.line.receiver = .waiting then .assembling else s.line.receiver } }
  | _ => s

/-- The line has been idle for four character times (R169, R171, R175, R188). While the node sends, its own characters
follow one another with no idle time, so the event changes nothing. -/
def State.lineQuiet (s : State) : State :=
  if s.isSending ∨ s.line.phase = .quiet then s
  else
    let t := { s with line := { s.line with phase := .quiet, deferral := some 0, receiver := .waiting } }
    if t.loader.retryAtQuiet then t.placeHeadReport else t

/-- 100 ms have passed since the line left QUIET (R169, R175). -/
def State.lineJam (s : State) : State :=
  match s.line.phase with
  | .busy => { s with line := { s.line with phase := .jammed, receiver := .ignoring } }
  | _ => s

/-- The deferral count has reached 48 with no station started (R171). -/
def State.roundEnd (s : State) : State :=
  match s.line.phase, s.line.deferral with
  | .quiet, some _ => { s with line := { s.line with deferral := some 0 } }
  | _, _ => s

/-- A frame being received is abandoned: the receiver ignores the line until the next quiet (R175). -/
def State.ignoreLine (s : State) : State :=
  let t := s.charBegin
  { t with line := { t.line with receiver := .ignoring } }

/-- Whether the receiver rejects an octet where it stands (R175, R176). -/
def isRejected : Rejected → Bool
  | .start o => o ≠ 0xC3#8
  | .kind o => !o.getLsbD 7
  | .length o => Config.payloadCap < o.toNat

/-! ## Sending (R170, R171, R173) -/

/-- The frame the node sends next: the head of the transmit queue, or the frame that completes after a soft restart,
whose entry order is older (R170, R180). -/
def State.nextFrame (s : State) : Option TxFrame :=
  match s.line.muted, s.line.transmit.head? with
  | some f, some g => if f.cls.base ≤ g.cls.base then some f else some g
  | some f, none => some f
  | none, g => g

/-- Whether the node starts to send at the beginning of count `c` (R171). -/
def State.startsAt (s : State) (c : Nat) : Bool :=
  s.active && !s.isSending &&
    s.nextFrame.any (fun f => decide (c = f.cls.base + s.loader.address))

/-- The node with a frame of its transmit queue marked as being sent (R173). -/
def State.markSending (f : TxFrame) (s : State) : State :=
  let mark := fun (g : TxFrame) => if g.order = f.order then { g with sending := true } else g
  { s with line := { s.line with
      transmit := s.line.transmit.map mark
      muted := s.line.muted.map mark
      phase := .busy
      deferral := none
      receiver := .assembling
      sent := f.octets s.loader.address } }

/-- The beginning of count `c` of the deferral round (R171). Within a round each count begins at most once, and the
counts only rise, so a frame that comes to the head after its slot began waits for a later round; the node starts to send
where its slot has come (log entry 36). -/
def State.transmitStart (c : Nat) (s : State) : State :=
  match s.line.phase, s.line.deferral with
  | .quiet, some d =>
    if c < d ∨ Config.deferralRound ≤ c then s
    else
      match s.startsAt c, s.nextFrame with
      | true, some f => s.markSending f
      | _, _ => { s with line := { s.line with deferral := some (c + 1) } }
  | _, _ => s

/-! ## Read-back (R173, R174) -/

/-- What the owners make of the node's own frame as heard (R173, R178). -/
def State.hearOwn (body : FrameBody) (s : State) : State :=
  match body with
  | .offer number supersedes cargo =>
    (s.ownOfferHeard number).offerHeard s.loader.address { number := number, supersedes := supersedes, cargo := cargo }
  | .bid tag _ value _ => s.ownBidHeard tag value
  | .take tag bus value resource head =>
    s.ownTakeHeard { tag := tag, bus := bus, value := value, resource := resource, head := head }
  | .report _ => s.popReport
  | .arrive .. => s
  | .stray .. => s
  | .record _ => s
  | .call .. => s
  | .gone .. => s

/-- What the owner of a frame does at its discard without being sent (R25, R28, R32, R34, R188). -/
def State.tellDiscard (body : FrameBody) (s : State) : State :=
  match body with
  | .offer number _ _ => State.settle s (s.ownOfferDiscarded number)
  | .bid tag .. => State.settle s (s.dropBid tag)
  | .take tag .. => State.settle s (s.dropClaim tag)
  | .report _ => { s with loader := { s.loader with retryAtQuiet := true } }
  | .arrive .. => s
  | .stray .. => s
  | .record _ => s
  | .call .. => s
  | .gone .. => s

/-- The node with the frame being sent out of its transmit queue and nothing being sent. -/
def State.frameOut (f : TxFrame) (s : State) : State :=
  { s with line := { s.line with
      transmit := s.line.transmit.filter (fun g => decide (g.order ≠ f.order)), sent := [], receiver := .ignoring } }

/-- The frame of the transmit queue being sent. -/
def State.sendingFrame (s : State) : Option TxFrame := s.line.transmit.find? (fun f => f.sending)

/-- A frame has left the transmit queue: a re-offer that found no place there is tried again (R28; log entry 8). -/
def State.retryReoffer (s : State) : State := if s.hand.offer.isSome then s.offerTest else s

/-- The node's own frame has read back whole (R173): its owners hear it, but for one that was being sent at a soft restart,
which no block hears (R180). DESIGN CHOICE (log entry 45): also where a framing
error came within it. -/
def State.frameHeard (s : State) : State :=
  match s.sendingFrame with
  | some f => ((s.frameOut f).hearOwn f.body).retryReoffer
  | none =>
    match s.line.muted with
    | some f =>
      if f.sending then State.retryReoffer { s with line := { s.line with muted := none, sent := [], receiver := .ignoring } }
      else s
    | none => s

/-- The conflict flag is set and LINE_CONFLICT placed (R174, R177). -/
def State.flagConflict (kind destination : Nat) (cause : ConflictCause) (s : State) : State :=
  State.report (.lineConflict kind destination cause) { s with line := { s.line with conflict := true } }

/-- A frame that has left the node's hands at its second mismatch: the block that placed it is told that it was discarded
without being sent, the conflict flag is set and LINE_CONFLICT is placed (R174). -/
def State.discardSent (f : TxFrame) (s : State) : State :=
  (State.flagConflict f.body.kind.code f.destination .readback (s.tellDiscard f.body)).retryReoffer

/-- An octet read back differs from the one sent (R173): a first mismatch keeps the frame for a second attempt, a second
one discards it (R174), the frame that was being sent at a soft restart too (log entry 20). After a mismatch the receiver goes
on assembling what is on the line. -/
def State.mismatch (s : State) : State :=
  let again := fun (g : TxFrame) => if g.sending then { g with sending := false, mismatches := 1 } else g
  match s.sendingFrame with
  | some f =>
    if f.mismatches = 0 then
      { s with line := { s.line with transmit := s.line.transmit.map again, sent := [] } }
    else
      State.discardSent f { s with line := { s.line with
        transmit := s.line.transmit.filter (fun g => decide (g.order ≠ f.order)), sent := [] } }
  | none =>
    match s.line.muted with
    | some f =>
      if !f.sending then s
      else if f.mismatches = 0 then { s with line := { s.line with muted := s.line.muted.map again, sent := [] } }
      else State.discardSent f { s with line := { s.line with muted := none, sent := [] } }
    | none => s

/-! ## Receiving (R175 to R178) -/

/-- A complete frame of another station has been assembled (R175): it is checked and, in WAITING TIME and IN SERVICE,
handed to its owner (R177, R178). The receiver then ignores the line until the next quiet, and it takes nothing while it
ignores the line. -/
def State.receive (f : RxFrame) (handle : FrameKind → Nat → State → State) (s : State) : State :=
  if s.loader.resetHeld ∨ s.line.receiver = .ignoring then s
  else
    let t := s.ignoreLine
    if !t.active then t
    else
      match rxCheck f t.loader.address with
      | .discarded => t
      | .conflict code destination => t.flagConflict code destination .source
      | .accepted kind source => handle kind source t

/-- A frame handed to the owner of one kind; a frame of any other kind is not this step's. -/
def onKind (k : FrameKind) (act : Nat → State → State) (kind : FrameKind) (source : Nat) (s : State) : State :=
  if kind = k then act source s else s

/-- A CONTROL handed to the owner of one action; one of any other action is not this step's (R178). -/
def onAction (a : ControlAction) (payload : List Byte) (act : Nat → State → State) :
    FrameKind → Nat → State → State :=
  onKind .control (fun source s => if controlAction payload = some a then act source s else s)

/-- An OFFER of another station, where R193 does not refuse it (R30). -/
def State.onOffer (payload : List Byte) (source : Nat) (s : State) : State :=
  match offerFields payload s.clock.dayLength with
  | some f => s.offerHeard source f
  | none => s

/-- A BID of another station, where R193 does not refuse it (R33). -/
def State.onBid (payload : List Byte) (source : Nat) (s : State) : State :=
  match bidFields payload s.clock.dayLength with
  | some f => s.bidHeard source f
  | none => s

/-- A TAKE of another station, where R192 and R193 do not refuse it (R26, R34). -/
def State.onTake (payload : List Byte) (source : Nat) (s : State) : State :=
  match takeFields payload s.clock.dayLength with
  | some f => s.takeHeard source f
  | none => s

/-- A RECORD, where R193 does not refuse its visit record (R42). -/
def State.onRecordFrame (payload : List Byte) (s : State) : State :=
  match visitFields payload s.clock.dayLength with
  | some r => s.onRecord r
  | none => s

end Sys2Proof.Machine
end

