-- ==== Sys2Proof/Machine/StartUp.lean ====
section
/-! DEFINITION. Start-up, soft restart and POLL (chapter 10): power-on and the reset pin (R181), the reading of straps and
configuration memory (R183 to R186), the soft restart (R182), the SUMMARY (R189, R190). -/

namespace Sys2Proof.Machine

open Sys2Proof

/-! ## Power-on and the reset pin (R181) -/

/-- The detectors of a node that holds its power-on values: the live levels follow the pins (R160, R168). -/
def restDetectors (d : Vector Detector 13) : Vector Detector 13 :=
  Vector.ofFn (fun i : Fin 13 => { live := d[i].live, debounced := false, timer := false })

/-- Every block at its power-on values, with the commands still waiting and the pins as they are (R181). -/
def State.powerOnValues (s : State) : State :=
  { State.reset with
    pending := s.pending, field := { State.reset.field with detectors := restDetectors s.field.detectors } }

/-- Power-on, or the release of the reset pin: CONFIGURING, with one transfer of three blank codes (R181, R194). -/
def State.powerOn (s : State) : State := s.powerOnValues

/-- The reset pin is asserted: the node is held at its power-on values, with no display transfer running (R181). -/
def State.assertReset (s : State) : State :=
  let t := s.powerOnValues
  { t with loader := { t.loader with resetHeld := true }, field := { t.field with transfer := none } }

/-! ## The configuration memory (R183, R184, section 11.9) -/

/-- A value held to its range (R184). -/
def clampTo (lo hi n : Nat) : Nat := max lo (min hi n)

/-- The 128 octets as read, 0xFF for one the memory did not answer for (R183). -/
def memoryOctets (octets : List (Option Byte)) : List Byte :=
  (List.range Config.memoryOctets).map (fun i => (octets[i]?.join).getD 0xFF#8)

/-- The sum of octets modulo 256 (R183). -/
def checksum (l : List Byte) : Nat := (l.foldl (fun n b => n + b.toNat) 0) % 256

/-- The kind a point code names; any other code is taken as NONE (R184). -/
def PointKind.ofCode : Nat → PointKind
  | 1 => .fuel
  | 2 => .wash
  | _ => .none

/-- The clamped values of the point whose nine octets begin at `i` (section 11.9, R184). -/
def pointImageAt (l : List Byte) (i : Nat) : PointImage :=
  { kind := PointKind.ofCode (octetAt l i)
    handling := clampTo 0 15 (octetAt l (i + 1))
    defaultRate := clampTo 10 250 (octetAt l (i + 2))
    pulsesPerLitre := clampTo 1 1000 (pairAt l (i + 3))
    fullCycle := clampTo 4 30 (octetAt l (i + 5))
    rinseCycle := clampTo 1 15 (octetAt l (i + 6))
    stencil := stencilOf (pairAt l (i + 7)) }

/-- The clamped image of the octets read (section 11.9, R184). -/
def imageOf (l : List Byte) : Image :=
  { gateReader := octetAt l 0 % 2 = 1
    threshold := clampTo 50 100 (octetAt l 1)
    openCost := clampTo 0 1499 (pairAt l 2)
    callLead := clampTo 0 60 (octetAt l 4)
    margin := clampTo 0 120 (octetAt l 5)
    dutyWait := clampTo 1 30 (octetAt l 6)
    expectedTimeout := clampTo 5 60 (octetAt l 7)
    strandedRetry := clampTo 1 30 (octetAt l 8)
    debounce := clampTo 2 50 (octetAt l 9)
    classLength := Vector.ofFn (fun c : Fin 8 => clampTo 6 25 (octetAt l (10 + 3 * c.val)))
    classTank := Vector.ofFn (fun c : Fin 8 => clampTo 50 600 (pairAt l (11 + 3 * c.val)))
    laneCount := clampTo 0 6 (octetAt l 34)
    laneLength := Vector.ofFn (fun n : Fin 6 => clampTo 20 250 (octetAt l (35 + n.val)))
    point0 := pointImageAt l 41
    point1 := pointImageAt l 50 }

/-- The pin of an index among the thirteen. -/
def pinOf (i : Fin 13) : Pin :=
  if h : i.val < 6 then .laneClear ⟨i.val, h⟩
  else if i.val = 6 then .occupied .p0
  else if i.val = 7 then .occupied .p1
  else if i.val = 8 then .machineA .p0
  else if i.val = 9 then .machineB .p0
  else if i.val = 10 then .machineA .p1
  else if i.val = 11 then .machineB .p1
  else .maintenanceKey

/-- The debouncers start: every present detector whose live level is active runs its timer (R161). -/
def State.startDebouncers (s : State) : State :=
  { s with field := { s.field with
      detectors := Vector.ofFn (fun i : Fin 13 =>
        let d := s.field.detectors[i]
        { live := d.live, debounced := false, timer := d.live && s.isPresent (pinOf i) }) } }

/-- The node enters WAITING TIME: the image is in force, every configured lane UNKNOWN and every point at its power-on
values (R185). -/
def State.enterWaiting (address : Nat) (i : Image) (s : State) : State :=
  let t := s.setLanes (List.replicate i.laneCount Lane.powerOn)
  State.startDebouncers
    { t with
      loader := { t.loader with node := .waitingTime, address := address, image := i }
      point0 := Point.powerOn i.point0
      point1 := Point.powerOn i.point1 }

/-- The node enters CONFIG FAULT: every lamp output winks, and one transfer of three blank codes is made (R186, R194). -/
def State.enterFault (s : State) : State :=
  State.startTransfer
    { s with
      loader := { s.loader with node := .configFault }
      field := { s.field with lamps := Vector.replicate 6 .wink } }

/-- The reading of the straps and the memory ends (R183). -/
def State.configReadEnd (strap : BitVec 4) (octets : List (Option Byte)) (s : State) : State :=
  if s.loader.resetHeld ∨ s.loader.node ≠ .configuring then s
  else
    let l := memoryOctets octets
    if strap.toNat = 0 ∨ strap.toNat = 15 ∨ checksum l ≠ 0 then s.enterFault
    else s.enterWaiting strap.toNat (imageOf l)

/-! ## The soft restart (R44, R151, R180, R182) -/

/-- Steps 1 and 2: the transmit queue and the report queue are emptied; a frame being sent completes unheard (R180,
R182). -/
def State.emptyQueues (s : State) : State :=
  let onLine := match s.sendingFrame with
    | some f => some f
    | none => s.line.muted.filter (fun f => f.sending)
  { s with line := { s.line with transmit := [], muted := onLine }
           loader := { s.loader with reports := [], retryAtQuiet := false } }

/-- Step 3: the handover state (R44). -/
def State.restartHandover (s : State) : State :=
  let t := State.removeQueueEntries (fun e => decide (e.state = .tentative))
    (s.removeLaneEntries (fun _ e => decide (e.state = .tentative)))
  { t with hand := { t.hand with
      offer := none
      bids := []
      outbound := sortItems (t.hand.outbound.map (fun i =>
        { i with ready := s.clock.m, offerCount := 0, lastNumber := 0 })) } }

/-- Step 4: every take mark that stands at the restart ends with its binding, one that an earlier binding of the step has
unbound too (R151). DESIGN CHOICE (log entry 49): the marks are bound by rising lane number, and so their reports join. -/
def State.bindMarks (s : State) : State :=
  (s.laneEntries.filterMap (fun e => e.mark.map (fun k => (e.visit.bus, k)))).foldl (fun t x => t.bindTaken x.1 x.2) s

/-- A point in FAULT enters IDLE (R109, R129). -/
def State.freeFault (p : PointId) (s : State) : State :=
  s.modPoint p (fun v => if v.state = .fault then { v with state := .idle } else v)

/-- The start test of a point that was in FAULT before the restart (R182 step 6). -/
def State.testFreed (before : State) (p : PointId) (s : State) : State :=
  if (before.point p).state = .fault then s.startTest p else s

/-- A soft restart (R182). DESIGN CHOICE (log entry 56): the start test of step 6 is made at point 0 before point 1. -/
def State.softRestart (s : State) : State :=
  let bound := s.emptyQueues.restartHandover.bindMarks
  let freed := (bound.freeFault .p0).freeFault .p1
  let heads := State.settle s freed
  ((State.testFreed s .p1 (State.testFreed s .p0 heads))).offerTest

/-- What the Configuration Loader makes of a CONTROL RESTART with destination `destination` (R182). -/
def State.onRestart (destination source : Nat) (s : State) : State :=
  if source = Config.officeStation ∧ destination = s.loader.address then s.softRestart else s

/-! ## POLL (R189, R190) -/

/-- One lane's items (R190). -/
def laneSummary (i : Image) (l : Lane) : LaneSummary :=
  { state := l.state, overfull := l.overfull, entries := l.entries.length, occupied := l.occupied i,
    unconfirmed := l.unconfirmed }

/-- One point's items; those of a point of kind NONE are zero (R190). -/
def State.pointSummary (s : State) (p : PointId) : PointSummary :=
  let v := s.point p
  match (s.pointImage p).kind with
  | .none => { kind := .none, state := .idle, closed := false, mark := false, queue := 0, gauge := 0 }
  | .fuel =>
    { kind := .fuel, state := v.state, closed := v.closed, mark := v.faultPending, queue := v.queue.length,
      gauge := v.rate }
  | .wash =>
    { kind := .wash, state := v.state, closed := v.closed, mark := v.staged.isSome, queue := v.queue.length,
      gauge := v.pointer }

/-- The SUMMARY as the node stands (R190). -/
def State.summary (s : State) : Summary :=
  { inService := decide (s.loader.node = .inService), clockSet := s.clock.isSet, m := s.clock.m, shift := s.clock.shift,
    change := s.clock.change, lanes := s.lanes.map (laneSummary s.image), point0 := s.pointSummary .p0,
    point1 := s.pointSummary .p1, outbound := s.hand.outbound.length, bids := s.hand.bids.length,
    conflict := s.line.conflict, pins := s.field.detectors.toList.map (fun d => d.live) }

/-- Whether a report is a SUMMARY. -/
def Report.isSummary (r : Report) : Bool :=
  match r.body with
  | .summary _ => true
  | _ => false

/-- Whether a report's frame is in the transmit queue (R188, R189). -/
def State.hasFrame (s : State) (r : Report) : Bool :=
  s.line.transmit.any (fun f => match f.body with
    | .report x => x.sequence = r.sequence
    | _ => false)

/-- A SUMMARY that waits in the report queue and may be built again in place (R189). -/
def State.waitingSummary (s : State) (r : Report) : Bool := r.isSummary && !s.hasFrame r

/-- A POLL from the office station is answered (R189). DESIGN CHOICE (log entry 46): where two SUMMARYs wait without a
frame, both are built again. -/
def State.onPoll (source : Nat) (s : State) : State :=
  if source ≠ Config.officeStation then s
  else if s.loader.reports.any s.waitingSummary then
    { s with loader := { s.loader with reports := s.loader.reports.map (fun r =>
        if s.waitingSummary r then { r with minute := s.clock.m, body := .summary s.summary } else r) } }
  else s.report (.summary s.summary)

/-! ## When a command acts -/

/-- An effect that needs WAITING TIME or IN SERVICE (R178, R185). -/
def State.whenActive (f : State → State) (s : State) : State := if s.active then f s else s

/-- An effect of a minute event (R2, R43, R150). -/
def State.whenMinute (f : State → State) (s : State) : State := if s.minuteLive then f s else s

/-- An effect that needs the reset pin released (R181). -/
def State.whenPowered (f : State → State) (s : State) : State := if s.loader.resetHeld then s else f s

/-- The EXPECTED entries of a bus whose deadline is reached are removed with their MISSING reports (R56, R92, R118). -/
def State.expireBus (bus : Nat) (s : State) : State :=
  ((s.expireLanes (fun e => e.visit.bus = bus)).expireQueue .p0 (fun e => e.visit.bus = bus)).expireQueue .p1
    (fun e => e.visit.bus = bus)

/-- The RECORD awaited marks of a bus whose deadline is reached are cleared (R42). -/
def State.expireRecordsOf (bus : Nat) (s : State) : State :=
  ((s.expireLaneRecords (fun e => e.visit.bus = bus)).expireRecords .p0 (fun e => e.visit.bus = bus)).expireRecords .p1
    (fun e => e.visit.bus = bus)

end Sys2Proof.Machine
end

