-- ==== Sys2Proof/Machine/FieldCommands.lean ====
section
/-! DEFINITION. The meanings of the field-side commands (chapter 8): tag reports, detectors, flow pulses, the display
transfer. -/

namespace Sys2Proof.Machine

open Sys2Proof

/-- TAG_REPORT (R153 to R158). -/
def execTagReport (t : TagOctets) (now : Nat) (s : State) : Host.Outcome State Fault Refusal :=
  .next (s.whenActive (State.tagReport t now))

/-- TAG_REPORT_TIMEOUT (R153). -/
def execTagReportTimeout (s : State) : Host.Outcome State Fault Refusal := .next (s.whenActive State.abandonReport)

/-- LOOP_FRAMING_ERROR (R153). -/
def execLoopFramingError (s : State) : Host.Outcome State Fault Refusal := .next (s.whenActive State.abandonReport)

/-- DETECTOR_LEVEL_CHANGE (R160, R161). -/
def execDetectorLevelChange (pin : Pin) (level : Bool) (s : State) : Host.Outcome State Fault Refusal :=
  .next (s.levelChange pin level)

/-- DEBOUNCE_COMPLETE (R160, R162). -/
def execDebounceComplete (pin : Pin) (s : State) : Host.Outcome State Fault Refusal := .next (s.debounced pin)

/-- FLOW_PULSE (R98, R163). -/
def execFlowPulse (p : PointId) (s : State) : Host.Outcome State Fault Refusal := .next (s.pulse p)

/-- DISPLAY_TRANSFER_END (R194). -/
def execDisplayTransferEnd (s : State) : Host.Outcome State Fault Refusal := .next (s.transferEnd)

end Sys2Proof.Machine
end

