-- ==== Sys2Proof/Machine/FrameCommands.lean ====
section
/-! DEFINITION. The meanings of the commands that bring a frame of another station: each goes through the receiver and
its checks (R175 to R178) and acts where the frame is of the command's own kind. -/

namespace Sys2Proof.Machine

open Sys2Proof

/-- TIME (R5, R6). -/
def execTime (f : RxFrame) (order : List Owner) (s : State) : Host.Outcome State Fault Refusal :=
  .next (s.receive f (onKind .time (fun source => State.onTime source f.payload order)))

/-- DUTY (R12). -/
def execDuty (f : RxFrame) (s : State) : Host.Outcome State Fault Refusal :=
  .next (s.receive f (onKind .duty (fun source => State.onDuty source f.payload)))

/-- PLAN (R75). -/
def execPlan (f : RxFrame) (s : State) : Host.Outcome State Fault Refusal :=
  .next (s.receive f (onKind .plan (fun source => State.onPlan source f.payload)))

/-- OPEN_LANE (R68, R108, R128). -/
def execOpenLane (f : RxFrame) (s : State) : Host.Outcome State Fault Refusal :=
  .next (s.receive f (onAction .openLane f.payload (fun source =>
    State.onControl source f.payload State.openLane (State.setClosed false))))

/-- CLOSE_LANE (R67, R108, R128). -/
def execCloseLane (f : RxFrame) (s : State) : Host.Outcome State Fault Refusal :=
  .next (s.receive f (onAction .closeLane f.payload (fun source =>
    State.onControl source f.payload State.closeLane (State.setClosed true))))

/-- CLEAR_POINT (R107, R128). -/
def execClearPoint (f : RxFrame) (s : State) : Host.Outcome State Fault Refusal :=
  .next (s.receive f (onAction .clearPoint f.payload (fun source =>
    State.onControl source f.payload (fun _ t => t) State.clearPoint)))

/-- RESTART (R182). -/
def execRestart (f : RxFrame) (s : State) : Host.Outcome State Fault Refusal :=
  .next (s.receive f (onAction .restart f.payload (State.onRestart (rxDestination f))))

/-- POLL (R189). -/
def execPoll (f : RxFrame) (s : State) : Host.Outcome State Fault Refusal :=
  .next (s.receive f (onKind .poll State.onPoll))

/-- OFFER (R24, R30, R31, R35). -/
def execOffer (f : RxFrame) (s : State) : Host.Outcome State Fault Refusal :=
  .next (s.receive f (onKind .offer (State.onOffer f.payload)))

/-- BID (R33). -/
def execBid (f : RxFrame) (s : State) : Host.Outcome State Fault Refusal :=
  .next (s.receive f (onKind .bid (State.onBid f.payload)))

/-- TAKE (R26, R27, R34, R146). -/
def execTake (f : RxFrame) (s : State) : Host.Outcome State Fault Refusal :=
  .next (s.receive f (onKind .take (State.onTake f.payload)))

/-- STRAY (R39). -/
def execStray (f : RxFrame) (s : State) : Host.Outcome State Fault Refusal :=
  .next (s.receive f (onKind .stray (fun source => State.onStray source (pairAt f.payload 0))))

/-- RECORD (R42). DESIGN CHOICE (log entry 54): one to destination 15, which the Line Interface accepts (R177), acts as
one addressed to the node does. -/
def execRecord (f : RxFrame) (s : State) : Host.Outcome State Fault Refusal :=
  .next (s.receive f (onKind .record (fun _ => State.onRecordFrame f.payload)))

/-- OTHER_FRAME (R177, R178): no owner acts on it. -/
def execOtherFrame (f : RxFrame) (s : State) : Host.Outcome State Fault Refusal := .next (s.receive f (fun _ _ t => t))

end Sys2Proof.Machine
end

