-- ==== Sys2Proof/Machine/LineCommands.lean ====
section
/-! DEFINITION. The meanings of the yard line's commands (chapter 9): line states, deferral, sending and read-back,
the receiver. -/

namespace Sys2Proof.Machine

open Sys2Proof

/-- CHARACTER_BEGIN (R169). -/
def execCharacterBegin (s : State) : Host.Outcome State Fault Refusal := .next (s.whenPowered State.charBegin)

/-- LINE_QUIET (R169, R171, R175, R188). -/
def execLineQuiet (s : State) : Host.Outcome State Fault Refusal := .next (s.whenPowered State.lineQuiet)

/-- LINE_JAM (R169, R175). -/
def execLineJam (s : State) : Host.Outcome State Fault Refusal := .next (s.whenPowered State.lineJam)

/-- DEFERRAL_ROUND_END (R171). -/
def execDeferralRoundEnd (s : State) : Host.Outcome State Fault Refusal := .next (s.whenPowered State.roundEnd)

/-- TRANSMIT_START (R171). -/
def execTransmitStart (count : Nat) (s : State) : Host.Outcome State Fault Refusal :=
  .next (s.whenPowered (State.transmitStart count))

/-- FRAME_HEARD (R173, R178). -/
def execFrameHeard (s : State) : Host.Outcome State Fault Refusal := .next (s.whenActive State.frameHeard)

/-- READBACK_MISMATCH (R173, R174). -/
def execReadbackMismatch (s : State) : Host.Outcome State Fault Refusal := .next (s.whenActive State.mismatch)

/-- RX_FRAMING_ERROR (R175). -/
def execRxFramingError (s : State) : Host.Outcome State Fault Refusal := .next (s.whenPowered State.ignoreLine)

/-- RX_OCTET_REJECTED (R175, R176). -/
def execRxOctetRejected (r : Rejected) (s : State) : Host.Outcome State Fault Refusal :=
  .next (s.whenPowered (fun t => if isRejected r then t.ignoreLine else t))

end Sys2Proof.Machine
end

