-- ==== Sys2Proof/Machine/MinuteCommands.lean ====
section
/-! DEFINITION. The meanings of MINUTE_EVENT and of the commands that hand the minute event to one owner or one bus
once more (log entry 2): each of them acts while minute events reach the blocks (R2, R43, R150). -/

namespace Sys2Proof.Machine

open Sys2Proof

/-- MINUTE_EVENT (R2, R8). -/
def execMinuteEvent (order : List Owner) (s : State) : Host.Outcome State Fault Refusal :=
  .next (s.whenMinute (State.minuteEvent order))

/-- DUTY_WAIT_EXPIRY (R16). -/
def execDutyWaitExpiry (bus : Nat) (s : State) : Host.Outcome State Fault Refusal :=
  .next (s.whenMinute (State.expireDutyWait (fun r => r.bus = bus)))

/-- EXPECTED_TIMEOUT (R56, R92, R118). -/
def execExpectedTimeout (bus : Nat) (s : State) : Host.Outcome State Fault Refusal :=
  .next (s.whenMinute (State.expireBus bus))

/-- RECORD_DEADLINE (R42). -/
def execRecordDeadline (bus : Nat) (s : State) : Host.Outcome State Fault Refusal :=
  .next (s.whenMinute (State.expireRecordsOf bus))

/-- OFFER_START (R23). -/
def execOfferStart (s : State) : Host.Outcome State Fault Refusal := .next (s.offerTest)

/-- JOIN_RETRY (R102, R119, R122). -/
def execJoinRetry (p : PointId) (s : State) : Host.Outcome State Fault Refusal :=
  .next (s.whenMinute (State.retryJoins p))

/-- CALL_TIME_DUE (R131). -/
def execCallTimeDue (s : State) : Host.Outcome State Fault Refusal := .next (s.whenMinute State.callTimes)

/-- RUN_LATE (R139). -/
def execRunLate (bus : Nat) (s : State) : Host.Outcome State Fault Refusal :=
  .next (s.whenMinute (State.lateTest (fun x => x.visit.bus = bus)))

/-- NOZZLE_TIMEOUT (R100). -/
def execNozzleTimeout (p : PointId) (s : State) : Host.Outcome State Fault Refusal :=
  .next (s.whenMinute (State.nozzleTimeout p))

/-- FLOW_FAULT (R106). -/
def execFlowFault (p : PointId) (s : State) : Host.Outcome State Fault Refusal :=
  .next (s.whenMinute (State.flowFault p))

/-- DONE_TIMEOUT (R125, R127). -/
def execDoneTimeout (p : PointId) (s : State) : Host.Outcome State Fault Refusal :=
  .next (s.whenMinute (State.doneTimeout p))

end Sys2Proof.Machine
end

