-- ==== Sys2Proof/Machine/OfferCommands.lean ====
section
/-! DEFINITION. The meanings of the offer protocol's timed commands (chapter 2 and section 7.5): the ends of the bid
window, of the take wait and of a take mark. -/

namespace Sys2Proof.Machine

open Sys2Proof

/-- BID_WINDOW_END (R32, R33). -/
def execBidWindowEnd (tag : Tag) (s : State) : Host.Outcome State Fault Refusal :=
  .next (s.whenActive (State.bidWindowEnd tag))

/-- OFFER_WINDOW_END (R25). -/
def execOfferWindowEnd (s : State) : Host.Outcome State Fault Refusal := .next (s.whenActive State.offerWindowEnd)

/-- TAKE_WAIT_END (R25, R27 to R29). -/
def execTakeWaitEnd (s : State) : Host.Outcome State Fault Refusal := .next (s.whenActive State.takeWaitEnd)

/-- TAKE_MARK_END (R146, R147). -/
def execTakeMarkEnd (tag : Tag) (s : State) : Host.Outcome State Fault Refusal :=
  .next (s.whenActive (State.takeMarkEnd tag))

end Sys2Proof.Machine
end

