-- ==== Sys2Proof/Machine/StartCommands.lean ====
section
/-! DEFINITION. The meanings of the start-up commands: POWER_ON, RESET_ASSERT, CONFIG_READ_END. -/

namespace Sys2Proof.Machine

open Sys2Proof

/-- POWER_ON (R181): also the release of the reset pin. -/
def execPowerOn (s : State) : Host.Outcome State Fault Refusal := .next (s.powerOn)

/-- RESET_ASSERT (R181). -/
def execResetAssert (s : State) : Host.Outcome State Fault Refusal := .next (s.assertReset)

/-- CONFIG_READ_END (R183 to R186). -/
def execConfigReadEnd (strap : BitVec 4) (octets : List (Option Byte)) (s : State) : Host.Outcome State Fault Refusal :=
  .next (s.configReadEnd strap octets)

end Sys2Proof.Machine
end

