-- ==== Sys2Proof/Machine/Dispatch.lean ====
section
/-! DEFINITION. One arm per command, each a call of the command's meaning. -/

namespace Sys2Proof.Machine

open Sys2Proof

/-- The effect of a command on everything but the queue. -/
def exec (i : Instr) (s : State) : Host.Outcome State Fault Refusal :=
  match i with
  | .powerOn => Sys2Proof.Machine.execPowerOn s
  | .resetAssert => Sys2Proof.Machine.execResetAssert s
  | .configReadEnd strap octets => Sys2Proof.Machine.execConfigReadEnd strap octets s
  | .minuteEvent order => Sys2Proof.Machine.execMinuteEvent order s
  | .dutyWaitExpiry bus => Sys2Proof.Machine.execDutyWaitExpiry bus s
  | .expectedTimeout bus => Sys2Proof.Machine.execExpectedTimeout bus s
  | .recordDeadline bus => Sys2Proof.Machine.execRecordDeadline bus s
  | .offerStart => Sys2Proof.Machine.execOfferStart s
  | .joinRetry p => Sys2Proof.Machine.execJoinRetry p s
  | .callTimeDue => Sys2Proof.Machine.execCallTimeDue s
  | .runLate bus => Sys2Proof.Machine.execRunLate bus s
  | .nozzleTimeout p => Sys2Proof.Machine.execNozzleTimeout p s
  | .flowFault p => Sys2Proof.Machine.execFlowFault p s
  | .doneTimeout p => Sys2Proof.Machine.execDoneTimeout p s
  | .time f order => Sys2Proof.Machine.execTime f order s
  | .duty f => Sys2Proof.Machine.execDuty f s
  | .plan f => Sys2Proof.Machine.execPlan f s
  | .openLane f => Sys2Proof.Machine.execOpenLane f s
  | .closeLane f => Sys2Proof.Machine.execCloseLane f s
  | .clearPoint f => Sys2Proof.Machine.execClearPoint f s
  | .restart f => Sys2Proof.Machine.execRestart f s
  | .poll f => Sys2Proof.Machine.execPoll f s
  | .offer f => Sys2Proof.Machine.execOffer f s
  | .bid f => Sys2Proof.Machine.execBid f s
  | .take f => Sys2Proof.Machine.execTake f s
  | .stray f => Sys2Proof.Machine.execStray f s
  | .record f => Sys2Proof.Machine.execRecord f s
  | .otherFrame f => Sys2Proof.Machine.execOtherFrame f s
  | .bidWindowEnd tag => Sys2Proof.Machine.execBidWindowEnd tag s
  | .offerWindowEnd => Sys2Proof.Machine.execOfferWindowEnd s
  | .takeWaitEnd => Sys2Proof.Machine.execTakeWaitEnd s
  | .takeMarkEnd tag => Sys2Proof.Machine.execTakeMarkEnd tag s
  | .tagReport t now => Sys2Proof.Machine.execTagReport t now s
  | .tagReportTimeout => Sys2Proof.Machine.execTagReportTimeout s
  | .loopFramingError => Sys2Proof.Machine.execLoopFramingError s
  | .detectorLevelChange pin level => Sys2Proof.Machine.execDetectorLevelChange pin level s
  | .debounceComplete pin => Sys2Proof.Machine.execDebounceComplete pin s
  | .flowPulse p => Sys2Proof.Machine.execFlowPulse p s
  | .characterBegin => Sys2Proof.Machine.execCharacterBegin s
  | .lineQuiet => Sys2Proof.Machine.execLineQuiet s
  | .lineJam => Sys2Proof.Machine.execLineJam s
  | .deferralRoundEnd => Sys2Proof.Machine.execDeferralRoundEnd s
  | .transmitStart count => Sys2Proof.Machine.execTransmitStart count s
  | .frameHeard => Sys2Proof.Machine.execFrameHeard s
  | .readbackMismatch => Sys2Proof.Machine.execReadbackMismatch s
  | .rxFramingError => Sys2Proof.Machine.execRxFramingError s
  | .displayTransferEnd => Sys2Proof.Machine.execDisplayTransferEnd s
  | .rxOctetRejected r => Sys2Proof.Machine.execRxOctetRejected r s

end Sys2Proof.Machine
end

