-- ==== Sys2Proof/Safety.lean ====
section
/-! DEFINITION. What a safe node is, in the terms the statements use: the clock's ranges (R1), the lamps in step with the
lanes (R136), the capacities of the lists (R21, R30, R47, R86, R170, R187), what they hold once (R20, R21, R30, R47,
R86), the records a node holds and gives up (R38), the report of a binding (R10), and the part of the state that no block but the Yard Clock and the Configuration Loader changes. -/

namespace Sys2Proof.Machine

open Sys2Proof

/-- The queue of commands, the clock, the node state with its configuration, and the count of lanes: what every event but
power-on, the reset pin, the end of the configuration reading, a minute event and a TIME leaves as it is. -/
def State.steady (s : State) : List Instr × Clock × NodeState × Bool × Nat × Image × Nat :=
  (s.pending, s.clock, s.loader.node, s.loader.resetHeld, s.loader.address, s.loader.image, s.lanes.length)

/-- The service plan, the late set, the reader loop, the detectors, what the displays show and the state of the yard
line with the frame on it: what a frame handed to its owner, an offer window or a point event leaves as it is. -/
def State.still (s : State) : Timeline × List Nat × List Byte × Vector (Option FilterEntry) 17 × Vector Detector 13 ×
    GuideCodes × LinePhase × Option Nat × RxPhase × Bool × Option TxFrame × List Byte :=
  (s.timeline, s.lateRuns, s.field.loopPartial, s.field.filter, s.field.detectors, s.field.shown, s.line.phase,
    s.line.deferral, s.line.receiver, s.line.conflict, s.line.muted, s.line.sent)

/-- The ranges of the clock's items: the yard minute below the day length, the change minute in 60–1379 (R1). -/
def Clock.inRange (c : Clock) : Prop := c.m < c.dayLength ∧ 60 ≤ c.change ∧ c.change ≤ 1379

/-- Every lane lamp shows the indication of its lane (R136). -/
def State.lampsTrue (s : State) : Prop := s.field.lamps = lampsOf s.lanes

/-- Every lane lamp shows the indication of its lane (R136), outside CONFIG FAULT, where all wink (R186). -/
def State.lampsInStep (s : State) : Prop := s.loader.node ≠ .configFault → s.lampsTrue

/-- No list outgrows its capacity: outbound list (R21), bid list (R30), report queue (R187), transmit queue with the frame
that completes after a soft restart (R170; log entry 20), lanes (R47), service queues (R86, R111). -/
def State.withinCapacity (s : State) : Prop :=
  s.hand.outbound.length ≤ Config.outboundCapacity ∧ s.hand.bids.length ≤ Config.bidCapacity ∧
  s.loader.reports.length ≤ Config.reportCapacity ∧
  s.line.transmit.length + s.line.muted.toList.length ≤ Config.transmitCapacity ∧
  (∀ l ∈ s.lanes, l.entries.length ≤ Config.laneCapacity) ∧
  (∀ p, (s.point p).queue.length ≤ Config.queueCapacity)

/-- The ranges of a visit record's fields (R11, R18). -/
def VisitRecord.inRange (r : VisitRecord) : Prop :=
  1 ≤ r.bus ∧ r.bus ≤ 9999 ∧ r.cls ≤ 7 ∧ r.fuelLevel ≤ 100 ∧ r.gateMinute ≤ 1499 ∧ r.duty.run ≤ 4095 ∧
  (∀ w, r.duty.wall = some w → w ≤ 1439) ∧ r.duty.departure ≤ 1499 ∧ r.litres ≤ 999

/-- A configured value held within its range (R184): the value itself, or the end of the range it lies beyond. -/
def heldTo (lo hi given v : Nat) : Prop :=
  (given < lo → v = lo) ∧ (hi < given → v = hi) ∧ (lo ≤ given → given ≤ hi → v = given)

/-- Whether a frame stands before another in the transmit queue: by class, then by entry order (R170). -/
def TxFrame.ahead (f g : TxFrame) : Prop := f.cls.base < g.cls.base ∨ (f.cls = g.cls ∧ f.order < g.order)

/-- The transmit queue stands in its order, no two frames with one entry order and every one below the next to be given
(R170). -/
def Line.inOrder (l : Line) : Prop :=
  l.transmit.Pairwise TxFrame.ahead ∧ (l.transmit.map (fun f => f.order)).Nodup ∧ ∀ f ∈ l.transmit, f.order < l.nextOrder

/-- The buses whose records the node holds: in the outbound list, in the service queues and in the lanes. The copies that
TENTATIVE and EXPECTED entries stand for are not counted (R20). -/
def State.recordBuses (s : State) : List Nat :=
  (s.hand.outbound.filterMap OutItem.visit?).map (fun r => r.bus)
    ++ (s.point0.queue.filter QueueEntry.isFront).map (fun e => e.visit.bus)
    ++ (s.point1.queue.filter QueueEntry.isFront).map (fun e => e.visit.bus)
    ++ (s.laneEntries.filter LaneEntry.isFront).map (fun e => e.visit.bus)

/-- No two bid entries have one tag (R30), no queue (R86, R111) and no lane (R47) holds two entries of one bus, no two
outbound items have one bus or one run of a swap request (R21), and no bus is held twice among the records (R20). -/
def State.entriesDistinct (s : State) : Prop :=
  (s.hand.bids.map (fun b => b.tag)).Nodup ∧
  (∀ p : PointId, ((s.point p).queue.map (fun e => e.visit.bus)).Nodup) ∧
  (∀ l ∈ s.lanes, (l.entries.map (fun e => e.visit.bus)).Nodup) ∧
  (s.hand.outbound.map OutItem.key).Nodup ∧ s.recordBuses.Nodup

/-! ## Records the node holds, and what a binding reports -/

/-- Whether the node holds record `r` elsewhere than at `here`, as it is handed over: in the outbound list, in the front part
of a queue, with the litres delivered so far and the outcome of its stage absent where it is in service (R40), or PARKED
or CALLED in a lane (R20, R38 step 1). -/
def State.holdsElsewhere (s : State) (r : VisitRecord) (here : Resource) : Prop :=
  (∃ i ∈ s.hand.outbound, i.cargo = .visit r) ∨
  (∃ p, here ≠ .point p ∧ ∃ x ∈ (s.point p).queue, x.isFront = true ∧ (x.state ≠ .serving → r = x.visit) ∧
    (x.state = .serving → r = match (s.pointImage p).kind with
      | .fuel => { x.visit with litres := (s.point p).delivered, fuelOutcome := none }
      | .wash => { x.visit with washOutcome := none }
      | .none => x.visit)) ∨
  (∃ n l, here ≠ .lane n ∧ s.lanes[n]? = some l ∧ ∃ x ∈ l.entries, x.isFront = true ∧ r = x.visit)

/-- Whether the node has an EXPECTED entry of record `r` elsewhere than at `here` (R38 step 2). -/
def State.expectsElsewhere (s : State) (r : VisitRecord) (here : Resource) : Prop :=
  (∃ p, here ≠ .point p ∧ ∃ x ∈ (s.point p).queue, x.state = .expected ∧ x.visit = r) ∨
  (∃ n l, here ≠ .lane n ∧ s.lanes[n]? = some l ∧ ∃ x ∈ l.entries, x.state = .expected ∧ x.visit = r)

/-- Whether the node has given up its record of bus `b` everywhere but at `here`, its open offer of the bus with it: neither
an OFFER of the bus waits in the transmit queue then, nor is one open (R37, R38 step 1). DESIGN CHOICE (log entry 59): nor does
an OFFER of an earlier, cancelled offer of the bus. -/
def State.gaveUp (before after : State) (b : Nat) (here : Resource) : Prop :=
  (∀ i ∈ after.hand.outbound, i.key ≠ .bus b) ∧ (∀ o, after.hand.offer = some o → o.key ≠ .bus b) ∧
  (∀ o, before.hand.offer = some o → o.key = .bus b →
    ∀ y ∈ after.line.transmit, ∀ n sup r, y.body = .offer n sup (.visit r) → r.bus = b → y.sending = true) ∧
  (∀ p, here ≠ .point p → ∀ x ∈ (after.point p).queue, x.isFront = true → x.visit.bus ≠ b) ∧
  (∀ n l, here ≠ .lane n → after.lanes[n]? = some l → ∀ x ∈ l.entries, x.isFront = true → x.visit.bus ≠ b)

/-- Whether the reports after the binding of a bus to a run are as R10 has them: a TIME_ADJUSTED with the minute given joins
the queue at its end where the wall minute lies in the hour that a forward shift removes, and no report joins otherwise. -/
def State.adjustedBy (before after : State) (bus run wall : Nat) : Prop :=
  let c := before.clock
  let r : Report := { sequence := before.loader.nextSequence, minute := if c.isSet then c.m else 0,
                      body := .timeAdjusted bus run wall c.change }
  let missing := c.shift = .forward ∧ c.change ≤ wall ∧ wall < c.change + 60
  (missing → after.loader.reports.getLast? = some r ∧
    (before.loader.reports.length < Config.reportCapacity → after.loader.reports = before.loader.reports ++ [r])) ∧
  (¬ missing → after.loader.reports = before.loader.reports)

/-! ## Which commands do what -/

/-- The frame that a command brings. -/
def frameOf : Instr → Option RxFrame
  | .time f _ => some f
  | .duty f => some f
  | .plan f => some f
  | .openLane f => some f
  | .closeLane f => some f
  | .clearPoint f => some f
  | .restart f => some f
  | .poll f => some f
  | .offer f => some f
  | .bid f => some f
  | .take f => some f
  | .stray f => some f
  | .record f => some f
  | .otherFrame f => some f
  | _ => none

/-- The frame kind of a command's row, with the action of a CONTROL. OTHER_FRAME is the row of no kind. -/
def rowOf : Instr → Option (FrameKind × Option ControlAction)
  | .time .. => some (.time, none)
  | .duty _ => some (.duty, none)
  | .plan _ => some (.plan, none)
  | .openLane _ => some (.control, some .openLane)
  | .closeLane _ => some (.control, some .closeLane)
  | .clearPoint _ => some (.control, some .clearPoint)
  | .restart _ => some (.control, some .restart)
  | .poll _ => some (.poll, none)
  | .offer _ => some (.offer, none)
  | .bid _ => some (.bid, none)
  | .take _ => some (.take, none)
  | .stray _ => some (.stray, none)
  | .record _ => some (.record, none)
  | _ => none

/-- The commands that bring a minute event, or a part of one, to its owners (R2). -/
def isMinuteCommand : Instr → Bool
  | .minuteEvent _ => true
  | .dutyWaitExpiry _ => true
  | .expectedTimeout _ => true
  | .recordDeadline _ => true
  | .joinRetry _ => true
  | .callTimeDue => true
  | .runLate _ => true
  | .nozzleTimeout _ => true
  | .flowFault _ => true
  | .doneTimeout _ => true
  | _ => false

/-- The commands that act in WAITING TIME and IN SERVICE alone and bring no frame (R43, R153, R161, R163, R173). -/
def isOwnerCommand : Instr → Bool
  | .offerStart => true
  | .bidWindowEnd _ => true
  | .offerWindowEnd => true
  | .takeWaitEnd => true
  | .takeMarkEnd _ => true
  | .tagReport _ _ => true
  | .tagReportTimeout => true
  | .loopFramingError => true
  | .debounceComplete _ => true
  | .flowPulse _ => true
  | .frameHeard => true
  | .readbackMismatch => true
  | c => isMinuteCommand c

/-- The commands that may change the clock (R1, R2, R6). -/
def setsClock : Instr → Bool
  | .powerOn => true
  | .resetAssert => true
  | .minuteEvent _ => true
  | .time _ _ => true
  | _ => false

/-- The commands that may change the node state, the node address, the image or the count of lanes (R181). -/
def setsNode : Instr → Bool
  | .powerOn => true
  | .resetAssert => true
  | .configReadEnd _ _ => true
  | .time _ _ => true
  | _ => false

/-! ## A frame received -/

/-- The yard line after a frame of another station has ended on it: it has left QUIET, and the receiver ignores it until
the next quiet (R169, R175). -/
def Line.heard (l : Line) : Line :=
  { l with
    phase := if l.phase = .quiet then .busy else l.phase
    deferral := if l.phase = .quiet then none else l.deferral
    receiver := .ignoring }

/-- The node after a frame of another station that no owner acts on. -/
def State.heard (s : State) : State := { s with line := s.line.heard }

/-- Whether the receiver takes a frame at all: the reset pin is released and the line is not being ignored. -/
abbrev State.listens (s : State) : Prop := s.loader.resetHeld = false ∧ s.line.receiver ≠ .ignoring

/-- Whether a frame reaches the owner of its kind, with its source (R175, R177, R178). -/
abbrev State.accepts (s : State) (f : RxFrame) (k : FrameKind) (source : Nat) : Prop :=
  s.active = true ∧ s.line.receiver ≠ .ignoring ∧ rxCheck f s.loader.address = .accepted k source

/-- Whether a re-offer is owed that found no place in the transmit queue (log entry 8). -/
def State.owesReoffer (s : State) : Bool :=
  s.hand.offer.any (fun o => decide (o.phase = .reofferQueued) && decide (o.reNumber = 0))

end Sys2Proof.Machine
end

