-- ==== Sys2Proof/WellFormed.lean ====
section
/-! DEFINITION. Which commands an outside that keeps the manual can send: operands in their ranges, and a frame given to the
row of its own kind. `exec` has an effect for every command, well-formed or not. -/

namespace Sys2Proof

open Sys2Proof.Machine

/-- The corrected kind of a frame is a given one (R176). -/
def isOfKind (k : FrameKind) (f : RxFrame) : Bool := rxKind f = some k

/-- A CONTROL frame of a given action (section 11.2). -/
def isControl (a : ControlAction) (f : RxFrame) : Bool := isOfKind .control f && decide (controlAction f.payload = some a)

/-- A payload the receiver can assemble, and a kind octet it does not reject (R175, R176). -/
def isFrame (f : RxFrame) : Bool := decide (f.payload.length ≤ Config.payloadCap) && f.kindOctet.getLsbD 7

/-- A frame that no owner acts on: ARRIVE, CALL, GONE, REPORT, or a kind that names none (R177, R178). -/
def isOther (f : RxFrame) : Bool :=
  match rxKind f with
  | some .arrive => true
  | some .call => true
  | some .gone => true
  | some .report => true
  | none => true
  | _ => false

/-- A bus number (R18). -/
def isBus (b : Nat) : Bool := decide (1 ≤ b) && decide (b ≤ 9999)

/-- The tag of an offer: a node's address and a number that is not 0 (R24). -/
def isTag (t : Tag) : Bool := decide (1 ≤ t.holder) && decide (t.holder ≤ 14) && decide (1 ≤ t.number) && decide (t.number ≤ 255)

/-- An order that names no block twice. -/
def isOrder : List Owner → Bool
  | [] => true
  | o :: os => !os.contains o && isOrder os

/-- The commands an outside that keeps the manual can send. -/
def wellFormed : Instr → Bool
  | .powerOn => true
  | .resetAssert => true
  | .configReadEnd _ octets => octets.length = Config.memoryOctets
  | .minuteEvent order => isOrder order
  | .dutyWaitExpiry bus => isBus bus
  | .expectedTimeout bus => isBus bus
  | .recordDeadline bus => isBus bus
  | .offerStart => true
  | .joinRetry _ => true
  | .callTimeDue => true
  | .runLate bus => isBus bus
  | .nozzleTimeout _ => true
  | .flowFault _ => true
  | .doneTimeout _ => true
  | .time f order => isFrame f && isOfKind .time f && isOrder order
  | .duty f => isFrame f && isOfKind .duty f
  | .plan f => isFrame f && isOfKind .plan f
  | .openLane f => isFrame f && isControl .openLane f
  | .closeLane f => isFrame f && isControl .closeLane f
  | .clearPoint f => isFrame f && isControl .clearPoint f
  | .restart f => isFrame f && isControl .restart f
  | .poll f => isFrame f && isOfKind .poll f
  | .offer f => isFrame f && isOfKind .offer f
  | .bid f => isFrame f && isOfKind .bid f
  | .take f => isFrame f && isOfKind .take f
  | .stray f => isFrame f && isOfKind .stray f
  | .record f => isFrame f && isOfKind .record f
  | .otherFrame f => isFrame f && isOther f
  | .bidWindowEnd tag => isTag tag
  | .offerWindowEnd => true
  | .takeWaitEnd => true
  | .takeMarkEnd tag => isTag tag
  | .tagReport _ _ => true
  | .tagReportTimeout => true
  | .loopFramingError => true
  | .detectorLevelChange _ _ => true
  | .debounceComplete _ => true
  | .flowPulse _ => true
  | .characterBegin => true
  | .lineQuiet => true
  | .lineJam => true
  | .deferralRoundEnd => true
  | .transmitStart count => decide (count < Config.deferralRound)
  | .frameHeard => true
  | .readbackMismatch => true
  | .rxFramingError => true
  | .displayTransferEnd => true
  | .rxOctetRejected r => isRejected r

end Sys2Proof
end

