-- ==== Sys2Proof/Certificates/Slice0/Obligations.lean ====
section
/-! DEFINITION. The statements for the provers. In each, `exec c s = .next t` says that command `c` completes, and an
equation `t = { s with … }` says that every other field of the node is unchanged. -/

open Sys2Proof Sys2Proof.Machine

/-! ## Steps and invariants -/

/-- A step runs the command at the front of the queue on the node with the queue's rest. On an empty queue the block
idles, which is the model's choice (log entry 5). -/
def Obligations.StepRunsTheFrontCommand : Prop :=
  (∀ (c : Instr) (q : List Instr) (s : State), step (s.withPending (c :: q)) = exec c (s.withPending q)) ∧
  (∀ s : State, s.pending = [] → step s = .next s)

/-- Every command completes in every state, and changes nothing in the queue of commands. The manual gives every step
an effect or none; that therefore no command stops, in whatever state, is the model's reading of it (log entry 31),
and that a command which is not well-formed has an effect too is the model's choice (log entry 9). -/
def Obligations.EveryCommandCompletes : Prop :=
  ∀ (c : Instr) (s : State), ∃ t, exec c s = .next t ∧ t.pending = s.pending

/-- Only power-on, the reset pin, a minute event and a TIME change the clock, and only power-on, the reset pin, the
end of the configuration reading and a TIME change the node state, the node address, the image or the count of lanes
(R1, R2, R6, R181). -/
def Obligations.FewCommandsSetClockAndNode : Prop :=
  ∀ (c : Instr) (s t : State), exec c s = .next t →
    (setsClock c = false → t.clock = s.clock) ∧
    (setsNode c = false → t.loader.node = s.loader.node ∧ t.loader.resetHeld = s.loader.resetHeld ∧
      t.loader.address = s.loader.address ∧ t.loader.image = s.loader.image ∧ t.lanes.length = s.lanes.length)

/-- Every step keeps the yard minute below the day length and the change minute in 60–1379 (R1). -/
def Obligations.StepsKeepTheClockInRange : Prop :=
  ∀ s t : State, s.clock.inRange → step s = .next t → t.clock.inRange

/-- Every step keeps every lane lamp in step with its lane, outside CONFIG FAULT. A lamp in step shows BLOCKED while some
PARKED entry of its lane has ask state REFUSED, else CALL while some entry is CALLED, else CLOSED while the lane is CLOSED,
and DARK otherwise; one of no configured lane shows DARK (R136, R186). -/
def Obligations.StepsKeepTheLampsInStep : Prop :=
  (∀ s t : State, s.lampsInStep → step s = .next t → t.lampsInStep) ∧
  (∀ (s : State) (n : Fin 6), s.lampsTrue →
     (s.lanes[n.val]? = none → s.field.lamps[n] = .dark) ∧
     (∀ l, s.lanes[n.val]? = some l →
       ((∃ e ∈ l.entries, e.state = .parked ∧ e.ask = .refused) → s.field.lamps[n] = .blocked) ∧
       ((∀ e ∈ l.entries, e.state = .parked → e.ask ≠ .refused) →
         ((∃ e ∈ l.entries, e.state = .called) → s.field.lamps[n] = .call) ∧
         ((∀ e ∈ l.entries, e.state ≠ .called) →
           (l.state = .closed → s.field.lamps[n] = .closed) ∧ (l.state ≠ .closed → s.field.lamps[n] = .dark)))))

/-- Every step keeps every list within its capacity (R21, R30, R47, R86, R111, R170, R187). That the frame a soft
restart left on the line is counted among the 16 of the transmit queue is the model's choice (log entry 20). -/
def Obligations.StepsKeepListsWithinCapacity : Prop :=
  ∀ s t : State, s.withinCapacity → step s = .next t → t.withinCapacity

/-- Every step keeps the transmit queue in its order: by class, and within a class by entry order, no two frames with
one entry order and each below the next one to be given (R170). -/
def Obligations.StepsKeepTheTransmitQueueInOrder : Prop :=
  ∀ s t : State, s.line.inOrder → step s = .next t → t.line.inOrder

/-- Every step keeps the bid entries apart by their tags, the entries of each queue and of each lane by their buses,
and the outbound items by their buses and by the runs of their swap requests; and it keeps every bus among the records
of the node at most once (R20, R21, R30, R47, R86, R111). That a second request for a run is refused is the model's
choice (log entry 52). -/
def Obligations.StepsKeepEntriesDistinct : Prop :=
  ∀ s t : State, s.entriesDistinct → step s = .next t → t.entriesDistinct

/-- The node after power-on meets the five invariants, the capacities as log entry 20 counts them. -/
def Obligations.ResetMeetsTheInvariants : Prop :=
  State.reset.clock.inRange ∧ State.reset.lampsInStep ∧ State.reset.withinCapacity ∧ State.reset.line.inOrder ∧
  State.reset.entriesDistinct

/-! ## Formats and the receiver's checks -/

/-- What a node puts into a frame is what a receiver with the same day length reads from it: a visit record in range,
from its 12 octets (section 11.4); and the fields of an OFFER, a BID and a TAKE, for a point, for a lane and for SWAP,
with a head bus that is BOUND or a spare (section 11.3, R193). The frames that no node reads back field by field carry
their fields at the octets of section 11.3: an ARRIVE, a STRAY, a CALL and a GONE, whose record is that of section 11.4; a
RECORD is that record alone. Every 12 octets are read by the places of section 11.4, a fuel_level above 100 as 100 and
litres above 999 as 999, and they are refused exactly for a bus of 0 or above 9999, a gate_minute or departure above
1499, a departure_wall in 1440-2046, an unlisted code, and duty fields that break the two laws under the receiver's day
length; an OFFER exactly where its record is or has another next_stage than its stage, or where a SWAP field is out of
its range; a SWAP BID or TAKE exactly where its head bus is out of range or its duty fields do not agree, a head
departure_wall above 2047 too, which is the model's reading (log entry 29), and a TAKE for an unlisted resource, in the
SWAP form too (log entry 15). A refused OFFER, BID, TAKE or RECORD changes nothing but the receiver (R192, R193). -/
def Obligations.FormatsAreReadBack : Prop :=
  (∀ (r : VisitRecord) (dayLength : Nat), r.inRange → r.duty.lawful dayLength = true →
     visitFields r.octets dayLength = some r ∧ r.octets.length = 12) ∧
  ((∀ (number supersedes dayLength : Nat) (r : VisitRecord), number ≤ 255 → supersedes ≤ 255 → r.inRange →
     r.duty.lawful dayLength = true → r.next ≠ .parked →
     offerFields (FrameBody.offer number supersedes (.visit r)).payload dayLength
       = some { number := number, supersedes := supersedes, cargo := .visit r }) ∧
   (∀ (number supersedes dayLength wall : Nat) (q : SwapRequest), number ≤ 255 → supersedes ≤ 255 → 1 ≤ q.run →
     q.run ≤ 4095 → q.cls ≤ 7 → q.wall = some wall → wall ≤ 1439 → q.departure < dayLength → q.departure ≤ 1499 →
     q.need ≤ 1499 →
     offerFields (FrameBody.offer number supersedes (.swap q)).payload dayLength
       = some { number := number, supersedes := supersedes, cargo := .swap q }) ∧
   (∀ (tag : Tag) (bus value dayLength : Nat), tag.holder ≤ 255 → tag.number ≤ 255 → bus ≤ 9999 → value ≤ 65535 →
     bidFields (FrameBody.bid tag bus value none).payload dayLength
       = some { tag := tag, bus := bus, value := value, head := none }) ∧
   (∀ (tag : Tag) (bus value dayLength : Nat) (p : PointId), tag.holder ≤ 255 → tag.number ≤ 255 → bus ≤ 9999 →
     value ≤ 65535 →
     takeFields (FrameBody.take tag bus value (.point p) none).payload dayLength
       = some { tag := tag, bus := bus, value := value, resource := .point p, head := none }) ∧
   (∀ (tag : Tag) (bus value dayLength n : Nat), tag.holder ≤ 255 → tag.number ≤ 255 → bus ≤ 9999 → value ≤ 65535 →
     n ≤ 5 →
     takeFields (FrameBody.take tag bus value (.lane n) none).payload dayLength
       = some { tag := tag, bus := bus, value := value, resource := .lane n, head := none }) ∧
   (∀ (tag : Tag) (value dayLength n : Nat) (h : HeadFields), tag.holder ≤ 255 → tag.number ≤ 255 →
     value ≤ 65535 → n ≤ 5 → 1 ≤ h.bus → h.bus ≤ 9999 →
     (1 ≤ h.run ∧ h.run ≤ 4095 ∧ (∃ wall, h.wall = some wall ∧ wall ≤ 1439) ∧ h.departure < dayLength ∧
         h.departure ≤ 1499) ∨ (h.run = 0 ∧ h.wall = none ∧ h.departure = 1499) →
     takeFields (FrameBody.take tag 0 value (.lane n) (some h)).payload dayLength
       = some { tag := tag, bus := 0, value := value, resource := .lane n, head := some h } ∧
     bidFields (FrameBody.bid tag 0 value (some h)).payload dayLength
       = some { tag := tag, bus := 0, value := value, head := some h })) ∧
  (∀ (bus cls fuel gate : Nat) (wash : WashRequest),
     let p := (FrameBody.arrive bus cls fuel wash gate).payload
     p.length = 7 ∧ pairAt p 0 = bus % 65536 ∧ octetAt p 2 = cls % 256 ∧ octetAt p 3 = fuel % 256 ∧
       octetAt p 4 = (match wash with | .none => 0 | .rinse => 1 | .full => 2) ∧ pairAt p 5 = gate % 65536) ∧
  (∀ (bus : Nat) (place : Resource),
     let p := (FrameBody.stray bus place).payload
     p.length = 3 ∧ pairAt p 0 = bus % 65536 ∧
       octetAt p 2 = (match place with | .lane n => n % 256 | .point .p0 => 8 | .point .p1 => 9)) ∧
  (∀ r : VisitRecord, (FrameBody.record r).payload = r.octets ∧ r.octets.length = 12) ∧
  (∀ (run bus lane departure : Nat) (substituted : Bool),
     let p := (FrameBody.call run bus lane departure substituted).payload
     p.length = 8 ∧ pairAt p 0 = run % 65536 ∧ pairAt p 2 = bus % 65536 ∧ octetAt p 4 = lane % 256 ∧
       pairAt p 5 = departure % 65536 ∧ octetAt p 7 = (if substituted then 1 else 0)) ∧
  (∀ (r : VisitRecord) (lane exitMinute : Nat) (late early unlisted : Bool),
     let p := (FrameBody.gone r lane exitMinute late early unlisted).payload
     p.length = 16 ∧ p.take 12 = r.octets ∧ octetAt p 12 = lane % 256 ∧ pairAt p 13 = exitMinute % 65536 ∧
       octetAt p 15 = (if late then 4 else 0) + (if early then 2 else 0) + (if unlisted then 1 else 0)) ∧
  (∀ (l : List Byte) (dayLength : Nat), l.length = 12 →
     let field := fun (off width : Nat) => numberOf l / 2 ^ (96 - off - width) % 2 ^ width
     (visitFields l dayLength = none ↔
       (field 0 14 = 0 ∨ 9999 < field 0 14 ∨ 1499 < field 26 11 ∨ 1499 < field 64 11 ∨
         (1440 ≤ field 53 11 ∧ field 53 11 ≤ 2046) ∨ field 24 2 = 3 ∨ field 39 2 = 3 ∨ 4 < field 78 3 ∨ 5 < field 81 3 ∨
         (field 39 2 ≠ 1 ∧ (field 41 12 ≠ 0 ∨ field 64 11 ≠ 1499 ∨ field 53 11 ≠ 2047)) ∨
         (field 39 2 = 1 ∧ (field 41 12 = 0 ∨ field 53 11 = 2047 ∨ dayLength ≤ field 64 11)))) ∧
     (∀ r, visitFields l dayLength = some r →
       r.bus = field 0 14 ∧ r.cls = field 14 3 ∧ r.fuelLevel = min 100 (field 17 7) ∧
       (match r.washRequest with | .none => 0 | .rinse => 1 | .full => 2) = field 24 2 ∧ r.gateMinute = field 26 11 ∧
       (match r.next with | .fuel => 0 | .wash => 1 | .berth => 2 | .parked => 3) = field 37 2 ∧
       (match r.duty.state with | .awaited => 0 | .bound => 1 | .spare => 2) = field 39 2 ∧ r.duty.run = field 41 12 ∧
       r.duty.wall = (if field 53 11 = 2047 then none else some (field 53 11)) ∧ r.duty.departure = field 64 11 ∧
       (r.duty.pinned = true ↔ field 75 1 = 1) ∧ (r.duty.substituted = true ↔ field 76 1 = 1) ∧
       (r.stray = true ↔ field 77 1 = 1) ∧
       (match r.fuelOutcome with
         | none => 0 | some .notWanted => 1 | some .done => 2 | some .part => 3 | some .skipped => 4) = field 78 3 ∧
       (match r.washOutcome with
         | none => 0 | some .notWanted => 1 | some .full => 2 | some .rinse => 3 | some .short => 4
         | some .skipped => 5) = field 81 3 ∧
       r.litres = min 999 (field 84 10))) ∧
  (∀ (p : List Byte) (dayLength : Nat),
     let badHead := fun (i : Nat) =>
       pairAt p i = 0 ∨ 9999 < pairAt p i ∨ 4095 < pairAt p (i + 2) ∨ (1440 ≤ pairAt p (i + 4) ∧ pairAt p (i + 4) ≠ 2047) ∨
       (pairAt p (i + 2) = 0 ∧ (pairAt p (i + 4) ≠ 2047 ∨ pairAt p (i + 6) ≠ 1499)) ∨
       (pairAt p (i + 2) ≠ 0 ∧ (pairAt p (i + 4) = 2047 ∨ dayLength ≤ pairAt p (i + 6)))
     (octetAt p 2 ≠ 3 → (offerFields p dayLength = none ↔
       (visitFields ((p.drop 3).take 12) dayLength = none ∨ ∃ r, visitFields ((p.drop 3).take 12) dayLength = some r ∧
         (match r.next with | .fuel => 0 | .wash => 1 | .berth => 2 | .parked => 3) ≠ octetAt p 2))) ∧
     (octetAt p 2 = 3 → (offerFields p dayLength = none ↔
       (pairAt p 3 = 0 ∨ 4095 < pairAt p 3 ∨ 7 < octetAt p 5 ∨ 1439 < pairAt p 6 ∨ dayLength ≤ pairAt p 8 ∨
         1499 < pairAt p 10))) ∧
     (bidFields p dayLength = none ↔ (p.length = 14 ∧ badHead 6)) ∧
     (takeFields p dayLength = none ↔
       (octetAt p 6 = 6 ∨ octetAt p 6 = 7 ∨ 9 < octetAt p 6 ∨ (p.length = 15 ∧ badHead 7)))) ∧
  (∀ (s : State) (f : RxFrame) (source : Nat),
     (s.accepts f .offer source → offerFields f.payload s.clock.dayLength = none → exec (.offer f) s = .next s.heard) ∧
     (s.accepts f .bid source → bidFields f.payload s.clock.dayLength = none → exec (.bid f) s = .next s.heard) ∧
     (s.accepts f .take source → takeFields f.payload s.clock.dayLength = none → exec (.take f) s = .next s.heard) ∧
     (s.accepts f .record source → visitFields f.payload s.clock.dayLength = none → exec (.record f) s = .next s.heard))

/-- A frame of the node goes on the line as start octet, kind octet, address, length, payload and CRC, high octet
first, and so sent it passes the checks of R177 at every node it is addressed to, with its kind and source (R176,
R177, section 11.2). -/
def Obligations.SentFramesPassTheChecks : Prop :=
  ∀ (f : TxFrame) (source own : Nat), source ≤ 14 → f.destination ≤ 15 → own ≤ 14 → source ≠ own →
    (f.destination = 15 ∨ f.destination = own) →
    (∀ r sum, f.body = .report r → r.body = .summary sum → sum.lanes.length ≤ 6) →
    let address := octet (source * 16 + f.destination)
    let crc := crc16 (crcOctets address f.body.payload)
    f.octets source = [0xC3#8, kindOctet f.body.kind.code, address, octet f.body.payload.length] ++ f.body.payload ++
      [octet (crc.toNat / 256), octet crc.toNat] ∧
    rxCheck { kindOctet := kindOctet f.body.kind.code, addressOctet := address, payload := f.body.payload, crc := crc } own
      = .accepted f.body.kind source

/-- The octets of a REPORT by the table of its subcodes, and the items of a SUMMARY at their places, the handover
octet and the detector octets included; a point of kind NONE gives three zero octets (sections 11.5, 11.6, R190). -/
def Obligations.ReportsAreSentByTheirTable : Prop :=
  (∀ (r : Report),
    let p := (FrameBody.report r).payload
    let is := fun (subcode length : Nat) => p.length = length ∧ octetAt p 0 = subcode ∧
      octetAt p 1 = r.sequence % 256 ∧ pairAt p 2 = r.minute % 65536
    match r.body with
    | .gateFull bus cls => is 0 7 ∧ pairAt p 4 = bus % 65536 ∧ octetAt p 6 = cls % 256
    | .noClock bus reader => is 1 7 ∧ pairAt p 4 = bus % 65536 ∧ octetAt p 6 = reader % 256
    | .stranded bus cls departure =>
      is 2 9 ∧ pairAt p 4 = bus % 65536 ∧ octetAt p 6 = cls % 256 ∧ pairAt p 7 = departure % 65536
    | .missing bus place tag =>
      is 3 9 ∧ pairAt p 4 = bus % 65536 ∧ octetAt p 6 = place.code % 256 ∧
        octetAt p 7 = (match tag with | some t => t.holder % 256 | none => 0) ∧
        octetAt p 8 = (match tag with | some t => t.number % 256 | none => 0)
    | .stray bus place flag =>
      is 4 8 ∧ pairAt p 4 = bus % 65536 ∧ octetAt p 6 = place.code % 256 ∧
        octetAt p 7 = (match flag with | .notAwaited => 0 | .awaited => 1 | .notListed => 2)
    | .overfull lane bus occupied length notListed =>
      is 5 11 ∧ octetAt p 4 = lane % 256 ∧ pairAt p 5 = bus % 65536 ∧ pairAt p 7 = occupied % 65536 ∧
        octetAt p 9 = length % 256 ∧ octetAt p 10 = (if notListed then 1 else 0)
    | .blocked bus run lane departure cause =>
      is 6 12 ∧ pairAt p 4 = bus % 65536 ∧ pairAt p 6 = run % 65536 ∧ octetAt p 8 = lane % 256 ∧
        pairAt p 9 = departure % 65536 ∧ octetAt p 11 = (match cause with | .pinned => 0 | .noSwap => 1)
    | .late bus run departure place called =>
      is 7 12 ∧ pairAt p 4 = bus % 65536 ∧ pairAt p 6 = run % 65536 ∧ pairAt p 8 = departure % 65536 ∧
        octetAt p 10 = (match place with | .at q => q.code % 256 | .outboundList => 12) ∧
        octetAt p 11 = (if called then 1 else 0)
    | .fuelFault bus q litres needed =>
      is 8 11 ∧ pairAt p 4 = bus % 65536 ∧ octetAt p 6 = (match q with | .p0 => 8 | .p1 => 9) ∧
        pairAt p 7 = litres % 65536 ∧ pairAt p 9 = needed % 65536
    | .washFault bus q type place cause =>
      is 9 10 ∧ pairAt p 4 = bus % 65536 ∧ octetAt p 6 = (match q with | .p0 => 8 | .p1 => 9) ∧
        octetAt p 7 = (match type with | .full => 0 | .rinse => 1) ∧ octetAt p 8 = place % 256 ∧
        octetAt p 9 = (match cause with | .timeout => 0 | .input => 1)
    | .timeAdjusted bus run wall minute =>
      is 10 12 ∧ pairAt p 4 = bus % 65536 ∧ pairAt p 6 = run % 65536 ∧ pairAt p 8 = wall % 65536 ∧
        pairAt p 10 = minute % 65536
    | .lineConflict kind destination cause =>
      is 11 7 ∧ octetAt p 4 = kind % 256 ∧ octetAt p 5 = destination % 256 ∧
        octetAt p 6 = (match cause with | .readback => 0 | .source => 1)
    | .summary x => is 12 (19 + 3 * x.lanes.length)) ∧
  (∀ (r : Report) (x : Summary), r.body = .summary x → x.lanes.length ≤ 6 → x.m < 65536 → x.change < 65536 →
    x.outbound ≤ 8 → x.bids ≤ 4 → x.pins.length = 13 →
    let p := (FrameBody.report r).payload
    let bit := fun (b : Bool) => if b then 1 else 0
    octetAt p 4 = (if x.inService then 3 else 2) * 64 + bit x.clockSet * 32 + x.lanes.length * 4 ∧
    pairAt p 5 = x.m ∧ octetAt p 7 = (match x.shift with | .none => 0 | .forward => 60 | .back => 196) ∧
    pairAt p 8 = x.change ∧
    (∀ n l, x.lanes[n]? = some l → l.entries ≤ 16 → l.occupied ≤ 511 → l.unconfirmed ≤ 15 →
      octetAt p (10 + 3 * n) = (match l.state with | .unknown => 0 | .opened => 1 | .closed => 2) * 64 +
        bit l.overfull * 32 + l.entries ∧
      pairAt p (11 + 3 * n) = l.occupied * 128 + l.unconfirmed * 8) ∧
    (∀ q : PointId,
      let k := 10 + 3 * x.lanes.length + (match q with | .p0 => 0 | .p1 => 3)
      let b := match q with | .p0 => x.point0 | .p1 => x.point1
      (b.kind = .none → octetAt p k = 0 ∧ octetAt p (k + 1) = 0 ∧ octetAt p (k + 2) = 0) ∧
      (b.kind ≠ .none → b.queue ≤ 8 → b.gauge ≤ 255 →
        octetAt p k = (match b.kind with | .none => 0 | .fuel => 1 | .wash => 2) * 64 +
          (match b.state with | .idle => 0 | .busy => 1 | .clearing => 2 | .fault => 3) * 16 +
          bit b.closed * 8 + bit b.mark * 4 ∧
        octetAt p (k + 1) = b.queue * 16 ∧ octetAt p (k + 2) = b.gauge)) ∧
    octetAt p (16 + 3 * x.lanes.length) = x.outbound * 16 + x.bids * 2 + bit x.conflict ∧
    (∀ i, i < 13 → pairAt p (17 + 3 * x.lanes.length) / 2 ^ (15 - i) % 2 = bit (x.pins[i]?.getD false)) ∧
    pairAt p (17 + 3 * x.lanes.length) % 8 = 0)

/-- The kind octet and its correction (R176): the check bits the sender sets, the rejection of an octet whose bit 7 is
0, and the bit each syndrome puts right. A frame whose kind octet was corrected is received exactly as one that came
with the right octet. -/
def Obligations.KindOctetIsCorrected : Prop :=
  (∀ code : Fin 16,
    let k : Nat → Bool := fun i => (BitVec.ofNat 4 code.val).getLsbD i
    let o := kindOctet code.val
    o.getLsbD 7 = true ∧ o.getLsbD 6 = k 3 ∧ o.getLsbD 5 = k 2 ∧ o.getLsbD 4 = k 1 ∧ o.getLsbD 3 = k 0 ∧
    o.getLsbD 0 = (k 0 ^^ k 1 ^^ k 3) ∧ o.getLsbD 1 = (k 0 ^^ k 2 ^^ k 3) ∧ o.getLsbD 2 = (k 1 ^^ k 2 ^^ k 3)) ∧
  (∀ o : Byte, o.getLsbD 7 = false → kindCode o = none ∧
    ∀ s : State, s.loader.resetHeld = false → exec (.rxOctetRejected (.kind o)) s = .next s.heard) ∧
  (∀ o : Byte, o.getLsbD 7 = true →
    let b := fun i => o.getLsbD i
    let s0 := b 0 ^^ b 3 ^^ b 4 ^^ b 6
    let s1 := b 1 ^^ b 3 ^^ b 5 ^^ b 6
    let s2 := b 2 ^^ b 4 ^^ b 5 ^^ b 6
    let wrong : Option Nat :=
      match s2, s1, s0 with
      | false, false, false => none
      | false, false, true => some 0
      | false, true, false => some 1
      | true, false, false => some 2
      | false, true, true => some 3
      | true, false, true => some 4
      | true, true, false => some 5
      | true, true, true => some 6
    let right := fun i => b i ^^ decide (wrong = some i)
    kindCode o = some ((right 6).toNat * 8 + (right 5).toNat * 4 + (right 4).toNat * 2 + (right 3).toNat)) ∧
  (∀ (code : Fin 16) (i : Fin 7), kindCode (kindOctet code.val ^^^ BitVec.ofNat 8 (2 ^ i.val)) = some code.val) ∧
  (∀ (f : RxFrame) (s : State) (handle : FrameKind → Nat → State → State), f.kindOctet.getLsbD 7 = true →
    (∀ k, rxKind f = some k ↔ kindCode f.kindOctet = some k.code) ∧
    s.receive { f with kindOctet := correctKind f.kindOctet } handle = s.receive f handle)

/-- A frame that does not reach an owner changes nothing but the state of the receiver: one the receiver is not
listening to changes nothing at all, and so does every frame while the reset pin is held; one the checks of R177
discard, or one of a kind that no owner acts on, leaves the node as the end of any frame does; one with the node's own
address as source also sets the conflict flag and places LINE_CONFLICT. The checks, in their order: a CRC that does not
match, a corrected kind of 14 or 15, a payload length that section 11.2 does not allow for the kind (for an OFFER, with
its stage), and source 15 discard the frame; the node's own source gives the conflict, with the kind and destination of
the frame, wherever it is addressed; any other frame is accepted where it is addressed to 15 or to the node, and else
discarded. That a command whose frame is of another kind,
or a CONTROL of another or an unlisted action, than the command's row leaves the node so too is the model's choice
(log entry 9). -/
def Obligations.FramesThatReachNoOwner : Prop :=
  (∀ (c : Instr) (f : RxFrame) (s : State), frameOf c = some f →
    (¬ s.listens → exec c s = .next s) ∧
    (s.listens → s.active = false → exec c s = .next s.heard) ∧
    (s.listens → s.active = true → rxCheck f s.loader.address = .discarded → exec c s = .next s.heard) ∧
    (∀ k source, s.accepts f k source → k = .arrive ∨ k = .call ∨ k = .gone ∨ k = .report →
      exec c s = .next s.heard) ∧
    (∀ k source, s.accepts f k source →
      (∀ kind action, rowOf c = some (kind, action) →
        k ≠ kind ∨ (action.isSome = true ∧ controlAction f.payload ≠ action)) →
      exec c s = .next s.heard) ∧
    (∀ code destination, s.listens → s.active = true → rxCheck f s.loader.address = .conflict code destination →
      s.loader.reports.length < Config.reportCapacity →
      ∃ t, exec c s = .next t ∧ t.line.conflict = true ∧
        t.loader.reports = s.loader.reports ++
          [{ sequence := s.loader.nextSequence, minute := if s.clock.isSet then s.clock.m else 0,
             body := .lineConflict code destination .source }] ∧
        t = { s with loader := t.loader, line := t.line })) ∧
  ∀ (f : RxFrame) (own : Nat),
    let source := f.addressOctet.toNat / 16
    let destination := f.addressOctet.toNat % 16
    let n := f.payload.length
    let stage := octetAt f.payload 2
    let allowed : Nat → Prop := fun code => match code with
      | 0 => n = 5
      | 1 => n = 7
      | 2 => n = 18 ∨ n = 20
      | 3 => n = 2
      | 4 => n = 0
      | 5 => n = 7
      | 6 => (n = 15 ∧ stage ≤ 2) ∨ (n = 12 ∧ stage = 3)
      | 7 => n = 6 ∨ n = 14
      | 8 => n = 7 ∨ n = 15
      | 9 => n = 3
      | 10 => n = 12
      | 11 => n = 8
      | 12 => n = 16
      | 13 => 7 ≤ n ∧ n ≤ 37
      | _ => False
    let matches' := crc16 (f.addressOctet :: octet n :: f.payload) = f.crc
    (¬ matches' → rxCheck f own = .discarded) ∧
    (∀ code, matches' → kindCode f.kindOctet = some code →
      (code = 14 ∨ code = 15 → rxCheck f own = .discarded) ∧ (¬ allowed code → rxCheck f own = .discarded) ∧
      (allowed code → source = 15 → rxCheck f own = .discarded) ∧
      (allowed code → source ≠ 15 → source = own → rxCheck f own = .conflict code destination) ∧
      (allowed code → source ≠ 15 → source ≠ own → destination ≠ 15 → destination ≠ own →
        rxCheck f own = .discarded) ∧
      (allowed code → source ≠ 15 → source ≠ own → destination = 15 ∨ destination = own →
        ∃ k : FrameKind, k.code = code ∧ rxCheck f own = .accepted k source))

/-! ## Start-up -/

/-- What power-on and the release of the reset pin leave (R1, R43, R73, R74, R84, R109, R129, R150, R168, R179, R181,
R191, R194), whatever the node was doing; the live levels follow the pins (R160). Asserting the reset pin holds the
node at these values, with nothing sent, no display transfer and every machine output off (R181). The counts behind
the join orders and the entry orders, the pin levels before the first change, the bus and the mark behind the end of
CLEARING, the codes the displays show before the first latch, the mark of a report that waits for a quiet, and the absence
of lanes are the model's own (log entry 6); so are the address and the image before the reading (log entry 1). -/
def Obligations.PowerOnAndResetPinGivePowerOnValues : Prop :=
  (∀ s : State, ∃ t, exec .powerOn s = .next t ∧ t.pending = s.pending ∧
     t.loader = { node := .configuring, resetHeld := false, address := 0, image := Image.supplied, reports := [],
                  nextSequence := 0, retryAtQuiet := false } ∧
     t.clock = { m := 0, shift := .none, change := 840, isSet := false, running := false } ∧
     t.hand = { outbound := [], joins := 0, offer := none, counter := 1, bids := [] } ∧ t.lanes = [] ∧
     t.lateRuns = [] ∧ t.timeline.begun = none ∧
     (∀ (p : PointId) (k : Nat), (t.table p).liveAt k = .opened ∧ (t.table p).stagedAt k = none) ∧
     (∀ p : PointId, (t.point p).state = .idle ∧ (t.point p).closed = false ∧ (t.point p).queue = [] ∧
       (t.point p).faultPending = false ∧ (t.point p).service = none ∧ (t.point p).dryMinutes = 0 ∧
       (t.point p).servicePulses = 0 ∧ (t.point p).delivered = 0 ∧ (t.point p).minutePulses = 0 ∧
       (t.point p).qualifies = false ∧ (t.point p).rate = (t.pointImage p).defaultRate ∧
       (t.point p).stencil = (t.pointImage p).stencil ∧ (t.point p).served = none ∧ (t.point p).left = false ∧
       (t.point p).enable = false ∧ (t.point p).pointer = 0 ∧ (t.point p).staged = none ∧ (t.point p).cycle = none ∧
       (t.point p).startOutput = .off) ∧
     t.line = { phase := .quiet, deferral := some 0, transmit := [], nextOrder := 0, receiver := .waiting,
                conflict := false, muted := none, sent := [] } ∧
     t.field.loopPartial = [] ∧ (∀ i : Fin 17, t.field.filter[i] = none) ∧ (∀ i : Fin 6, t.field.lamps[i] = .dark) ∧
     (∀ place, t.guide place = { code := .blank, bus := none }) ∧
     t.field.transfer = some { gate := .blank, point0 := .blank, point1 := .blank } ∧ t.field.again = false ∧
     t.field.shown = { gate := .blank, point0 := .blank, point1 := .blank } ∧
     (∀ pin : Pin, t.detector pin = { live := (s.detector pin).live, debounced := false, timer := false })) ∧
  (∀ s : State, ∃ t u, exec .resetAssert s = .next t ∧ exec .powerOn s = .next u ∧
     t = { u with loader := { u.loader with resetHeld := true }, field := { u.field with transfer := none } } ∧
     t.loader.resetHeld = true ∧ t.line.transmit = [] ∧ t.line.sent = [] ∧
     (∀ p : PointId, (t.point p).enable = false ∧ (t.point p).startOutput = .off))

/-- Outside WAITING TIME and IN SERVICE, and while the reset pin is held, no block takes a tag report, a debounced
change, a flow pulse, an offer window, a minute event or the end of a frame of the node; and while the reset pin is
held nothing on the yard line changes the node either. While the clock-set flag is clear, or the node is not IN
SERVICE, no minute event reaches any block (R2, R43, R153, R161, R163, R178, R181, R186). -/
def Obligations.InactiveNodeActsOnNothing : Prop :=
  (∀ s : State, s.active = false →
     (∀ c : Instr, isOwnerCommand c = true → exec c s = .next s) ∧
     (s.loader.resetHeld = true →
       exec .characterBegin s = .next s ∧ exec .lineQuiet s = .next s ∧ exec .lineJam s = .next s ∧
       exec .deferralRoundEnd s = .next s ∧ (∀ n, exec (.transmitStart n) s = .next s) ∧
       exec .rxFramingError s = .next s ∧ (∀ r, exec (.rxOctetRejected r) s = .next s) ∧
       (∀ strap octets, exec (.configReadEnd strap octets) s = .next s)) ∧
     (∀ n, ∃ t, exec (.transmitStart n) s = .next t ∧ t.line.transmit = s.line.transmit ∧ t.line.sent = s.line.sent)) ∧
  (∀ (c : Instr) (s : State), isMinuteCommand c = true → s.clock.isSet = false ∨ s.inService = false →
     exec c s = .next s)

/-- A configuration read whose straps give 1 to 14 and whose octets sum to 0 modulo 256 brings the node to WAITING
TIME with the clamped image and the address fixed, every configured lane UNKNOWN, every point IDLE and open with an
empty queue, and every debouncer at rest but those of present detectors that are active. Any other one brings it to
CONFIG FAULT: every lamp winks and one transfer of three codes is made; nothing else changes (R161, R183, R185, R186,
R194). -/
def Obligations.ConfigurationReadSetsTheNodeState : Prop :=
  (∀ (s : State) (strap : BitVec 4) (octets : List (Option Byte)),
     s.loader.resetHeld = false → s.loader.node = .configuring → 1 ≤ strap.toNat → strap.toNat ≤ 14 →
     (((List.range 128).map (fun i => ((octets[i]?.join).getD 0xFF#8).toNat)).sum) % 256 = 0 →
     ∃ t, exec (.configReadEnd strap octets) s = .next t ∧
       t.loader = { s.loader with node := .waitingTime, address := strap.toNat, image := imageOf (memoryOctets octets) } ∧
       t.lanes = List.replicate t.loader.image.laneCount { state := .unknown, entries := [], overfull := false } ∧
       (∀ p : PointId, (t.point p).state = .idle ∧ (t.point p).closed = false ∧ (t.point p).queue = [] ∧
         (t.point p).rate = (t.pointImage p).defaultRate ∧ (t.point p).stencil = (t.pointImage p).stencil ∧
         (t.point p).pointer = 0) ∧
       (∀ i : Fin 6, t.field.lamps[i] = .dark) ∧
       (∀ pin : Pin, t.detector pin = { live := (s.detector pin).live, debounced := false,
                                        timer := (s.detector pin).live && t.isPresent pin }) ∧
       t = { s with loader := t.loader, lanes := t.lanes, point0 := t.point0, point1 := t.point1
                    field := { s.field with lamps := t.field.lamps, detectors := t.field.detectors } }) ∧
  (∀ (s : State) (strap : BitVec 4) (octets : List (Option Byte)),
     s.loader.resetHeld = false → s.loader.node = .configuring →
     (strap.toNat = 0 ∨ strap.toNat = 15 ∨
       (((List.range 128).map (fun i => ((octets[i]?.join).getD 0xFF#8).toNat)).sum) % 256 ≠ 0) →
     ∃ t, exec (.configReadEnd strap octets) s = .next t ∧ t.loader.node = .configFault ∧
       (∀ i : Fin 6, t.field.lamps[i] = .wink) ∧
       (s.field.transfer = none → t.field.transfer = some s.field.codes) ∧
       (∀ codes, s.field.transfer = some codes → t.field.transfer = some codes ∧ t.field.again = true) ∧
       t = { s with
         loader := { s.loader with node := .configFault }
         field := { s.field with lamps := t.field.lamps, transfer := t.field.transfer, again := t.field.again } })

/-- Every value of the clamped image is the value its octets carry where that lies in the range of section 11.9, the
lowest of the range where it lies below and the highest where it lies above; the gate bit, the kind codes and the
stencil bits are taken as read, other kind codes as NONE (R184). -/
def Obligations.ImageIsClamped : Prop :=
  ∀ l : List Byte,
    let i := imageOf l
    let one := octetAt l
    let two := pairAt l
    (i.gateReader = true ↔ one 0 % 2 = 1) ∧ heldTo 50 100 (one 1) i.threshold ∧ heldTo 0 1499 (two 2) i.openCost ∧
    heldTo 0 60 (one 4) i.callLead ∧ heldTo 0 120 (one 5) i.margin ∧ heldTo 1 30 (one 6) i.dutyWait ∧
    heldTo 5 60 (one 7) i.expectedTimeout ∧ heldTo 1 30 (one 8) i.strandedRetry ∧ heldTo 2 50 (one 9) i.debounce ∧
    heldTo 0 6 (one 34) i.laneCount ∧
    (∀ c, c < 8 → heldTo 6 25 (one (10 + 3 * c)) (i.lengthOf c) ∧ heldTo 50 600 (two (11 + 3 * c)) (i.tankOf c)) ∧
    (∀ n, n < 6 → heldTo 20 250 (one (35 + n)) (i.laneLengthOf n)) ∧
    (∀ p : PointId,
      let q := match p with | .p0 => i.point0 | .p1 => i.point1
      let at' := match p with | .p0 => 41 | .p1 => 50
      (q.kind = .fuel ↔ one at' = 1) ∧ (q.kind = .wash ↔ one at' = 2) ∧
      heldTo 0 15 (one (at' + 1)) q.handling ∧ heldTo 10 250 (one (at' + 2)) q.defaultRate ∧
      heldTo 1 1000 (two (at' + 3)) q.pulsesPerLitre ∧ heldTo 4 30 (one (at' + 5)) q.fullCycle ∧
      heldTo 1 15 (one (at' + 6)) q.rinseCycle ∧
      (∀ k, k < 12 → (q.stencil[k]? = some true ↔ two (at' + 7) / 2 ^ (15 - k) % 2 = 1)))

/-- A RESTART from the office station to the node's own address is a soft restart; one from any other source or to any
other destination changes nothing but the receiver. A soft restart empties the bid list, the transmit queue and the
report queue and removes every TENTATIVE entry; a frame on the line completes outside the queue (what a mismatch makes
of it there is the model's choice, log entry 20); every take mark ends; every outbound item is ready at m with offer
count 0 and last number 0, but for the item of an offer started anew, whose OFFER is new and supersedes none. EXPECTED
entries and RECORD awaited marks stay with their deadlines, and so do the guidance codes, the node state, the clock,
the image, the service plan, the repeat filter, the detectors, the late set, the conflict flag and the stencils and
rates (R44, R151, R180, R182). -/
def Obligations.SoftRestartClearsHandover : Prop :=
  ∀ (s : State) (f : RxFrame) (source : Nat), s.accepts f .control source → controlAction f.payload = some .restart →
    (source ≠ 0 ∨ rxDestination f ≠ s.loader.address → exec (.restart f) s = .next s.heard) ∧
    (source = 0 → rxDestination f = s.loader.address →
      ∃ t, exec (.restart f) s = .next t ∧ t.steady = s.steady ∧ t.hand.bids = [] ∧
        (∀ e ∈ t.laneEntries, e.state ≠ .tentative) ∧ (∀ p, ∀ e ∈ (t.point p).queue, e.state ≠ .tentative) ∧
        (∀ e ∈ s.laneEntries, e.state ≠ .tentative → ∃ e' ∈ t.laneEntries, e'.visit.bus = e.visit.bus ∧ e'.tag = e.tag ∧
          e'.value = e.value ∧ e'.deadline = e.deadline ∧ e'.recordAwaited = e.recordAwaited ∧
          e'.unconfirmed = e.unconfirmed) ∧
        (∀ p, ((s.point p).queue.map (fun e => e.visit.bus)).Nodup →
          ∀ e ∈ (s.point p).queue, e.state = .expected ∨ (e.state ≠ .tentative ∧ (s.point p).state ≠ .fault) →
          ∃ e' ∈ (t.point p).queue, e'.visit.bus = e.visit.bus ∧ e'.state = e.state ∧ e'.tag = e.tag ∧
            e'.value = e.value ∧ e'.deadline = e.deadline ∧ e'.recordAwaited = e.recordAwaited) ∧
        (∀ e ∈ t.laneEntries, e.mark = none) ∧
        (∀ i ∈ t.hand.outbound, i.ready = s.clock.m ∧ i.lastNumber = 0 ∧
          (i.offerCount = 0 ∨ (i.offerCount = 1 ∧ ∃ o, t.hand.offer = some o ∧ o.key = i.key))) ∧
        (∀ o, t.hand.offer = some o → o.phase = .queued ∧ o.takes = [] ∧
          ∃ x ∈ t.line.transmit, s.line.nextOrder ≤ x.order ∧ ∃ cargo, x.body = .offer o.number 0 cargo) ∧
        (∀ x ∈ t.line.transmit, x.sending = false ∧ s.line.nextOrder ≤ x.order) ∧
        (∀ x, s.line.transmit.find? (fun y => y.sending) = some x → t.line.muted = some x) ∧
        (∀ r ∈ t.loader.reports, ∃ bus run wall minute, r.body = .timeAdjusted bus run wall minute) ∧
        ((∀ e ∈ s.laneEntries, e.mark = none) →
          t.loader.reports = [] ∧ t.loader.nextSequence = s.loader.nextSequence) ∧
        t.field.codes = s.field.codes ∧
        t.timeline = s.timeline ∧ t.lateRuns = s.lateRuns ∧ t.field.filter = s.field.filter ∧
        t.field.detectors = s.field.detectors ∧ t.line.conflict = s.line.conflict ∧
        (∀ p, (t.point p).rate = (s.point p).rate ∧ (t.point p).stencil = (s.point p).stencil ∧
          (t.point p).pointer = (s.point p).pointer ∧ (t.point p).staged = (s.point p).staged ∧
          ((s.point p).state = .fault → (s.point p).faultPending = false → (t.point p).state ≠ .fault)))

/-! ## The clock -/

/-- A minute event below the end of the day raises the yard minute by one and leaves the rest of the clock; where it
reaches a multiple of 30, the staged plans become live and the slot begins. The minute event at the end of the day is
the rollover: the new day begins at minute 0 with shift 0, the change minute and the clock-set flag kept; every record
and copy is unbound, the late set empty, every ask state NONE and every take mark gone before the new day's first
events. Before that, LATE is reported once for every run of a CALLED entry that is not in the late set, and
nothing else is reported; every deadline,
ready minute and start minute is carried into the new day, less the old day length and held at 0 (R1, R2, R3, R8, R9,
R14, R78, R139, R152). -/
def Obligations.MinuteEventMovesTheClock : Prop :=
  (∀ (s : State) (order : List Owner), s.minuteLive = true → s.clock.m + 1 < s.clock.dayLength →
     ∃ t, exec (.minuteEvent order) s = .next t ∧ t.clock = { s.clock with m := s.clock.m + 1 } ∧
       t.loader.node = s.loader.node ∧ t.loader.image = s.loader.image ∧ t.lanes.length = s.lanes.length ∧
       ((s.clock.m + 1) % 30 ≠ 0 → t.timeline = s.timeline) ∧
       ((s.clock.m + 1) % 30 = 0 → t.timeline.begun = some ((s.clock.m + 1) / 30) ∧
         ∀ (p : PointId) (k : Nat), (t.table p).stagedAt k = none ∧
           (t.table p).liveAt k = ((s.table p).stagedAt k).getD ((s.table p).liveAt k))) ∧
  (∀ (s : State) (order : List Owner), s.minuteLive = true → s.clock.dayLength ≤ s.clock.m + 1 →
     exec (.minuteEvent order) s = .next (s.rollover.raiseMinute order (some 0) true) ∧
     (s.rollover.raiseMinute order (some 0) true).clock = { s.clock with m := 0, shift := .none } ∧
     s.rollover.lateRuns = [] ∧
     (∀ r ∈ s.rollover.visits, r.duty = { state := .spare, run := 0, wall := none, departure := 1499, pinned := false,
                                          substituted := false }) ∧
     (∀ e ∈ s.rollover.laneEntries, e.ask = .none ∧ e.mark = none) ∧
     (∀ p, (s.rollover.point p).state = (s.point p).state ∧ (s.rollover.point p).stencil = (s.point p).stencil ∧
       (s.rollover.point p).rate = (s.point p).rate)) ∧
  (∀ s : State, s.inService = true → s.clock.m < 1500 →
     let old := s.clock.dayLength
     s.rollover.lanes.map (fun l => l.entries.map (fun e => (e.visit.bus, e.state, e.deadline, e.recordAwaited)))
       = s.lanes.map (fun l => l.entries.map (fun e => (e.visit.bus, e.state, e.deadline.map (fun d => d - old),
           e.recordAwaited.map (fun d => d - old)))) ∧
     (∀ p, (s.rollover.point p).queue.map (fun e => (e.visit.bus, e.state, e.deadline, e.recordAwaited))
         = (s.point p).queue.map (fun e => (e.visit.bus, e.state, e.deadline.map (fun d => d - old),
             e.recordAwaited.map (fun d => d - old))) ∧
       (s.rollover.point p).service = (s.point p).service.map (fun v =>
         { v with start := v.start - old, deadline := v.deadline - old }) ∧
       (s.rollover.point p).cycle = (s.point p).cycle.map (fun c =>
         { c with start := c.start - old, deadline := c.deadline - old })) ∧
     (∀ i ∈ s.rollover.hand.outbound, ∃ j ∈ s.hand.outbound, i.key = j.key ∧ i.ready = j.ready - old ∧
       i.joinOrder = j.joinOrder ∧ i.place = j.place) ∧
     (∀ i r, i ∈ s.hand.outbound → i.cargo = .visit r → ∃ j ∈ s.rollover.hand.outbound, j.key = i.key ∧
       j.ready = i.ready - old) ∧
     (let runs := (s.laneEntries.filter (fun e => decide (e.state = .called) && decide (e.visit.duty.run ≠ 0) &&
         !s.lateRuns.contains e.visit.duty.run)).map (fun e => e.visit.duty.run)
      s.rollover.loader.nextSequence % 256 = (s.loader.nextSequence + runs.dedup.length) % 256 ∧
      (s.loader.reports.length + runs.dedup.length ≤ Config.reportCapacity →
        ∃ late, s.rollover.loader.reports = s.loader.reports ++ late ∧ late.length = runs.dedup.length ∧
          (∀ r ∈ late, r.minute = (if s.clock.isSet then s.clock.m else 0) ∧
            ∃ n l e, s.lanes[n]? = some l ∧ e ∈ l.entries ∧ e.state = .called ∧ e.visit.duty.run ∈ runs ∧
              r.body = .late e.visit.bus e.visit.duty.run e.visit.duty.departure (.at (.lane n)) true) ∧
          (∀ run ∈ runs, ∃ r ∈ late, ∃ bus departure n, r.body = .late bus run departure (.at (.lane n)) true))))

/-- A minute event is taken once by each of the six owners, in an order that begins with the one the command carries,
each acting on the node as the owners before it have left it; the order is open (R187; log entry 3). MINUTE_EVENT
raises it for the minute after the present one, with the slot-boundary event where that is a multiple of 30, and a
TIME as R6 gives. At its turn the Service Timeline applies the staged plans and tests the held starts of a
slot-boundary event, the Handover Controller tests the duty waits and then its outbound list, a point does what is its
own, the Lane Controller its deadlines, and the Pull-Out Controller its calls and then the late runs; the order of
these tests within one block is the model's choice (log entry 3), but that the calls come before the late test is
R139's. That the minute event of a TIME completes no minute interval, so that its dry minutes stay as they are, is the
model's choice too (log entry 12). A due head that no hold keeps is called at that turn (R2, R3, R16, R23, R56, R78,
R131, R139). -/
def Obligations.MinuteEventReachesTheBlocks : Prop :=
  (∀ order : List Owner, (ownerOrder order).Nodup ∧ (∀ o, o ∈ ownerOrder order) ∧
     (order.Nodup → order <+: ownerOrder order)) ∧
  (∀ (s : State) (order : List Owner), s.minuteLive = true → s.clock.m + 1 < s.clock.dayLength →
     let m := s.clock.m + 1
     let boundary := if m % 30 = 0 then some (m / 30) else none
     let begun : State := { s with clock := { s.clock with m := m } }
     exec (.minuteEvent order) s
       = .next ((ownerOrder order).foldl (fun u o => u.ownerMinute boundary true o) begun) ∧
     ∀ o, ∃ before after, ownerOrder order = before ++ o :: after ∧ o ∉ before ∧ o ∉ after ∧
       let u := before.foldl (fun u x => u.ownerMinute boundary true x) begun
       u.clock = begun.clock ∧ u.loader.node = s.loader.node ∧ u.loader.image = s.loader.image ∧
       exec (.minuteEvent order) s
         = .next (after.foldl (fun u x => u.ownerMinute boundary true x) (u.ownerMinute boundary true o)) ∧
       (o = .pullOut → ∀ n l e rest, u.lanes[n]? = some l → l.state ≠ .unknown → l.entries = e :: rest →
         e.state = .parked → e.visit.duty.state = .bound → e.visit.duty.departure ≤ m + s.image.callLead →
         u.headWaits n = false →
         ∃ e', (((u.ownerMinute boundary true .pullOut).lanes[n]?).bind (fun l' => l'.entries.head?)) = some e' ∧
           e'.visit = e.visit ∧ e'.state = .called)) ∧
  (∀ (s : State) (boundary : Option Nat) (completes : Bool),
     (∀ k, s.ownerMinute (some k) completes .timeline = ((s.applyPlans k).startTest .p0).startTest .p1) ∧
     s.ownerMinute none completes .timeline = s ∧
     s.ownerMinute boundary completes .handover = (s.expireDutyWait (fun _ => true)).offerTest ∧
     (∀ p, (s.pointImage p).kind = .none → s.ownerMinute boundary completes (.point p) = s) ∧
     (∀ p, (s.pointImage p).kind = .fuel → s.ownerMinute boundary completes (.point p)
       = (((((if completes then (s.measureFlow p).flowFault p else s).nozzleTimeout p).expireQueue p
           (fun _ => true)).expireRecords p (fun _ => true)).retryJoins p).beginInterval p) ∧
     (∀ p, (s.pointImage p).kind = .wash → s.ownerMinute boundary completes (.point p)
       = (((s.doneTimeout p).expireQueue p (fun _ => true)).expireRecords p (fun _ => true)).retryJoins p) ∧
     s.ownerMinute boundary completes .lanes
       = State.settle s ((s.expireLanes (fun _ => true)).expireLaneRecords (fun _ => true)) ∧
     s.ownerMinute boundary completes .pullOut = s.callTimes.lateTest (fun _ => true))

/-- A TIME from the office station with one of the three shifts sets the clock, clamped, and brings the node into
service; any other TIME changes nothing but the receiver's state (R5, R6). -/
def Obligations.TimeSetsTheClock : Prop :=
  ∀ (s : State) (f : RxFrame) (order : List Owner) (source : Nat), s.accepts f .time source →
    (source ≠ 0 ∨ (octetAt f.payload 2 ≠ 0 ∧ octetAt f.payload 2 ≠ 60 ∧ octetAt f.payload 2 ≠ 196) →
      exec (.time f order) s = .next s.heard) ∧
    (∀ shift : Shift, source = 0 →
      octetAt f.payload 2 = (match shift with | .none => 0 | .forward => 60 | .back => 196) →
      ∃ t, exec (.time f order) s = .next t ∧
        t.clock = { m := min (pairAt f.payload 0) (shift.dayLength - 1), shift := shift,
                    change := max 60 (min 1379 (pairAt f.payload 3)), isSet := true, running := true } ∧
        t.loader.node = .inService ∧ t.loader.address = s.loader.address ∧ t.loader.image = s.loader.image ∧
        t.loader.resetHeld = false ∧ t.lanes.length = s.lanes.length ∧
        (s.clock = t.clock →
          t = { s.heard with
            loader := { s.loader with node := .inService }
            point0 := { s.point0 with minutePulses := 0, qualifies := t.point0.qualifies }
            point1 := { s.point1 with minutePulses := 0, qualifies := t.point1.qualifies } }))

/-- The conversion of a wall minute by its table, with the range of its result (R10). A TIME that changes S or C
reconverts the departure of every BOUND record and copy from its departure_wall, in every place R36 lists, and changes
no other; each departure that falls in the missing hour is reported once for its bus, run and wall minute (log entry
10). The accepted TIME then begins the minute interval anew and raises a minute event where the clock was unset or m,
S or C differ from before, with a slot-boundary event where the clock was unset or the slot index differs (R6, R7). That
the minute event of a TIME completes no minute interval, so that a fuel point measures nothing and keeps its dry minutes,
is the model's choice (log entry 12). -/
def Obligations.DeparturesAreReconverted : Prop :=
  (∀ change w : Nat, 60 ≤ change → change ≤ 1379 → w ≤ 1439 →
     convertWall .none change w = w ∧
     (w < change → convertWall .forward change w = w) ∧
     (change ≤ w → w < change + 60 → convertWall .forward change w = change) ∧
     (change + 60 ≤ w → convertWall .forward change w = w - 60) ∧
     (w < change - 60 → convertWall .back change w = w) ∧
     (change - 60 ≤ w → convertWall .back change w = w + 60) ∧
     (∀ shift : Shift, convertWall shift change w < shift.dayLength) ∧
     (∀ shift : Shift, inMissingHour shift change w = true ↔ shift = .forward ∧ change ≤ w ∧ w < change + 60)) ∧
  (∀ s : State, s.active = true →
    let given := fun (r : VisitRecord) (w : Nat) => convertWall s.clock.shift s.clock.change w
    let u := s.reconvertAll
    u.visits = s.visits.map (fun r => match r.duty.state, r.duty.wall with
      | .bound, some w => { r with duty := { r.duty with departure := given r w } }
      | _, _ => r) ∧
    u.steady = s.steady ∧ u.still = s.still ∧ u.hand.offer = s.hand.offer ∧
    u.hand.outbound.map (fun i => (i.ready, i.joinOrder, i.offerCount, i.lastNumber, i.place))
      = s.hand.outbound.map (fun i => (i.ready, i.joinOrder, i.offerCount, i.lastNumber, i.place)) ∧
    (let falls := fun (bus run w : Nat) => ∃ r ∈ s.visits, r.bus = bus ∧ r.duty.run = run ∧ r.duty.state = .bound ∧
       r.duty.wall = some w ∧ s.clock.shift = .forward ∧ s.clock.change ≤ w ∧ w < s.clock.change + 60
     s.loader.reports.length + s.visits.length ≤ Config.reportCapacity →
     ∃ new, u.loader.reports = s.loader.reports ++ new ∧ (new.map (fun r => r.body)).Nodup ∧
       ∀ b, b ∈ new.map (fun r => r.body) ↔ ∃ bus run w, falls bus run w ∧ b = .timeAdjusted bus run w s.clock.change)) ∧
  (∀ (s : State) (f : RxFrame) (order : List Owner) (shift : Shift), s.accepts f .time 0 →
    octetAt f.payload 2 = (match shift with | .none => 0 | .forward => 60 | .back => 196) →
    let clock : Clock := { m := min (pairAt f.payload 0) (shift.dayLength - 1), shift := shift,
                           change := max 60 (min 1379 (pairAt f.payload 3)), isSet := true, running := true }
    let set : State := { s.heard with clock := clock, loader := { s.loader with node := .inService } }
    let same := s.clock.shift = clock.shift ∧ s.clock.change = clock.change
    let slot := if s.clock.isSet = false ∨ s.clock.m / 30 ≠ clock.m / 30 then some (clock.m / 30) else none
    let begun := fun (u : State) => (u.beginInterval .p0).beginInterval .p1
    let raised := fun (u : State) => (ownerOrder order).foldl (fun x o => x.ownerMinute slot false o) (begun u)
    (same → s.clock.isSet = true → s.clock.m = clock.m → exec (.time f order) s = .next (begun set)) ∧
    (same → s.clock.isSet = false ∨ s.clock.m ≠ clock.m → exec (.time f order) s = .next (raised set)) ∧
    (¬ same → exec (.time f order) s = .next (raised set.reconvertAll)))

/-! ## The service timeline -/

/-- The timeline's two answers (R79): the state of a slot, and the first start at or after a minute. A slot that has
not begun is answered alike before and after a boundary. -/
def Obligations.TimelineAnswers : Prop :=
  ∀ (s : State) (p : PointId),
    (∀ k, s.timeline.begun = some k → s.slotState p k = (s.table p).liveAt k) ∧
    (∀ k, s.timeline.begun ≠ some k → ∀ st, (s.table p).stagedAt k = some st → s.slotState p k = st) ∧
    (∀ k, s.timeline.begun ≠ some k → (s.table p).stagedAt k = none → s.slotState p k = (s.table p).liveAt k) ∧
    (∀ x, s.clock.dayLength ≤ x → s.firstStart p x = none) ∧
    (∀ x, x < s.clock.dayLength → s.slotState p (x / 30) ≠ .shut → s.firstStart p x = some x) ∧
    (∀ x y, x < s.clock.dayLength → s.slotState p (x / 30) = .shut →
      (s.firstStart p x = some y ↔
        ∃ k, x / 30 < k ∧ y = 30 * k ∧ 30 * k < s.clock.dayLength ∧ s.slotState p k ≠ .shut ∧
          ∀ j, x / 30 < j → j < k → s.slotState p j = .shut)) ∧
    (∀ k j, s.timeline.begun ≠ some j → (s.applyPlans k).slotState p j = s.slotState p j)

/-- An accepted PLAN changes the staged plan of its point, slot by slot, and the staged stencil of a washing lane, and
nothing else; a PLAN that fails a check changes nothing (R75, R76, R77). -/
def Obligations.PlanIsStaged : Prop :=
  ∀ (s : State) (f : RxFrame) (source : Nat) (g : PlanFields), s.accepts f .plan source →
    planFields f.payload = some g →
    (source ≠ 0 ∨ 2 ≤ g.point ∨ 50 ≤ g.first → exec (.plan f) s = .next s.heard) ∧
    (∀ p : PointId, g.point = (match p with | .p0 => 0 | .p1 => 1) → (s.pointImage p).kind = .none → exec (.plan f) s = .next s.heard) ∧
    (∀ p : PointId, source = 0 → g.point = (match p with | .p0 => 0 | .p1 => 1) → (s.pointImage p).kind ≠ .none → g.first ≤ 49 →
      ∃ t, exec (.plan f) s = .next t ∧
        (∀ k, k < 50 → g.first ≤ k → k < g.first + g.count →
          let new : SlotState :=
            if fieldAt 56 k 1 g.openMask = 1 then (if fieldAt 56 k 1 g.reducedMask = 1 then .reduced else .opened) else .shut
          (t.table p).stagedAt k = some (if g.merge then new.stricter (((s.table p).stagedAt k).getD ((s.table p).liveAt k))
            else new)) ∧
        (∀ k, k < g.first ∨ g.first + g.count ≤ k → (t.table p).stagedAt k = (s.table p).stagedAt k) ∧
        (t.table p).live = (s.table p).live ∧ t.table p.other = s.table p.other ∧ t.timeline.begun = s.timeline.begun ∧
        (t.point p).staged
          = (if (s.pointImage p).kind = .wash then (match g.stencil with | some st => some st | none => (s.point p).staged)
             else (s.point p).staged) ∧
        t = State.setPoint p { s.point p with staged := (t.point p).staged } { s.heard with timeline := t.timeline })

/-! ## Duties -/

/-- A DUTY with a run, neither discarded nor ignored, binds every record and copy of its bus and unbinds every other
carrier of the run, wherever the node holds them; one with run 0 unbinds every record and copy of its bus. No other duty
changes (R13, R14, R36). Where the node holds a record or copy of the bus bound and the wall minute falls in the missing
hour of a forward shift, one TIME_ADJUSTED is placed (R10), and no other report is; that it is one, and none for a bus
the node does not hold, is the model's choice (log entry 10). One that pins its bus leaves no entry of the bus ASKING,
no swap request for the run, no SWAP bid that names the bus and no take mark on it (R15, R37, R130, R145, R146), also
where its run and departure are as before or the flag was set already, which is the model's choice (log entries 47 and
57). It is discarded from any source but the office station, for a bus outside 1–9999, a run above 4095, or, with a run,
a wall minute above 1439; one for a CALLED bus or a CALLED run is ignored whole (R12). -/
def Obligations.DutyBindsUnbindsOrIsIgnored : Prop :=
  ((∀ (s : State) (f : RxFrame) (d : DutyFields), s.accepts f .duty 0 → dutyFields f.payload = some d → d.run ≠ 0 →
      (∀ e ∈ s.laneEntries, e.state = .called → e.visit.bus ≠ d.bus ∧ e.visit.duty.run ≠ d.run) →
      ∃ t, exec (.duty f) s = .next t ∧ t.steady = s.steady ∧ t.still = s.heard.still ∧
        (∀ r ∈ t.visits, r.bus = d.bus →
          r.duty = { state := .bound, run := d.run, wall := some d.wall,
                     departure := convertWall s.clock.shift s.clock.change d.wall, pinned := d.pinned,
                     substituted := false }) ∧
        (∀ r ∈ t.visits, r.bus ≠ d.bus → r.duty.run ≠ d.run) ∧
        (∀ r ∈ t.visits, ∃ r' ∈ s.visits, r = { r' with duty := r.duty } ∧
          (r.bus ≠ d.bus → r'.duty.run ≠ d.run → r = r')) ∧
        ((∃ r ∈ s.visits, r.bus = d.bus) → s.adjustedBy t d.bus d.run d.wall) ∧
        ((∀ r ∈ s.visits, r.bus ≠ d.bus) → t.loader.reports = s.loader.reports) ∧
        (d.pinned = true →
          (∀ e ∈ t.laneEntries, e.visit.bus = d.bus → e.isFront = true → e.ask ≠ .asking ∧ e.mark = none) ∧
          (∀ i ∈ t.hand.outbound, i.key ≠ .swapRun d.run) ∧
          (∀ b ∈ t.hand.bids, ∀ h, b.head = some h → h.bus ≠ d.bus))) ∧
   (∀ (s : State) (f : RxFrame) (d : DutyFields), s.accepts f .duty 0 → dutyFields f.payload = some d → d.run = 0 →
      (∀ e ∈ s.laneEntries, e.state = .called → e.visit.bus ≠ d.bus) →
      ∃ t, exec (.duty f) s = .next t ∧ t.steady = s.steady ∧ t.still = s.heard.still ∧
        t.loader.reports = s.loader.reports ∧
        (∀ r ∈ t.visits, r.bus = d.bus →
          r.duty = { state := .spare, run := 0, wall := none, departure := 1499, pinned := false, substituted := false }) ∧
        (∀ r ∈ t.visits, ∃ r' ∈ s.visits, r = { r' with duty := r.duty } ∧ (r.bus ≠ d.bus → r = r')))) ∧
  (∀ (s : State) (f : RxFrame) (source : Nat), s.accepts f .duty source →
     (source ≠ 0 ∨ pairAt f.payload 0 = 0 ∨ 9999 < pairAt f.payload 0 ∨ 4095 < pairAt f.payload 2 ∨
         (pairAt f.payload 2 ≠ 0 ∧ 1439 < pairAt f.payload 4) ∨
         (∃ e ∈ s.laneEntries, e.state = .called ∧ e.visit.bus = pairAt f.payload 0) ∨
         (pairAt f.payload 2 ≠ 0 ∧ ∃ e ∈ s.laneEntries, e.state = .called ∧ e.visit.duty.run = pairAt f.payload 2)) →
     exec (.duty f) s = .next s.heard)

/-! ## What falls due at a minute event, by the separate rows of the table (log entry 2) -/

/-- Every record and copy of the bus that is AWAITED, with its duty wait over, becomes SPARE, wherever the node holds
it; no other record or copy changes. That this reaches the record of an OFFER or RECORD frame that waits to be sent is
the model's reading, not the manual's words (log entry 42), and that pinned and substituted end with the duty is its
choice (log entry 51). Every EXPECTED entry of the bus whose deadline is reached is removed, in lanes and queues, and
where the report queue has room for them each is reported MISSING once, with its bus, its lane or point and its offer
tag, in either order; where none is due, nothing changes. Every RECORD awaited mark of the bus whose deadline is
reached is cleared, and the entry keeps its fields (R16, R42, R56, R92, R118). -/
def Obligations.DeadlinesAreTakenAtTheMinute : Prop :=
  (∀ (s : State) (bus : Nat), s.minuteLive = true →
     ∃ t, exec (.dutyWaitExpiry bus) s = .next t ∧
       t.visits = s.visits.map (fun r =>
         if r.duty.state = .awaited ∧ r.gateMinute + s.image.dutyWait ≤ s.clock.m ∧ r.bus = bus then
           { r with duty := { state := .spare, run := 0, wall := none, departure := 1499, pinned := false,
                              substituted := false } }
         else r) ∧
       t.hand.offer = s.hand.offer ∧ t.hand.counter = s.hand.counter ∧ t.hand.joins = s.hand.joins ∧
       t.line.transmit.length = s.line.transmit.length ∧ t.still = s.still ∧
       t = { s with hand := t.hand, lanes := t.lanes, point0 := t.point0, point1 := t.point1
                    field := { s.field with lamps := t.field.lamps }, line := t.line }) ∧
  (∀ (s : State) (bus : Nat), s.minuteLive = true →
     let dueLane : LaneEntry → Prop := fun e =>
       e.visit.bus = bus ∧ e.state = .expected ∧ ∃ d, e.deadline = some d ∧ d ≤ s.clock.m
     let dueQueue : QueueEntry → Prop := fun e =>
       e.visit.bus = bus ∧ e.state = .expected ∧ ∃ d, e.deadline = some d ∧ d ≤ s.clock.m
     ∃ t, exec (.expectedTimeout bus) s = .next t ∧ t.steady = s.steady ∧ t.still = s.still ∧
       (∀ e ∈ t.laneEntries, ¬ dueLane e) ∧ (∀ p, ∀ e ∈ (t.point p).queue, ¬ dueQueue e) ∧
       (∀ e ∈ s.laneEntries, ¬ dueLane e → ∃ e' ∈ t.laneEntries, e'.visit = e.visit) ∧
       (∀ p, ∀ e ∈ (s.point p).queue, ¬ dueQueue e → e ∈ (t.point p).queue) ∧
       ((∀ e ∈ s.laneEntries, ¬ dueLane e) → (∀ p, ∀ e ∈ (s.point p).queue, ¬ dueQueue e) → t = s) ∧
       (let due := fun (b : Nat) (waits : Bool) (deadline : Option Nat) =>
          decide (b = bus) && waits && deadline.any (fun d => decide (d ≤ s.clock.m))
        let missing : List ReportBody :=
          (List.range s.lanes.length).flatMap (fun n => ((((s.lanes[n]?).map (fun l => l.entries)).getD []).filter
            (fun e => due e.visit.bus (decide (e.state = .expected)) e.deadline)).map
              (fun e => .missing bus (.lane n) e.tag)) ++
          (s.point0.queue.filter (fun e => due e.visit.bus (decide (e.state = .expected)) e.deadline)).map
            (fun e => .missing bus (.point .p0) e.tag) ++
          (s.point1.queue.filter (fun e => due e.visit.bus (decide (e.state = .expected)) e.deadline)).map
            (fun e => .missing bus (.point .p1) e.tag)
        s.loader.reports.length + missing.length ≤ Config.reportCapacity →
        ∃ new, t.loader.reports = s.loader.reports ++ new ∧ (new.map (fun r => r.body)).Perm missing ∧
          ∀ r ∈ new, r.minute = s.clock.m)) ∧
  (∀ (s : State) (bus : Nat), s.minuteLive = true →
     ∃ t, exec (.recordDeadline bus) s = .next t ∧
       t.laneEntries = s.laneEntries.map (fun e =>
         if e.recordAwaited.any (fun d => decide (d ≤ s.clock.m)) = true ∧ e.visit.bus = bus then
           { e with recordAwaited := none }
         else e) ∧
       (∀ p, (t.point p).queue = (s.point p).queue.map (fun e =>
         if e.recordAwaited.any (fun d => decide (d ≤ s.clock.m)) = true ∧ e.visit.bus = bus then
           { e with recordAwaited := none }
         else e)) ∧
       t = { s with
         lanes := t.lanes
         point0 := { s.point0 with queue := t.point0.queue }
         point1 := { s.point1 with queue := t.point1.queue }
         field := { s.field with lamps := t.field.lamps } })

/-- An offer starts for the head item of the outbound list, where the node is IN SERVICE, has no open offer, the head
is ready and the OFFER joins the transmit queue: it takes the next number, the item's offer count becomes 1, and the
OFFER goes to every station with the item's last number as the one it supersedes. Where the node is not IN SERVICE,
has an open offer, or has no ready head, nothing changes, a re-offer still owed aside; a ready head whose OFFER the
transmit queue would discard at its placement spends the number, and what becomes of both is the model's choice (log
entry 8), of which nothing is said here (R23, R24). -/
def Obligations.OfferStartsForAReadyHead : Prop :=
  ∀ s : State,
    (∀ it rest, s.inService = true → s.hand.offer = none → s.hand.outbound = it :: rest → it.ready ≤ s.clock.m →
      s.canPlace .normal = true →
      ∃ t, exec .offerStart s = .next t ∧
        t.hand.offer = some { number := s.hand.counter, phase := .queued, key := it.key, countBefore := it.offerCount,
                              reNumber := 0, takes := [] } ∧
        t.hand.counter = (if 255 ≤ s.hand.counter then 1 else s.hand.counter + 1) ∧
        (∃ i ∈ t.hand.outbound, i = { it with offerCount := 1 }) ∧
        t.hand.outbound.length = s.hand.outbound.length ∧ t.hand.bids = s.hand.bids ∧ t.hand.joins = s.hand.joins ∧
        (∃ x ∈ t.line.transmit, x.body = .offer s.hand.counter it.lastNumber it.cargo ∧ x.destination = 15 ∧
          x.cls = .normal ∧ x.sending = false) ∧
        t.still = s.still ∧
        t = { s with hand := t.hand, line := t.line, loader := { s.loader with retryAtQuiet := t.loader.retryAtQuiet } }) ∧
    (s.owesReoffer = false →
      (s.inService = false ∨ s.hand.offer.isSome = true ∨ s.hand.outbound = [] ∨
        (∃ it rest, s.hand.outbound = it :: rest ∧ s.clock.m < it.ready)) →
      exec .offerStart s = .next s)

/-- Every FINISHED entry of a point that asks joins the outbound list, ready at m, with the point as its place, and
leaves the queue, where the list has room for all that ask; one that a washing lane in FAULT has passed on, as a mark of
the model tells, stays while it awaits its RECORD (log entry 16), and no other one waits for it; where the list is full
nothing changes at a point that is not clearing (R102, R119, R122). -/
def Obligations.FinishedEntriesAskToJoin : Prop :=
  ∀ (s : State) (p : PointId), s.minuteLive = true →
    (((s.point p).queue.map (fun e => e.visit.bus)).Nodup →
      s.hand.outbound.length + (s.point p).queue.length ≤ Config.outboundCapacity →
      ∃ t, exec (.joinRetry p) s = .next t ∧ t.steady = s.steady ∧ t.still = s.still ∧ t.lanes = s.lanes ∧
        t.point p.other = s.point p.other ∧
        (∀ i ∈ s.hand.outbound, ∃ i' ∈ t.hand.outbound, i'.cargo = i.cargo ∧ i'.ready = i.ready ∧ i'.place = i.place) ∧
        (∀ e ∈ (s.point p).queue, e.state = .finished → e.recordAwaited.isSome = true → e.passedOn = true →
          e ∈ (t.point p).queue) ∧
        (∀ e ∈ (s.point p).queue, e.state = .finished → e.recordAwaited = none ∨ e.passedOn = false →
          (∃ i ∈ t.hand.outbound, i.cargo = .visit e.visit ∧ i.ready = s.clock.m ∧ i.place = some (.point p)) ∧
          ∀ x ∈ (t.point p).queue, x.visit.bus ≠ e.visit.bus)) ∧
    (Config.outboundCapacity ≤ s.hand.outbound.length → (s.point p).state ≠ .clearing →
      exec (.joinRetry p) s = .next s)

/-- The head of a lane that is not UNKNOWN, PARKED and BOUND with its call time reached and kept by no hold, is
CALLED. The lanes are taken one after the other, by rising number (log entry 3), and at a lane's turn the CALL of its
due head goes to every station, wherever the transmit queue can take it (R130, R131, R133). -/
def Obligations.DueHeadIsCalled : Prop :=
  (∀ (s : State) (n : Nat) (l : Lane) (e : LaneEntry) (rest : List LaneEntry), s.minuteLive = true →
     s.lanes[n]? = some l → l.state ≠ .unknown → l.entries = e :: rest → e.state = .parked → e.visit.duty.state = .bound →
     e.visit.duty.departure ≤ s.clock.m + s.image.callLead → s.headWaits n = false →
     ∃ t, exec .callTimeDue s = .next t ∧ t.steady = s.steady ∧ t.still = s.still ∧
       (∀ p, t.point p = s.point p) ∧ t.hand.bids = s.hand.bids ∧
       (∃ e', ((t.lanes[n]?).bind (fun l' => l'.entries.head?)) = some e' ∧ e'.visit = e.visit ∧ e'.state = .called) ∧
       ((t.lanes.map (fun l' => l'.entries.map (fun x => x.visit))) = s.lanes.map (fun l' => l'.entries.map (fun x => x.visit)))) ∧
  (∀ s : State, s.minuteLive = true → exec .callTimeDue s = .next ((List.range s.lanes.length).foldl State.callLane s)) ∧
  (∀ (u : State) (n : Nat) (l : Lane) (e : LaneEntry) (rest : List LaneEntry), u.minuteLive = true →
    u.lanes[n]? = some l → l.state ≠ .unknown → l.entries = e :: rest → e.state = .parked → e.visit.duty.state = .bound →
    e.visit.duty.departure ≤ u.clock.m + u.image.callLead → u.headWaits n = false → u.canPlace .urgent = true →
    (∀ x ∈ rest, x.visit.bus ≠ e.visit.bus) →
    (∀ k, k ≠ n → (u.callLane n).lanes[k]? = u.lanes[k]?) ∧
    ∃ x ∈ (u.callLane n).line.transmit, x.body = .call e.visit.duty.run e.visit.bus n e.visit.duty.departure
      e.visit.duty.substituted ∧ x.destination = 15 ∧ x.cls = .urgent)

/-- A record of the bus past its departure makes its run late, once: the run joins the late set with a LATE report;
runs that are late already are not reported again. The late records are taken one after the other, and the report of
each that is new carries bus, run, departure, place and whether the entry is CALLED; their order by place is the
model's choice (log entry 48) (R139). -/
def Obligations.LateRunIsReportedOnce : Prop :=
  (∀ (s : State) (bus : Nat), s.minuteLive = true →
     ∃ t, exec (.runLate bus) s = .next t ∧ t = { s with loader := t.loader, line := t.line, lateRuns := t.lateRuns } ∧
       (∀ x ∈ s.standings, x.visit.bus = bus → x.visit.duty.state = .bound → x.visit.duty.departure < s.clock.m →
         x.visit.duty.run ∈ t.lateRuns) ∧
       (∀ run ∈ s.lateRuns, run ∈ t.lateRuns) ∧
       (∀ run ∈ t.lateRuns, run ∈ s.lateRuns ∨ ∃ x ∈ s.standings, x.visit.bus = bus ∧ x.visit.duty.run = run ∧
         x.visit.duty.state = .bound ∧ x.visit.duty.departure < s.clock.m) ∧
       ((∀ x ∈ s.standings, x.visit.bus = bus → x.visit.duty.state = .bound → x.visit.duty.departure < s.clock.m →
         x.visit.duty.run ∈ s.lateRuns) → t = s)) ∧
  (∀ (s : State) (bus : Nat), s.minuteLive = true →
    exec (.runLate bus) s = .next ((s.standings.filter (fun x => decide (x.visit.duty.state = .bound) &&
      decide (x.visit.duty.departure < s.clock.m) && decide (x.visit.bus = bus))).foldl State.reportLate s) ∧
    (s.loader.reports.length + s.standings.length ≤ Config.reportCapacity →
      ∃ t, exec (.runLate bus) s = .next t ∧ ∃ new, t.loader.reports = s.loader.reports ++ new ∧
        (∀ r ∈ new, r.minute = s.clock.m ∧ ∃ x ∈ s.standings, x.visit.bus = bus ∧ x.visit.duty.run ∉ s.lateRuns ∧
          x.visit.duty.state = .bound ∧ x.visit.duty.departure < s.clock.m ∧
          r.body = .late bus x.visit.duty.run x.visit.duty.departure x.place x.called) ∧
        t.lateRuns.length = s.lateRuns.length + new.length ∧
        ∀ run, run ∈ t.lateRuns → run ∉ s.lateRuns → ∃ r ∈ new, ∃ d place called, r.body = .late bus run d place called)) ∧
  (∀ (u : State) (x : Standing), u.active = true →
    (x.visit.duty.run ∈ u.lateRuns → u.reportLate x = u) ∧
    (x.visit.duty.run ∉ u.lateRuns → (u.reportLate x).lateRuns = u.lateRuns ++ [x.visit.duty.run] ∧
      (u.reportLate x).loader.reports.getLast? = some ⟨u.loader.nextSequence, u.reportMinute,
        .late x.visit.bus x.visit.duty.run x.visit.duty.departure x.place x.called⟩)) ∧
  (∀ (u : State), u.standings
    = (u.hand.outbound.filterMap (fun i => match i.cargo with | .visit r => some r | .swap _ => none)).map
        (fun r => { visit := r, place := .outboundList, called := false }) ++
      [PointId.p0, .p1].flatMap (fun p => ((u.point p).queue.filter (fun e =>
        decide (e.state = .waiting ∨ e.state = .serving ∨ e.state = .finished))).map
          (fun e => { visit := e.visit, place := .at (.point p), called := false })) ++
      (List.range u.lanes.length).flatMap (fun n => ((((u.lanes[n]?).map (fun l => l.entries)).getD []).filter (fun e =>
        decide (e.state = .parked ∨ e.state = .called))).map
          (fun e => { visit := e.visit, place := .at (.lane n), called := decide (e.state = .called) })))

/-- A due BOUND entry behind a bus that is not CALLED is blocked: one that is not pinned asks for a swap, which joins
the outbound list with its run, class, wall minute, departure and need, while the list has room and names the run in no
request, and changes nothing while the list is full; it holds no run twice (R21), and that the request of a second entry
with the run is refused in the same way is the model's choice (log entry 52); a pinned one is reported BLOCKED with cause
PINNED and its ask state becomes REFUSED (R21, R130, R131, R140, R141). -/
def Obligations.BlockedRunsAskForASwap : Prop :=
  ∀ (s : State) (n : Nat) (l : Lane) (e : LaneEntry) (ahead back : List LaneEntry), s.minuteLive = true →
    s.lanes[n]? = some l → l.state ≠ .unknown → l.entries = ahead ++ e :: back → e.state = .parked →
    e.visit.duty.state = .bound → e.visit.duty.departure ≤ s.clock.m + s.image.callLead → e.ask = .none →
    (∃ x ∈ ahead, x.state ≠ .called) → (l.entries.map (fun x => x.visit.bus)).Nodup →
    (∀ x ∈ ahead ++ back, x.isDue s.image.callLead s.clock.m = false) →
    (∀ k l', k ≠ n → s.lanes[k]? = some l' → ∀ x ∈ l'.entries, x.isDue s.image.callLead s.clock.m = false) →
    let asked := fun (a : AskState) => l.entries.map (fun x => if x.visit.bus = e.visit.bus then { x with ask := a } else x)
    (e.visit.duty.pinned = false → Config.outboundCapacity ≤ s.hand.outbound.length ∨
        (∃ i ∈ s.hand.outbound, i.key = .swapRun e.visit.duty.run) → exec .callTimeDue s = .next s) ∧
    (e.visit.duty.pinned = false → s.hand.outbound.length < Config.outboundCapacity →
      (∀ i ∈ s.hand.outbound, i.key ≠ .swapRun e.visit.duty.run) →
      ∃ t, exec .callTimeDue s = .next t ∧ t.steady = s.steady ∧ t.still = s.still ∧
        t.lanes = s.lanes.set n { l with entries := asked .asking } ∧ (∀ p, t.point p = s.point p) ∧
        t.loader.reports = s.loader.reports ∧ t.hand.bids = s.hand.bids ∧
        t.hand.outbound.length = s.hand.outbound.length + 1 ∧
        ∃ i ∈ t.hand.outbound, i.ready = s.clock.m ∧ i.joinOrder = s.hand.joins ∧ i.place = none ∧
          i.cargo = .swap { run := e.visit.duty.run, cls := e.visit.cls, wall := e.visit.duty.wall,
                            departure := e.visit.duty.departure,
                            need := (ahead.map (fun x => if x.visit.duty.state = .bound then x.visit.duty.departure
                              else 1499)).foldl max 0 }) ∧
    (e.visit.duty.pinned = true → s.loader.reports.length < Config.reportCapacity →
      ∃ t, exec .callTimeDue s = .next t ∧ t.lanes = s.lanes.set n { l with entries := asked .refused } ∧
        t.field.lamps = lampsOf t.lanes ∧
        (∃ x ∈ t.loader.reports,
          x.body = .blocked e.visit.bus e.visit.duty.run n e.visit.duty.departure .pinned) ∧
        t = { s with loader := t.loader, lanes := t.lanes, field := { s.field with lamps := t.field.lamps }, line := t.line })

/-! ## Service points -/

/-- A bus whose nozzle was never lifted by the deadline ends its service SKIPPED, with the litres delivered: the
enable goes off, the point is CLEARING while the bus stands there, and the record joins the outbound list for its next
stage; before the deadline, or once the nozzle was lifted, nothing changes. The third dry minute ends a service with a
flow fault: the outcome is PARTIAL whatever was delivered, the fault pending mark is set and FUEL_FAULT is placed;
below three dry minutes nothing changes (R19, R100, R102, R106). -/
def Obligations.FuelServiceEndsAtItsMinute : Prop :=
  (∀ (s : State) (p : PointId) (sv : Service), s.minuteLive = true → (s.point p).state = .busy →
     (s.point p).service = some sv →
     (sv.lifted = true ∨ s.clock.m < sv.deadline → exec (.nozzleTimeout p) s = .next s) ∧
     (∀ e, sv.lifted = false → sv.deadline ≤ s.clock.m → (s.point p).serving? = some e →
       ((s.point p).queue.map (fun x => x.visit.bus)).Nodup → s.level (.occupied p) = true →
       s.hand.outbound.length < Config.outboundCapacity →
       ∃ t, exec (.nozzleTimeout p) s = .next t ∧
         t.point p = { s.point p with
           state := .clearing, service := none, enable := false, qualifies := false, served := some e.visit.bus
           left := false, queue := (s.point p).queue.filter (fun x => decide (x.visit.bus ≠ e.visit.bus)) } ∧
         (∃ i ∈ t.hand.outbound, i.ready = s.clock.m ∧ i.place = some (.point p) ∧
           i.cargo = .visit { e.visit with
             fuelOutcome := some .skipped, litres := (s.point p).delivered
             next := if e.visit.washRequest = .none then .berth else .wash }) ∧
         t.still = s.still ∧
         t = State.setPoint p (t.point p) { s with hand := t.hand, line := t.line, loader := t.loader })) ∧
  (∀ (s : State) (p : PointId) (sv : Service) (e : QueueEntry), s.minuteLive = true → (s.point p).state = .busy →
     (s.point p).service = some sv → (s.point p).serving? = some e →
     ((s.point p).dryMinutes < 3 → exec (.flowFault p) s = .next s) ∧
     (3 ≤ (s.point p).dryMinutes → ((s.point p).queue.map (fun x => x.visit.bus)).Nodup →
       s.level (.occupied p) = true → s.hand.outbound.length < Config.outboundCapacity →
       s.loader.reports.length < Config.reportCapacity →
       ∃ t, exec (.flowFault p) s = .next t ∧
         t.point p = { s.point p with
           state := .clearing, service := none, enable := false, qualifies := false, served := some e.visit.bus
           faultPending := true, left := false
           queue := (s.point p).queue.filter (fun x => decide (x.visit.bus ≠ e.visit.bus)) } ∧
         (∃ i ∈ t.hand.outbound, i.ready = s.clock.m ∧ i.place = some (.point p) ∧
           i.cargo = .visit { e.visit with
             fuelOutcome := some .part, litres := (s.point p).delivered
             next := if e.visit.washRequest = .none then .berth else .wash }) ∧
         (∃ r ∈ t.loader.reports, r.body = .fuelFault e.visit.bus p (s.point p).delivered sv.needed) ∧
         t.still = s.still ∧
         t = State.setPoint p (t.point p) { s with hand := t.hand, line := t.line, loader := t.loader }))

/-- How a wash cycle ends. DONE becoming active completes it: its start output goes off, the stencil advances past the
place used, with a reload after place 11, and the washed bus goes on with its outcome; an orphaned cycle ends with the
start output alone, and with no cycle DONE changes nothing but the level. A DONE deadline reached, or FAULT becoming
active, ends it with a machine fault: the start output goes off, the stencil does not advance, the lane is in FAULT,
WASH_FAULT is placed with the cause, the faulted bus joins the outbound list as SKIPPED for its berth, every WAITING
bus is passed on for WASH, at once where no RECORD is awaited, and the EXPECTED and TENTATIVE entries go, the EXPECTED
ones reported MISSING. Before the deadline, or with no cycle, a minute changes nothing; FAULT becoming inactive tests
for a start (R113, R114, R119, R120, R121, R122, R125, R126, R127). -/
def Obligations.WashCyclesEndByDoneOrFault : Prop :=
  let faulted : State → State → PointId → Cycle → WashFaultCause → Prop := fun s t p c cause =>
    t.steady = s.steady ∧ (t.point p).state = .fault ∧ (t.point p).cycle = none ∧ (t.point p).startOutput = .off ∧
    (t.point p).stencil = (s.point p).stencil ∧ (t.point p).pointer = (s.point p).pointer ∧
    (t.point p).staged = (s.point p).staged ∧ t.point p.other = s.point p.other ∧ t.lanes = s.lanes ∧
    (∀ x ∈ (t.point p).queue, x.state = .finished ∨ x.state = .serving) ∧
    (s.loader.reports.length + (s.point p).queue.length < Config.reportCapacity →
      (∃ r ∈ t.loader.reports, r.body = .washFault (((s.point p).serving?.map (fun e => e.visit.bus)).getD 0) p c.type
        c.place cause) ∧
      ∀ e ∈ (s.point p).queue, e.state = .expected → ∃ r ∈ t.loader.reports,
        r.body = .missing e.visit.bus (.point p) e.tag) ∧
    (s.hand.outbound.length + (s.point p).queue.length ≤ Config.outboundCapacity →
      (∀ e, (s.point p).serving? = some e → ∃ i ∈ t.hand.outbound, i.ready = s.clock.m ∧ i.place = some (.point p) ∧
        i.cargo = .visit { e.visit with washOutcome := some .skipped, next := .berth }) ∧
      ∀ e ∈ (s.point p).queue, e.state = .waiting →
        (e.recordAwaited = none → (∀ x ∈ (t.point p).queue, x.visit.bus ≠ e.visit.bus) ∧
          ∃ i ∈ t.hand.outbound, i.ready = s.clock.m ∧ i.place = some (.point p) ∧
            i.cargo = .visit { e.visit with next := .wash }) ∧
        (e.recordAwaited.isSome = true →
          { e with state := .finished, visit := { e.visit with next := .wash }, passedOn := true } ∈ (t.point p).queue))
  (∀ (s : State) (p : PointId), s.minuteLive = true →
     ((s.point p).cycle = none → exec (.doneTimeout p) s = .next s) ∧
     (∀ c, (s.point p).cycle = some c → s.clock.m < c.deadline → exec (.doneTimeout p) s = .next s) ∧
     (∀ c, (s.point p).cycle = some c → c.deadline ≤ s.clock.m →
       ((s.point p).queue.map (fun x => x.visit.bus)).Nodup →
       ∃ t, exec (.doneTimeout p) s = .next t ∧ t.still = s.still ∧ faulted s t p c .timeout)) ∧
  (∀ (s : State) (p : PointId), s.active = true → (s.pointImage p).kind = .wash →
     (s.detector (.machineA p)).live = true → (s.detector (.machineA p)).debounced = false →
     (s.detector (.machineA p)).timer = true →
     ((s.point p).cycle = none → exec (.debounceComplete (.machineA p)) s
       = .next (s.setDetector (.machineA p) { live := true, debounced := true, timer := false })) ∧
     (∀ c e, (s.point p).cycle = some c → c.advance = true → (s.point p).state = .busy → (s.point p).serving? = some e →
       ((s.point p).queue.map (fun x => x.visit.bus)).Nodup → s.level (.occupied p) = true → (s.point p).left = false →
       s.hand.outbound.length < Config.outboundCapacity →
       ∃ t, exec (.debounceComplete (.machineA p)) s = .next t ∧ t.steady = s.steady ∧
         (t.point p).state = .clearing ∧ (t.point p).cycle = none ∧ (t.point p).startOutput = .off ∧
         (c.place ≤ 10 → (t.point p).pointer = c.place + 1 ∧ (t.point p).stencil = (s.point p).stencil ∧
           (t.point p).staged = (s.point p).staged) ∧
         (11 ≤ c.place → (t.point p).pointer = 0 ∧ (t.point p).staged = none ∧
           (t.point p).stencil = ((s.point p).staged).getD (s.point p).stencil) ∧
         (t.point p).queue = (s.point p).queue.filter (fun x => decide (x.visit.bus ≠ e.visit.bus)) ∧
         (∃ i ∈ t.hand.outbound, i.ready = s.clock.m ∧ i.place = some (.point p) ∧
           i.cargo = .visit { e.visit with
             next := .berth
             washOutcome := some (if e.visit.washRequest = .full then (if c.type = .full then .full else .short)
               else .rinse) }) ∧
         t.point p.other = s.point p.other ∧ t.lanes = s.lanes)) ∧
  (∀ (s : State) (p : PointId) (c : Cycle), s.active = true → (s.pointImage p).kind = .wash →
    (s.detector (.machineA p)).live = true → (s.detector (.machineA p)).debounced = false →
    (s.detector (.machineA p)).timer = true → (s.point p).cycle = some c → c.advance = false →
    (s.point p).state = .clearing →
    let moved := s.setDetector (.machineA p) { live := true, debounced := true, timer := false }
    let ended : Point := { s.point p with startOutput := .off, cycle := none }
    ((s.point p).left = false ∨ (∃ x ∈ (s.point p).queue, x.justServed = true) →
      exec (.debounceComplete (.machineA p)) s = .next (moved.setPoint p ended)) ∧
    ((s.point p).left = true → (∀ x ∈ (s.point p).queue, x.justServed = false) → (s.point p).faultPending = false →
      exec (.debounceComplete (.machineA p)) s = .next ((moved.setPoint p
        { ended with state := .idle, served := none, left := false }).startTest p))) ∧
  (∀ (s : State) (p : PointId), s.active = true → (s.pointImage p).kind = .wash →
    (s.detector (.machineB p)).live ≠ (s.detector (.machineB p)).debounced → (s.detector (.machineB p)).timer = true →
    let level := (s.detector (.machineB p)).live
    let moved := s.setDetector (.machineB p) { live := level, debounced := level, timer := false }
    (level = false → exec (.debounceComplete (.machineB p)) s = .next (moved.startTest p)) ∧
    (level = true → (s.point p).cycle = none → exec (.debounceComplete (.machineB p)) s = .next moved) ∧
    (∀ c, level = true → (s.point p).cycle = some c → ((s.point p).queue.map (fun x => x.visit.bus)).Nodup →
      ∃ t, exec (.debounceComplete (.machineB p)) s = .next t ∧ faulted s t p c .input))

/-- The start test at an IDLE point in an OPEN or REDUCED slot starts the first WAITING entry: a fuel service with its
record fixed and the enable on, where the bus needs fuel, or a wash cycle on the pointer's place with its start output
on, where the FAULT input is inactive. A bus that needs 0 litres ends its fuel service at once: the outcome is DONE
with 0 litres, the enable is not turned on, the record joins the outbound list, or stays FINISHED at the head where
that is full, and the point is CLEARING while the bus stands there, and else goes on. With no slot begun, in a SHUT
slot, or with the FAULT input active the entry waits at the head. The slot is the one that holds the start, as R79
answers it, so its first minute is answered alike before and after its boundary event. With no WAITING entry, or in
any other state, nothing changes (R79, R80, R81, R87, R97, R102, R103, R110, R114, R120). -/
def Obligations.StartTestStartsTheFirstWaiting : Prop :=
  ∀ (s : State) (p : PointId),
    ((s.point p).state ≠ .idle ∨ (∀ x ∈ (s.point p).queue, x.state ≠ .waiting) → s.startTest p = s) ∧
    (∀ e front back, (s.point p).state = .idle → (s.point p).queue = front ++ e :: back → e.state = .waiting →
      (∀ x ∈ front, x.state ≠ .waiting) → ((s.point p).queue.map (fun x => x.visit.bus)).Nodup →
      (s.timeline.begun = none ∨ s.slotState p (s.clock.m / 30) = .shut ∨
          ((s.pointImage p).kind = .wash ∧ s.level (.machineB p) = true) →
        s.startTest p = s.setPoint p { s.point p with queue := e :: (front ++ back) }) ∧
      (∀ st, s.timeline.begun ≠ none → s.slotState p (s.clock.m / 30) = st → st ≠ .shut →
        (s.pointImage p).kind = .fuel →
        let needed := ceilDiv (s.image.tankOf e.visit.cls * (100 - e.visit.fuelLevel)) 100
        let rate := match st with | .reduced => max 1 ((s.point p).rate / 2) | _ => (s.point p).rate
        0 < needed →
        s.startTest p = s.setPoint p { s.point p with
          state := .busy
          queue := { e with state := .serving } :: (front ++ back)
          service := some { start := s.clock.m, needed := needed, cap := ceilDiv (11 * needed) 10,
                            duration := (s.pointImage p).handling + ceilDiv needed rate,
                            lifted := s.level (.machineA p), deadline := s.clock.m + 10 }
          servicePulses := 0, delivered := 0, dryMinutes := 0, enable := true }) ∧
      (∀ st, s.timeline.begun ≠ none → s.slotState p (s.clock.m / 30) = st → st ≠ .shut →
        (s.pointImage p).kind = .fuel →
        ceilDiv (s.image.tankOf e.visit.cls * (100 - e.visit.fuelLevel)) 100 = 0 →
        let t := s.startTest p
        let done : VisitRecord := { e.visit with
          fuelOutcome := some .done, litres := 0, next := if e.visit.washRequest = .none then .berth else .wash }
        let joined := ∃ i ∈ t.hand.outbound, i.ready = s.clock.m ∧ i.place = some (.point p) ∧ i.cargo = .visit done
        let cleared : Point := { s.point p with
          state := .clearing, queue := front ++ back, service := none, servicePulses := 0, delivered := 0, dryMinutes := 0
          enable := false, qualifies := false, served := some e.visit.bus, left := false }
        (Config.outboundCapacity ≤ s.hand.outbound.length →
          t = s.setPoint p { cleared with
            left := !s.level (.occupied p)
            queue := { e with state := .finished, visit := done, justServed := true } :: (front ++ back) }) ∧
        (s.hand.outbound.length < Config.outboundCapacity → s.level (.occupied p) = true →
          joined ∧ t = State.setPoint p cleared { s with
            hand := t.hand, line := t.line, loader := { s.loader with retryAtQuiet := t.loader.retryAtQuiet } }) ∧
        (s.hand.outbound.length < Config.outboundCapacity → s.level (.occupied p) = false →
          (s.point p).startOutput = .off → (∀ x ∈ front ++ back, x.justServed = false) →
          joined ∧ (∀ x ∈ (t.point p).queue, x.visit.bus ≠ e.visit.bus) ∧ (t.point p).served ≠ some e.visit.bus ∧
          ((∀ x ∈ front ++ back, x.state ≠ .waiting) → t.point p = { cleared with
            state := if (s.point p).faultPending then .fault else .idle, faultPending := false, served := none }))) ∧
      (∀ st, s.timeline.begun ≠ none → s.slotState p (s.clock.m / 30) = st → st ≠ .shut →
        (s.pointImage p).kind = .wash → s.level (.machineB p) = false →
        let full := decide (e.visit.washRequest = .full) && ((s.point p).stencil[(s.point p).pointer]?.getD false) &&
          decide (st = .opened)
        let nominal := if full then (s.pointImage p).fullCycle else (s.pointImage p).rinseCycle
        s.startTest p = s.setPoint p { s.point p with
          state := .busy
          queue := { e with state := .serving } :: (front ++ back)
          served := some e.visit.bus
          left := false
          cycle := some { type := if full then .full else .rinse, place := (s.point p).pointer, start := s.clock.m,
                          nominal := nominal, deadline := s.clock.m + 2 * nominal, advance := true }
          startOutput := if full then .full else .rinse }))

/-! ## CONTROL and POLL -/

/-- OPEN_LANE opens a CLOSED lane while the maintenance key is off, and CLOSE_LANE closes an OPEN lane; on a lane in
any other state, for a lane at or above the lane count, for an unlisted target, and from any other source than the
office station, they change nothing. Entries, marks and every other lane stay as they are. For a configured point they
clear and set its closed mark and nothing else. CLEAR_POINT from the office station brings a fuel point in FAULT to
IDLE with its start test, clears the fault pending mark of one in CLEARING, and brings a washing lane in FAULT to IDLE
while its FAULT input is inactive; it changes nothing in any other case, for a lane or an unlisted target included
(R67, R68, R69, R107, R108, R128). -/
def Obligations.LaneAndPointControlIsTaken : Prop :=
  ((∀ (s : State) (f : RxFrame) (source n : Nat), s.accepts f .control source → octetAt f.payload 1 = n → n < 6 →
      (controlAction f.payload = some .openLane →
        (source ≠ 0 ∨ s.lanes.length ≤ n ∨ (∃ l, s.lanes[n]? = some l ∧ (l.state ≠ .closed ∨ s.level .maintenanceKey = true)) →
          exec (.openLane f) s = .next s.heard) ∧
        (∀ l, source = 0 → s.lanes[n]? = some l → l.state = .closed → s.level .maintenanceKey = false →
          ∃ t, exec (.openLane f) s = .next t ∧ t.lanes = s.lanes.set n { l with state := .opened } ∧
            t.field.lamps = lampsOf t.lanes ∧
            t = { s.heard with lanes := t.lanes, field := { s.field with lamps := t.field.lamps } })) ∧
      (controlAction f.payload = some .closeLane →
        (source ≠ 0 ∨ s.lanes.length ≤ n ∨ (∃ l, s.lanes[n]? = some l ∧ l.state ≠ .opened) →
          exec (.closeLane f) s = .next s.heard) ∧
        (∀ l, source = 0 → s.lanes[n]? = some l → l.state = .opened →
          ∃ t, exec (.closeLane f) s = .next t ∧ t.lanes = s.lanes.set n { l with state := .closed } ∧
            t.field.lamps = lampsOf t.lanes ∧
            t = { s.heard with lanes := t.lanes, field := { s.field with lamps := t.field.lamps } }))) ∧
   (∀ (s : State) (f : RxFrame) (source : Nat) (p : PointId), s.accepts f .control source →
      octetAt f.payload 1 = (match p with | .p0 => 8 | .p1 => 9) →
      (controlAction f.payload = some .openLane →
        (source ≠ 0 ∨ (s.pointImage p).kind = .none → exec (.openLane f) s = .next s.heard) ∧
        (source = 0 → (s.pointImage p).kind ≠ .none →
          exec (.openLane f) s = .next (s.heard.setPoint p { s.point p with closed := false }))) ∧
      (controlAction f.payload = some .closeLane →
        (source ≠ 0 ∨ (s.pointImage p).kind = .none → exec (.closeLane f) s = .next s.heard) ∧
        (source = 0 → (s.pointImage p).kind ≠ .none →
          exec (.closeLane f) s = .next (s.heard.setPoint p { s.point p with closed := true })))) ∧
   (∀ (s : State) (f : RxFrame) (source : Nat), s.accepts f .control source → 6 ≤ octetAt f.payload 1 →
      octetAt f.payload 1 ≠ 8 → octetAt f.payload 1 ≠ 9 →
      (controlAction f.payload = some .openLane → exec (.openLane f) s = .next s.heard) ∧
      (controlAction f.payload = some .closeLane → exec (.closeLane f) s = .next s.heard))) ∧
  (∀ (s : State) (f : RxFrame) (source : Nat) (p : PointId), s.accepts f .control source →
     controlAction f.payload = some .clearPoint →
     octetAt f.payload 1 = (match p with | .p0 => 8 | .p1 => 9) →
     (source = 0 → (s.pointImage p).kind ≠ .none → (s.point p).state = .fault →
       ((s.pointImage p).kind = .wash → s.level (.machineB p) = false) →
       exec (.clearPoint f) s = .next ((s.heard.setPoint p { s.point p with state := .idle }).startTest p)) ∧
     (source = 0 → (s.pointImage p).kind = .fuel → (s.point p).state = .clearing →
       exec (.clearPoint f) s = .next (s.heard.setPoint p { s.point p with faultPending := false })) ∧
     (source ≠ 0 ∨ (s.pointImage p).kind = .none ∨ (s.point p).state = .idle ∨ (s.point p).state = .busy ∨
         ((s.pointImage p).kind = .wash ∧ ((s.point p).state = .clearing ∨ s.level (.machineB p) = true)) →
       exec (.clearPoint f) s = .next s.heard)) ∧
  (∀ (s : State) (f : RxFrame) (source : Nat), s.accepts f .control source →
     controlAction f.payload = some .clearPoint → octetAt f.payload 1 ≠ 8 → octetAt f.payload 1 ≠ 9 →
     exec (.clearPoint f) s = .next s.heard)

/-- A POLL from the office station builds a waiting SUMMARY again in its place, or else places a new one, from the
node as it stands, item by item as R190 lists them; one from any other source changes nothing. That every SUMMARY is
built again where two wait is the model's choice (log entry 46). A report joins at the tail of the report queue with
the next sequence number and the minute. In a full queue the oldest report whose frame is not being sent makes room,
and its frame leaves the transmit queue with it; a report is placed in WAITING TIME and IN SERVICE alone. A frame
joins the transmit queue behind every frame of its class and of the classes before it; in a full one a LOW frame is
discarded, and any other displaces the LOW frame of lowest entry order that is not being sent, or is discarded where
there is none; that the frame a soft restart left on the line is counted among the 16 is the model's choice (log entry
20). The order of the queue is kept (R170, R172, R187, R188, R189, R190). -/
def Obligations.ReportsAndFramesKeepTheirQueues : Prop :=
  (∀ (s : State) (f : RxFrame) (source : Nat), s.accepts f .poll source →
     (source ≠ 0 → exec (.poll f) s = .next s.heard) ∧
     (source = 0 → s.loader.reports.any s.waitingSummary = true →
       exec (.poll f) s = .next { s.heard with loader := { s.loader with
         reports := s.loader.reports.map (fun r =>
           if s.waitingSummary r then { r with minute := s.clock.m, body := .summary s.summary } else r) } }) ∧
     (source = 0 → s.loader.reports.any s.waitingSummary = false → s.loader.reports.length < Config.reportCapacity →
       ∃ t, exec (.poll f) s = .next t ∧
         t.loader.reports = s.loader.reports ++
           [{ sequence := s.loader.nextSequence, minute := if s.clock.isSet then s.clock.m else 0,
              body := .summary s.summary }] ∧
         t.loader.nextSequence = (s.loader.nextSequence + 1) % 256 ∧ t.still = s.heard.still ∧
         t = { s with loader := t.loader, line := t.line }) ∧
     (s.summary.m = s.clock.m ∧ s.summary.shift = s.clock.shift ∧ s.summary.change = s.clock.change ∧
       s.summary.clockSet = s.clock.isSet ∧ s.summary.outbound = s.hand.outbound.length ∧
       s.summary.bids = s.hand.bids.length ∧ s.summary.conflict = s.line.conflict ∧
       s.summary.lanes.length = s.lanes.length ∧ s.summary.pins.length = 13 ∧
       (s.summary.inService = true ↔ s.loader.node = .inService) ∧
       (∀ (n : Nat) (l : Lane), s.lanes[n]? = some l → ∃ b : LaneSummary, s.summary.lanes[n]? = some b ∧ b.state = l.state ∧ b.overfull = l.overfull ∧
         b.entries = l.entries.length ∧ b.occupied = (l.entries.map (fun e => s.image.lengthOf e.visit.cls + 1)).sum ∧
         b.unconfirmed = (l.entries.filter (fun e => e.unconfirmed)).length) ∧
       (∀ p : PointId,
         let v := s.point p
         let kind := (s.pointImage p).kind
         let b := match p with | .p0 => s.summary.point0 | .p1 => s.summary.point1
         b.kind = kind ∧
         (kind ≠ .none → b.state = v.state ∧ b.closed = v.closed ∧ b.queue = v.queue.length) ∧
         (kind = .fuel → b.gauge = v.rate ∧ b.mark = v.faultPending) ∧
         (kind = .wash → b.gauge = v.pointer ∧ b.mark = v.staged.isSome) ∧
         (kind = .none → b.state = .idle ∧ b.closed = false ∧ b.mark = false ∧ b.queue = 0 ∧ b.gauge = 0)) ∧
       (∀ pin : Pin, s.summary.pins[(match pin with
         | .laneClear n => n.val
         | .occupied .p0 => 6
         | .occupied .p1 => 7
         | .machineA .p0 => 8
         | .machineB .p0 => 9
         | .machineA .p1 => 10
         | .machineB .p1 => 11
         | .maintenanceKey => 12)]? = some (s.detector pin).live))) ∧
  (∀ (s : State) (b : ReportBody),
     let t := s.report b
     let new : Report := { sequence := s.loader.nextSequence, minute := if s.clock.isSet then s.clock.m else 0, body := b }
     let sent := s.line.transmit.any (fun x => x.body.isReport && x.sending)
     (s.active = false → t = s) ∧
     (s.active = true →
       t = { s with loader := t.loader, line := t.line } ∧
       t.loader.nextSequence = (s.loader.nextSequence + 1) % 256 ∧
       (s.loader.reports.length < Config.reportCapacity → t.loader.reports = s.loader.reports ++ [new]) ∧
       (Config.reportCapacity ≤ s.loader.reports.length → sent = false →
         t.loader.reports = s.loader.reports.drop 1 ++ [new] ∧
         ∀ x ∈ t.line.transmit, ∀ r, x.body = .report r → t.loader.reports.head? = some r) ∧
       (Config.reportCapacity ≤ s.loader.reports.length → sent = true →
         t.loader.reports = s.loader.reports.take 1 ++ s.loader.reports.drop 2 ++ [new] ∧
         t.line.transmit = s.line.transmit) ∧
       (s.loader.reports = [] → s.line.transmit.any (fun x => x.body.isReport) = false → s.canPlace .low = true →
         ∃ x ∈ t.line.transmit, x.body = .report new ∧ x.destination = 0 ∧ x.cls = .low))) ∧
  (∀ (s : State) (body : FrameBody) (destination : Nat), s.line.inOrder →
     let t := s.place body destination
     let new : TxFrame := { body := body, destination := destination, order := s.line.nextOrder, mismatches := 0,
                            sending := false }
     let held := s.line.transmit.length + s.line.muted.toList.length
     let low := fun (x : TxFrame) => x.cls = .low ∧ x.sending = false
     t.line.inOrder ∧ t.line.muted = s.line.muted ∧
     (held < Config.transmitCapacity → t.line.transmit.Perm (new :: s.line.transmit)) ∧
     (Config.transmitCapacity ≤ held → new.cls = .low ∨ (∀ x ∈ s.line.transmit, ¬ low x) → t = s) ∧
     (∀ x ∈ s.line.transmit, Config.transmitCapacity ≤ held → new.cls ≠ .low → low x →
       (∀ y ∈ s.line.transmit, low y → x.order ≤ y.order) →
       t.line.transmit.Perm (new :: s.line.transmit.filter (fun y => decide (y.order ≠ x.order))) ∧
       t.loader.retryAtQuiet = true))

/-! ## Offers, bids and takes -/

/-- On hearing an OFFER the node first closes the tag it supersedes, so that no bid entry, no TENTATIVE and no
EXPECTED entry of that tag stays, and then bids where the conditions of R30 hold and one of its resources has a value:
one bid entry, its TENTATIVE entry at the tail of the resource (none for SWAP) and a BID, in one event; of the two
points it is the one of the lower value, and point 0 of equal ones; where a condition of R30 fails or no resource has
a value nothing more changes. Any OFFER of a bus also closes the node's bids and takes of that bus under other numbers
of the same holder, and none of another holder's (R30, R31, R35, R53, R91, R143, R145). -/
def Obligations.OfferDrawsABid : Prop :=
  (∀ (s : State) (f : RxFrame) (h : Nat) (g : OfferFields), s.accepts f .offer h →
     offerFields f.payload s.clock.dayLength = some g →
     let u := s.heard.supersede h g
     let tag : Tag := { holder := h, number := g.number }
     (u.inService = false ∨ Config.bidCapacity ≤ u.hand.bids.length ∨ (∃ b ∈ u.hand.bids, b.tag = tag) ∨
         (∃ r, g.cargo = .visit r ∧ ((∃ e ∈ u.laneEntries, e.visit.bus = r.bus) ∨
           (∃ p, ∃ e ∈ (u.point p).queue, e.visit.bus = r.bus) ∨
           ∃ b ∈ u.hand.bids, b.stage ≠ .swap ∧ b.bus = r.bus)) →
       exec (.offer f) s = .next u) ∧
     ((∀ r, g.cargo = .visit r →
         (r.next = .fuel → u.fuelBid .p0 r = none ∧ u.fuelBid .p1 r = none) ∧
         (r.next = .wash → u.washBid .p0 r = none ∧ u.washBid .p1 r = none) ∧
         (r.next = .berth ∨ r.next = .parked → u.berthBid r = none)) →
       (∀ q, g.cargo = .swap q → h = s.loader.address ∨ u.swapBid q = none) → exec (.offer f) s = .next u) ∧
     (∀ r n v, g.cargo = .visit r → r.next = .berth → u.mayBid h g = true → u.berthBid r = some (n, v) →
       u.canPlace .normal = true →
       ∃ t, exec (.offer f) s = .next t ∧
         (∃ l, u.lanes[n]? = some l ∧ t.lanes = u.lanes.set n { l with entries := l.entries ++
           [{ visit := { r with next := .parked }, state := .tentative, tag := some tag, value := some v,
              deadline := none, unconfirmed := false, recordAwaited := none, ask := .none, mark := none }] }) ∧
         t.hand = { u.hand with bids := u.hand.bids ++
           [{ tag := tag, bus := r.bus, stage := .berth, copy := some { r with next := .parked }, resource := .lane n,
              value := v, head := none, asked := none, state := .computed, heard := [], waitOver := false,
              noBinding := false }] } ∧
         (∃ x ∈ t.line.transmit, x.body = .bid tag r.bus v none ∧ x.destination = 15 ∧ x.cls = .normal) ∧
         t.still = u.still ∧ (∀ p, t.point p = u.point p)) ∧
     (∀ r p v, g.cargo = .visit r → r.next = .fuel ∨ r.next = .wash → u.mayBid h g = true →
       (let price := fun (x : PointId) => if r.next = .fuel then u.fuelBid x r else u.washBid x r
        price p = some v ∧ ∀ w, price p.other = some w → v < w ∨ (v = w ∧ p = .p0)) →
       u.canPlace .normal = true →
       ∃ t, exec (.offer f) s = .next t ∧
         t.point p = { u.point p with queue := (u.point p).queue ++
           [{ visit := r, state := .tentative, tag := some tag, value := some v, deadline := none,
              recordAwaited := none, justServed := false, passedOn := false }] } ∧
         (∃ b, t.hand = { u.hand with bids := u.hand.bids ++ [b] } ∧ b.tag = tag ∧ b.bus = r.bus ∧
           b.resource = .point p ∧ b.value = v ∧ b.state = .computed ∧ b.head = none) ∧
         (∃ x ∈ t.line.transmit, x.body = .bid tag r.bus v none ∧ x.destination = 15) ∧
         t.lanes = u.lanes ∧ t.point p.other = u.point p.other ∧ t.still = u.still) ∧
     (∀ q n v head, g.cargo = .swap q → h ≠ s.loader.address → u.mayBid h g = true → u.swapBid q = some (n, v, head) →
       u.canPlace .normal = true →
       ∃ t, exec (.offer f) s = .next t ∧
         (∃ b, t.hand = { u.hand with bids := u.hand.bids ++ [b] } ∧ b.tag = tag ∧ b.bus = 0 ∧ b.stage = .swap ∧
           b.copy = none ∧ b.resource = .lane n ∧ b.value = v ∧ b.head = some head ∧ b.asked = some q ∧
           b.state = .computed) ∧
         (∃ x ∈ t.line.transmit, x.body = .bid tag 0 v (some head) ∧ x.destination = 15) ∧
         t.lanes = u.lanes ∧ (∀ p, t.point p = u.point p) ∧ t.still = u.still)) ∧
  (∀ (s : State) (h : Nat) (g : OfferFields), g.supersedes ≠ 0 →
     let t := s.supersede h g
     let old : Tag := { holder := h, number := g.supersedes }
     (∀ b ∈ t.hand.bids, b.tag ≠ old) ∧
     (∀ e ∈ t.laneEntries, e.state = .tentative ∨ e.state = .expected → e.tag ≠ some old) ∧
     (∀ p, ∀ e ∈ (t.point p).queue, e.state = .tentative ∨ e.state = .expected → e.tag ≠ some old) ∧
     (∀ x ∈ t.line.transmit, x.body.isClaimOf old = true → x.sending = true) ∧
     t.loader.reports = s.loader.reports) ∧
  (∀ (s : State) (h : Nat) (g : OfferFields) (r : VisitRecord), g.cargo = .visit r →
     let t := s.supersede h g
     let other := fun (tag : Tag) => tag.holder = h ∧ tag.number ≠ g.number
     (∀ b ∈ t.hand.bids, b.stage ≠ .swap → b.bus = r.bus → ¬ other b.tag) ∧
     (∀ e ∈ t.laneEntries, e.state = .expected → e.visit.bus = r.bus → ∀ tag, e.tag = some tag → ¬ other tag) ∧
     (∀ p, ∀ e ∈ (t.point p).queue, e.state = .expected → e.visit.bus = r.bus → ∀ tag, e.tag = some tag → ¬ other tag) ∧
     ((s.hand.bids.map (fun b => b.tag)).Nodup →
       ∀ b ∈ s.hand.bids, b.stage ≠ .swap → b.head = none → b.tag.holder ≠ h → b ∈ t.hand.bids) ∧
     (∀ e ∈ s.laneEntries, ∀ tag, e.tag = some tag → tag.holder ≠ h →
       ∃ e' ∈ t.laneEntries, e'.visit = e.visit ∧ e'.tag = e.tag ∧ e'.value = e.value ∧ e'.deadline = e.deadline) ∧
     (∀ p, ∀ e ∈ (s.point p).queue, ∀ tag, e.tag = some tag → tag.holder ≠ h → e ∈ (t.point p).queue) ∧
     t.loader.reports = s.loader.reports)

/-- A fuel point or washing lane bids exactly where it is configured for the stage, open, not in FAULT, with a free
place in its queue, and where the walk gives the candidate a start and a finish below the day length and not above its
departure less the margin. The walk takes the WAITING, EXPECTED and TENTATIVE entries in queue order and the candidate
last: each starts at the timeline's first start at or after the finish before it, the first at or after the point's
free time, and finishes after its duration: for fuel by needed litres and the rate of its slot, for a wash by the type
that its request, its projected stencil place and its slot give. The value is the candidate's start, plus 60 for a
FULL request projected as a rinse, and below the day length (R79, R80, R87 to R90, R114 to R117). -/
def Obligations.ServiceBidsKeepTheirRules : Prop :=
  ∀ (s : State) (p : PointId) (r : VisitRecord) (v : Nat),
    let row := ((s.point p).queue.filter (fun e =>
      decide (e.state = .waiting ∨ e.state = .expected ∨ e.state = .tentative))).map (fun e => e.visit) ++ [r]
    let takes := (s.point p).state ≠ .fault ∧ (s.point p).closed = false ∧ (s.point p).queue.length < 8
    let walk := fun (free : Nat) (finish : Nat → Nat → VisitRecord → Nat) (w : List (Nat × Nat)) =>
      w.length = row.length ∧ ∀ j c, row[j]? = some c → ∃ x, w[j]? = some x ∧
        s.firstStart p (max (if j = 0 then free else (w[j - 1]?.map (fun y => y.2)).getD 0) s.clock.m) = some x.1 ∧
        x.2 = finish j x.1 c
    let fuelFree := match (s.point p).state, (s.point p).service with
      | .busy, some sv => max (s.clock.m + 1) (sv.start + sv.duration)
      | .busy, none => s.clock.m + 1
      | _, _ => s.clock.m
    let fuelFinish := fun (_ x : Nat) (c : VisitRecord) =>
      let needed := (s.image.tankOf c.cls * (100 - c.fuelLevel) + 99) / 100
      let rate := if s.slotState p (x / 30) = .reduced then max 1 ((s.point p).rate / 2) else (s.point p).rate
      x + (s.pointImage p).handling + (needed + rate - 1) / rate
    let washFree := match (s.point p).cycle with
      | some c => max (s.clock.m + 1) (c.start + c.nominal)
      | none => s.clock.m
    let washFull := fun (j x : Nat) (c : VisitRecord) =>
      let q := (s.point p).pointer + j +
        (if (s.point p).state = .busy ∧ (∃ y, (s.point p).cycle = some y ∧ y.advance = true) then 1 else 0)
      let place := if q ≤ 11 then (s.point p).stencil[q]? else ((s.point p).staged.getD (s.point p).stencil)[q - 12]?
      c.washRequest = .full ∧ place = some true ∧ s.slotState p (x / 30) = .opened
    let washFinish := fun (j x : Nat) (c : VisitRecord) =>
      x + (if washFull j x c then (s.pointImage p).fullCycle else (s.pointImage p).rinseCycle)
    (s.fuelBid p r = some v ↔ (s.pointImage p).kind = .fuel ∧ takes ∧ ∃ w finish, walk fuelFree fuelFinish w ∧
      w.getLast? = some (v, finish) ∧ finish < s.clock.dayLength ∧ finish + s.image.margin ≤ r.departs) ∧
    (s.washBid p r = some v ↔ (s.pointImage p).kind = .wash ∧ takes ∧ ∃ w start finish, walk washFree washFinish w ∧
      w.getLast? = some (start, finish) ∧
      v = start + (if r.washRequest = .full ∧ ¬ washFull (row.length - 1) start r then 60 else 0) ∧
      finish < s.clock.dayLength ∧ finish + s.image.margin ≤ r.departs ∧ v < s.clock.dayLength) ∧
    (s.fuelBid p r = some v ∨ s.washBid p r = some v → s.clock.m ≤ v ∧ v < s.clock.dayLength)

/-- A candidate fits a lane that holds fewer than 16 entries and has room for it and its gap; the free length is what
is left of the lane, and pending entries take room like any other (R50). -/
def Obligations.LaneFitsByCountAndLength : Prop :=
  ∀ (i : Image) (l : Lane) (laneLen len : Nat),
    (l.fits i laneLen len = true ↔ l.entries.length < 16 ∧ l.occupied i + len + 1 ≤ laneLen) ∧
    (l.fits i laneLen len = true → laneLen = l.occupied i + len + 1 + l.freeAfter i laneLen len) ∧
    l.occupied i = (l.entries.map (fun e => i.lengthOf e.visit.cls + 1)).sum ∧
    (∀ g : LaneEntry → LaneEntryState,
      Lane.occupied i { l with entries := l.entries.map (fun e => { e with state := g e }) } = l.occupied i)

/-- The berth cost by its three cases, with the bounds of a lane the candidate fits (R51). The node bids the cheapest
lane that is OPEN and that the candidate fits, while the maintenance key is off; among equal costs the one left with
the least free length, and among those the lowest number; with no such lane it has no value (R52, R69). -/
def Obligations.BerthBidIsTheBestLane : Prop :=
  (∀ (openCost d : Nat) (l : Lane), openCost ≤ 1499 → d ≤ 1499 → (∀ e ∈ l.entries, e.visit.duty.departure ≤ 1499) →
     (l.entries = [] → l.cost openCost d = openCost) ∧
     (∀ front e, l.entries = front ++ [e] → e.visit.departs ≤ d → l.cost openCost d = d - e.visit.departs) ∧
     (∀ front e, l.entries = front ++ [e] → d < e.visit.departs →
       l.cost openCost d
         = 2000 + 100 * (l.entries.filter (fun x => decide (d < x.visit.departs))).length + min (e.visit.departs - d) 99) ∧
     (∀ e ∈ l.entries, e.visit.departs = if e.visit.duty.state = .bound then e.visit.duty.departure else 1499) ∧
     (l.entries.length < 16 → l.cost openCost d ≤ 3599)) ∧
  (∀ (s : State) (r : VisitRecord),
     (∀ n v, s.berthBid r = some (n, v) →
       ∃ l, s.lanes[n]? = some l ∧ l.state = .opened ∧ s.level .maintenanceKey = false ∧
         l.fits s.image (s.image.laneLengthOf n) (s.image.lengthOf r.cls) = true ∧ v = l.cost s.image.openCost r.departs ∧
         ∀ (k : Nat) (l' : Lane), s.lanes[k]? = some l' → l'.state = .opened →
           l'.fits s.image (s.image.laneLengthOf k) (s.image.lengthOf r.cls) = true → k ≠ n →
           let free := l.freeAfter s.image (s.image.laneLengthOf n) (s.image.lengthOf r.cls)
           let free' := l'.freeAfter s.image (s.image.laneLengthOf k) (s.image.lengthOf r.cls)
           let v' := l'.cost s.image.openCost r.departs
           v < v' ∨ (v = v' ∧ free < free') ∨ (v = v' ∧ free = free' ∧ n < k)) ∧
     (s.berthBid r = none ↔ s.level .maintenanceKey = true ∨ ∀ (n : Nat) (l : Lane), s.lanes[n]? = some l →
       l.state = .opened →
       l.fits s.image (s.image.laneLengthOf n) (s.image.lengthOf r.cls) = false))

/-- The node bids the eligible lane head of lowest value, and among equal values of the lowest lane number; the value
is d − n, or 2000 + (n − d) where the head leaves before the need. A head of a lane that is not UNKNOWN is eligible
where it is PARKED, of the class asked for, not pinned, leaves after the departure asked for, awaits no RECORD, is
neither unconfirmed nor marked nor offered already, and where its call time, if it has one, has not come; the holder's
own heads are not (R143, R144, R145). -/
def Obligations.SwapBidIsTheBestHead : Prop :=
  ∀ (s : State) (q : SwapRequest),
    let eligible := fun (n : Nat) (e : LaneEntry) =>
      ∃ l rest, s.lanes[n]? = some l ∧ l.state ≠ .unknown ∧ l.entries = e :: rest ∧ e.state = .parked ∧
        e.visit.cls = q.cls ∧ e.visit.duty.pinned = false ∧
        q.departure < (if e.visit.duty.state = .bound then e.visit.duty.departure else 1499) ∧ e.recordAwaited = none ∧
        e.unconfirmed = false ∧ e.mark = none ∧ (∀ b ∈ s.hand.bids, ∀ h, b.head = some h → h.bus ≠ e.visit.bus) ∧
        (e.visit.duty.state = .bound → s.clock.m < e.visit.duty.departure - s.image.callLead)
    let value := fun (e : LaneEntry) =>
      if q.need ≤ e.visit.departs then e.visit.departs - q.need else 2000 + (q.need - e.visit.departs)
    (∀ n v h, s.swapBid q = some (n, v, h) →
      ∃ e, eligible n e ∧ v = value e ∧ h.bus = e.visit.bus ∧
        (e.visit.duty.state = .bound → h.run = e.visit.duty.run ∧ h.wall = e.visit.duty.wall ∧
          h.departure = e.visit.duty.departure) ∧
        (e.visit.duty.state ≠ .bound → h.run = 0 ∧ h.wall = none ∧ h.departure = 1499) ∧
        ∀ k e', eligible k e' → v < value e' ∨ (v = value e' ∧ n ≤ k)) ∧
    (s.swapBid q = none ↔ ∀ n e, ¬ eligible n e) ∧
    (∀ n e, eligible n e → e.visit.duty.departure ≤ 1499 → q.need ≤ 1499 →
      value e ≤ 1499 ∨ (2001 ≤ value e ∧ value e ≤ 3498)) ∧
    (∀ number supersedes, s.decideBid s.loader.address
      { number := number, supersedes := supersedes, cargo := .swap q } = none)

/-- A BID for a tag the node is still bidding for is kept with its value and source, and changes nothing else. At the
end of the bid window a bid that was never sent is withdrawn, one that is beaten is dropped, and the best one is
taken: its bid entry becomes TAKEN, its entry EXPECTED with its deadline, and a TAKE is placed; a TAKEN one stays
(R32, R33, R34, R54, R91). That a SWAP TAKE carries the head bus as it was bid is the model's choice (log entry 65). -/
def Obligations.BidsAreKeptAndComparedAtTheWindowEnd : Prop :=
  (∀ (s : State) (f : RxFrame) (source : Nat), s.accepts f .bid source →
     (∀ g, bidFields f.payload s.clock.dayLength = some g →
       exec (.bid f) s = .next { s.heard with hand := { s.hand with
         bids := s.hand.bids.map (fun e =>
           if e.tag = g.tag ∧ e.state ≠ .taken then { e with heard := e.heard ++ [(g.value, source)] } else e) } }) ∧
     (bidFields f.payload s.clock.dayLength = none → exec (.bid f) s = .next s.heard)) ∧
  (∀ (s : State) (tag : Tag) (e : BidEntry), s.active = true →
     s.hand.bids.find? (fun b => decide (b.tag = tag)) = some e →
     (e.state = .taken → exec (.bidWindowEnd tag) s = .next s) ∧
     (e.state = .computed ∨ (e.state = .sent ∧ ∃ x ∈ e.heard, x.1 < e.value ∨ (x.1 = e.value ∧ x.2 < s.loader.address)) →
       ∃ t, exec (.bidWindowEnd tag) s = .next t ∧ t.steady = s.steady ∧ t.still = s.still ∧
         t.loader.reports = s.loader.reports ∧ (∀ b ∈ t.hand.bids, b.tag ≠ tag) ∧
         (∀ x ∈ t.laneEntries, x.state = .tentative → x.tag ≠ some tag) ∧
         (∀ p, ∀ x ∈ (t.point p).queue, x.state = .tentative → x.tag ≠ some tag) ∧
         (∀ x ∈ t.line.transmit, x.body.isClaimOf tag = true → x.sending = true)) ∧
     (e.state = .sent → (∀ x ∈ e.heard, e.value < x.1 ∨ (x.1 = e.value ∧ s.loader.address ≤ x.2)) →
       s.canPlace .urgent = true → (∀ b ∈ s.hand.bids, ∀ h, b.head = some h → s.isParkedHead b.resource h.bus = true) →
       ∃ t, exec (.bidWindowEnd tag) s = .next t ∧ t.steady = s.steady ∧ t.still = s.still ∧
         t.hand.bids = s.hand.bids.map (fun b => if b.tag = tag then { b with state := .taken } else b) ∧
         (∀ p, (t.point p).queue = (s.point p).queue.map (fun x =>
           if x.state = .tentative ∧ x.tag = some tag then
             { x with state := .expected, deadline := some (s.clock.m + s.image.expectedTimeout) }
           else x)) ∧
         (∀ x ∈ t.laneEntries, x.state = .tentative → x.tag ≠ some tag) ∧
         (∀ x ∈ s.laneEntries, x.state = .tentative → x.tag = some tag →
           ∃ y ∈ t.laneEntries, y.visit = x.visit ∧ y.tag = x.tag ∧ y.value = x.value ∧ y.state = .expected ∧
             y.deadline = some (s.clock.m + s.image.expectedTimeout)) ∧
         (∃ x ∈ t.line.transmit, x.body = .take tag e.bus e.value e.resource e.head ∧ x.destination = 15 ∧
           x.cls = .urgent)))

/-- The holder keeps a TAKE for its open offer in BIDDING and TAKE WAIT, of a bus or of a swap request, and ignores
one that names another number or another bus; that a TAKE of the other form is ignored too is the model's reading (log
entry 14). A better TAKE for a tag the node has taken makes it give the claim up: bid entry and EXPECTED entry go,
with its own TAKE if that still waits, and no report; a TAKE that is not better takes nothing from it. A TAKE for the
old number while a re-offer waits is committed at once: the item leaves the outbound list, the waiting OFFER goes, and
the guidance output of the item's place shows the taker. That a swap offer stays open is said where no bus stands
twice in one lane (R47) (R26, R27, R34). -/
def Obligations.TakesAreKeptOrYieldedTo : Prop :=
  (∀ (s : State) (f : RxFrame) (source bus : Nat) (g : TakeFields) (o : OpenOffer), s.accepts f .take source →
     takeFields f.payload s.clock.dayLength = some g → s.hand.offer = some o → o.key = .bus bus →
     (o.phase = .bidding ∨ o.phase = .takeWait) →
     ∃ t, exec (.take f) s = .next t ∧ t.steady = s.steady ∧ t.still = s.heard.still ∧
       t.hand.counter = s.hand.counter ∧
       (g.tag = { holder := s.loader.address, number := o.number } → g.bus = bus → g.head = none →
         t.hand.offer = some { o with takes := o.takes ++
           [{ source := source, value := g.value, bus := g.bus, resource := g.resource, head := none }] }) ∧
       (g.tag ≠ { holder := s.loader.address, number := o.number } ∨ g.bus ≠ bus → t.hand.offer = some o)) ∧
  (∀ (s : State) (f : RxFrame) (source run : Nat) (g : TakeFields) (o : OpenOffer), s.accepts f .take source →
     takeFields f.payload s.clock.dayLength = some g → s.hand.offer = some o → o.key = .swapRun run →
     s.asksFor run = true → (o.phase = .bidding ∨ o.phase = .takeWait) →
     (∀ l ∈ s.lanes, (l.entries.map (fun e => e.visit.bus)).Nodup) →
     ∃ t, exec (.take f) s = .next t ∧ t.steady = s.steady ∧ t.still = s.heard.still ∧
       t.hand.counter = s.hand.counter ∧
       (∀ h, g.tag = { holder := s.loader.address, number := o.number } → g.head = some h →
         t.hand.offer = some { o with takes := o.takes ++
           [{ source := source, value := g.value, bus := g.bus, resource := g.resource, head := some h }] }) ∧
       (g.tag ≠ { holder := s.loader.address, number := o.number } ∨ g.head = none → t.hand.offer = some o)) ∧
  (∀ (s : State) (f : RxFrame) (source v : Nat) (g : TakeFields), s.accepts f .take source →
     takeFields f.payload s.clock.dayLength = some g → g.tag.holder ≠ s.loader.address → s.takenValue g.tag = some v →
     ∃ t, exec (.take f) s = .next t ∧ t.steady = s.steady ∧ t.still = s.heard.still ∧
       t.loader.reports = s.loader.reports ∧
       (g.value < v ∨ (g.value = v ∧ source < s.loader.address) →
         (∀ b ∈ t.hand.bids, b.tag ≠ g.tag) ∧
         (∀ e ∈ t.laneEntries, e.state = .expected → e.tag ≠ some g.tag) ∧
         (∀ p, ∀ e ∈ (t.point p).queue, e.state = .expected → e.tag ≠ some g.tag) ∧
         (∀ x ∈ t.line.transmit, x.body.isClaimOf g.tag = true → x.sending = true)) ∧
       (v < g.value ∨ (g.value = v ∧ s.loader.address < source) →
         (∀ p, t.point p = s.point p) ∧
         (t.lanes.map (fun l => l.entries.map (fun e => (e.visit, e.tag)))
           = s.lanes.map (fun l => l.entries.map (fun e => (e.visit, e.tag)))))) ∧
  (∀ (s : State) (f : RxFrame) (source : Nat) (g : TakeFields) (o : OpenOffer) (i : OutItem), s.accepts f .take source →
     takeFields f.payload s.clock.dayLength = some g → s.hand.offer = some o → o.phase = .reofferQueued →
     s.item? o.key = some i → g.tag = { holder := s.loader.address, number := o.number } →
     (∀ b, o.key = .bus b → g.bus = b ∧ g.head = none) → (∀ run, o.key = .swapRun run → g.head.isSome = true) →
     ∃ t, exec (.take f) s = .next t ∧ t.steady = s.steady ∧ t.still = s.heard.still ∧
       (∀ j ∈ t.hand.outbound, j.key ≠ o.key) ∧ (∀ o', t.hand.offer = some o' → o'.key ≠ o.key) ∧
       (∀ y ∈ t.line.transmit, ∀ n sup, y.body = .offer n sup i.cargo → y.sending = true) ∧
       (∀ place r, i.place = some place → i.cargo = .visit r →
         t.guide place = { code := .destination source g.resource, bus := some r.bus }))

/-- At the end of the node's own bid window the open offer goes from BIDDING to TAKE WAIT, and nothing else changes;
that OFFER_WINDOW_END changes nothing in any other state of the offer is the model's choice for a command that ends a
time which does not run (log entry 5). At the end of the take wait of an offer of a bus, the holder commits to the
best TAKE heard: the item leaves the outbound list and the guidance output of its place shows the taker. With none
heard, a first offer is offered again under a fresh number that supersedes the old one, and a second one moves a FUEL
or WASH item to its next stage, and strands a BERTH item (R19, R22, R25, R27, R28, R29, R167). -/
def Obligations.OwnWindowsCloseTheOffer : Prop :=
  (∀ s : State, s.active = true →
     (∀ o, s.hand.offer = some o → o.phase = .bidding →
       exec .offerWindowEnd s = .next { s with hand := { s.hand with offer := some { o with phase := .takeWait } } }) ∧
     ((∀ o, s.hand.offer = some o → o.phase ≠ .bidding) → exec .offerWindowEnd s = .next s)) ∧
  (∀ (s : State) (o : OpenOffer) (it : OutItem) (r : VisitRecord), s.inService = true → s.hand.offer = some o →
     o.phase = .takeWait → s.item? o.key = some it → it.cargo = .visit r → o.key = .bus r.bus →
     (s.hand.outbound.map OutItem.key).Nodup → 1 ≤ s.hand.counter → 1 ≤ s.image.strandedRetry →
     (∀ k ∈ o.takes, (∀ k' ∈ o.takes, k.value < k'.value ∨ (k.value = k'.value ∧ k.source < k'.source) ∨ k = k') →
       ∃ t, exec .takeWaitEnd s = .next t ∧ t.steady = s.steady ∧ t.still = s.still ∧
         (∀ i ∈ t.hand.outbound, i.key ≠ o.key) ∧ (∀ p, t.point p = s.point p) ∧
         (∀ place, it.place = some place →
           t.guide place = { code := .destination k.source k.resource, bus := some r.bus }) ∧
         (it.place = none → t.field.codes = s.field.codes)) ∧
     (o.takes = [] → it.offerCount = 1 → s.canPlace .normal = true →
       ∃ t, exec .takeWaitEnd s = .next t ∧ t.steady = s.steady ∧ t.still = s.still ∧
         t.hand.offer = some { o with phase := .reofferQueued, reNumber := s.hand.counter } ∧
         t.hand.counter = (if 255 ≤ s.hand.counter then 1 else s.hand.counter + 1) ∧
         (∃ i, t.item? o.key = some i ∧ i.offerCount = 2 ∧ i.cargo = .visit r) ∧
         (∃ x ∈ t.line.transmit, x.body = .offer s.hand.counter o.number (.visit r) ∧ x.destination = 15)) ∧
     (o.takes = [] → 2 ≤ it.offerCount → r.next = .fuel ∨ r.next = .wash →
       ∃ t, exec .takeWaitEnd s = .next t ∧ t.steady = s.steady ∧ t.still = s.still ∧
         ∃ i, t.item? o.key = some i ∧ i.ready = s.clock.m ∧ i.lastNumber = 0 ∧
           i.cargo = .visit (if r.next = .fuel then
               { r with fuelOutcome := some .skipped, litres := 0, next := if r.washRequest = .none then .berth else .wash }
             else { r with washOutcome := some .skipped, next := .berth })) ∧
     (o.takes = [] → 2 ≤ it.offerCount → r.next = .berth → s.loader.reports.length < Config.reportCapacity →
       ∃ t, exec .takeWaitEnd s = .next t ∧ t.steady = s.steady ∧ t.still = s.still ∧
         (∃ i, t.item? o.key = some i ∧ i.ready = s.clock.m + s.image.strandedRetry ∧ i.lastNumber = 0 ∧
           i.offerCount = 0 ∧ i.cargo = .visit r) ∧
         (∃ x ∈ t.loader.reports, x.body = .stranded r.bus r.cls r.duty.departure) ∧
         (∀ place, it.place = some place → t.guide place = { code := .hold, bus := some r.bus })))

/-- The end of the take wait of a SWAP offer. With a TAKE heard, the best one is committed: the request leaves the
outbound list, no guidance output changes, and the asking bus is bound to the run of the head given in exchange, with
the other carriers of that run unbound, or is unbound where the head was a spare or a CALLED entry carries that run;
its substituted flag is set and its ask state is NONE; a wall minute of that run in the missing hour of a forward
shift is reported TIME_ADJUSTED. With none heard for a first offer, the request (its bus not being a head that is due)
is offered again under a fresh number that supersedes the old one. With none heard for a re-offer the request leaves
too, the asking bus keeps its run, its ask state becomes REFUSED, and BLOCKED is reported with cause NO_SWAP. That the
asking bus is the one that asks, where a further PARKED entry carries the run, is the model's choice (log entry 52);
that a pinned carrier of the head's run is unbound too is the model's reading of R148 beside R15 (log entry 60) (R10,
R14, R27, R28, R29, R148, R149). -/
def Obligations.SwapOffersRebindOrAreRefused : Prop :=
  ∀ (s : State) (o : OpenOffer) (i : OutItem) (q : SwapRequest) (n : Nat) (x : LaneEntry), s.active = true →
    s.hand.offer = some o → o.phase = .takeWait → o.key = .swapRun q.run → s.item? o.key = some i → i.cargo = .swap q →
    s.asker? q.run = some (n, x) → s.entriesDistinct →
    (∀ (k : HeardTake) (h : HeadFields), k ∈ o.takes →
      (∀ u ∈ o.takes, u = k ∨ k.value < u.value ∨ (k.value = u.value ∧ k.source < u.source)) → k.head = some h →
      ∃ t, exec .takeWaitEnd s = .next t ∧ t.steady = s.steady ∧ t.still = s.still ∧
        (∀ j ∈ t.hand.outbound, j.key ≠ o.key) ∧ (∀ o', t.hand.offer = some o' → o'.key ≠ o.key) ∧
        t.field.codes = s.field.codes ∧
        (∀ e ∈ t.laneEntries, e.visit.bus = x.visit.bus → e.ask = .none ∧ e.visit.duty.substituted = true) ∧
        (∀ wall, h.run ≠ 0 → s.runCalled h.run = false → h.wall = some wall →
          (∀ r ∈ t.visits, r.bus = x.visit.bus → r.duty =
            { state := .bound, run := h.run, wall := some wall,
              departure := convertWall s.clock.shift s.clock.change wall, pinned := false, substituted := true }) ∧
          (∀ r ∈ t.visits, r.bus ≠ x.visit.bus → r.duty.run ≠ h.run) ∧ s.adjustedBy t x.visit.bus h.run wall) ∧
        (h.run = 0 ∨ s.runCalled h.run = true → t.loader.reports = s.loader.reports ∧
          ∀ e ∈ t.laneEntries, e.visit.bus = x.visit.bus →
            e.visit.duty = { state := .spare, run := 0, wall := none, departure := 1499, pinned := false,
                             substituted := true })) ∧
    (o.takes = [] → i.offerCount = 1 → s.inService = true → 1 ≤ s.hand.counter → s.canPlace .normal = true →
      x.isDue s.image.callLead s.clock.m = false ∨
        (∃ l e rest, s.lanes[n]? = some l ∧ l.entries = e :: rest ∧ e.visit.bus ≠ x.visit.bus) →
      ∃ t, exec .takeWaitEnd s = .next t ∧ t.steady = s.steady ∧ t.still = s.still ∧
        t.hand.offer = some { o with phase := .reofferQueued, reNumber := s.hand.counter } ∧
        t.hand.counter = (if 255 ≤ s.hand.counter then 1 else s.hand.counter + 1) ∧
        (∃ j, t.item? o.key = some j ∧ j.offerCount = 2 ∧ j.cargo = .swap q) ∧
        (∃ y ∈ t.line.transmit, y.body = .offer s.hand.counter o.number (.swap q) ∧ y.destination = 15) ∧
        (∀ e ∈ t.laneEntries, e.isFront = true → e.visit.bus = x.visit.bus → e.ask = .asking ∧ e.visit = x.visit)) ∧
    (o.takes = [] → 2 ≤ i.offerCount →
      ∃ t, exec .takeWaitEnd s = .next t ∧ t.steady = s.steady ∧ t.still = s.still ∧
        (∀ j ∈ t.hand.outbound, j.key ≠ o.key) ∧ (∀ o', t.hand.offer = some o' → o'.key ≠ o.key) ∧
        (∀ e ∈ t.laneEntries, e.isFront = true → e.visit.bus = x.visit.bus → e.ask = .refused ∧ e.visit = x.visit) ∧
        (s.loader.reports.length < Config.reportCapacity → ∃ r ∈ t.loader.reports,
          r.body = .blocked x.visit.bus q.run n x.visit.duty.departure .noSwap))

/-- Lane heads in exchanges. The node's own SWAP TAKE heard makes its bid entry leave and marks the head bus with the
tag, the run taken and the value, but for a bid that a rollover has passed; where the take wait has ended before, the mark
ends in the same event, and where no CALLED entry carries the run, with its binding. A PARKED head that a SWAP bid names or
that is marked, or that asks while the node's own offer for its run is in BIDDING or TAKE WAIT, is not called. One
that asks and is not kept so is called when due, and its request leaves, with an open offer of it. At the end of a
take mark whose run no CALLED entry carries, its bus is bound to the taken run, with the substituted flag, in every
place, and every other carrier of the run is unbound, a pinned one too, which is the model's reading of R147 beside R15
(log entry 60); the mark is gone, and TIME_ADJUSTED is reported where the conversion falls in the missing hour. Where a
CALLED entry carries the run at that end, where a better TAKE for the tag is heard, and where an OFFER that supersedes the
tag or carries it anew is heard, the mark ends without a binding: every bus of a lane keeps its run, and a marked head that
is due and that nothing else keeps is called in the same event. A TAKE that is not better leaves the mark of a head as it
is (R10, R24, R34, R37, R131, R133, R134, R135, R142, R146, R147, R152). -/
def Obligations.TakeMarksHoldTheirHeads : Prop :=
  let released : State → State → LaneEntry → Prop := fun s t e =>
    (∀ x ∈ t.laneEntries, x.visit.bus = e.visit.bus → x.mark = none) ∧
    (∀ y ∈ s.laneEntries, y.isFront = true → ∃ x ∈ t.laneEntries, x.isFront = true ∧ x.visit = y.visit) ∧
    (∀ x ∈ t.laneEntries, x.isFront = true → ∃ y ∈ s.laneEntries, x.visit = y.visit) ∧
    (∀ (n : Nat) (l : Lane) (rest : List LaneEntry), s.lanes[n]? = some l → l.entries = e :: rest →
      s.inService = true → e.state = .parked →
      e.ask ≠ .asking → e.visit.duty.state = .bound → e.visit.duty.departure ≤ s.clock.m + s.image.callLead →
      (∀ b ∈ s.hand.bids, ∀ h, b.head = some h → h.bus ≠ e.visit.bus) →
      ∃ l' : Lane, t.lanes[n]? = some l' ∧ l'.entries.head? = some { e with state := .called, mark := none })
  (∀ (s : State) (tag : Tag) (e : LaneEntry) (k : TakeMark) (wall : Nat), s.active = true →
     s.marked? tag = some e → e.mark = some k → k.wall = some wall → k.run ≠ 0 → s.runCalled k.run = false →
     ∃ t, exec (.takeMarkEnd tag) s = .next t ∧ t.steady = s.steady ∧ t.still = s.still ∧
       (∀ r ∈ t.visits, r.bus = e.visit.bus →
         r.duty = { state := .bound, run := k.run, wall := some wall,
                    departure := convertWall s.clock.shift s.clock.change wall, pinned := false, substituted := true }) ∧
       (∀ r ∈ t.visits, r.bus ≠ e.visit.bus → r.duty.run ≠ k.run) ∧
       (∀ x ∈ t.laneEntries, x.visit.bus = e.visit.bus → x.mark = none ∧ x.ask = .none) ∧
       s.adjustedBy t e.visit.bus k.run wall) ∧
  (∀ (s : State) (tag : Tag) (e : LaneEntry) (k : TakeMark), s.active = true → s.marked? tag = some e →
     e.mark = some k → s.runCalled k.run = true → s.entriesDistinct →
     ∃ t, exec (.takeMarkEnd tag) s = .next t ∧ t.steady = s.steady ∧ t.still = s.still ∧
       t.loader.reports = s.loader.reports ∧ released s t e) ∧
  (∀ (s : State) (f : RxFrame) (source : Nat) (g : TakeFields) (e : LaneEntry) (k : TakeMark), s.accepts f .take source →
     takeFields f.payload s.clock.dayLength = some g → g.tag.holder ≠ s.loader.address → s.marked? g.tag = some e →
     e.mark = some k → e.isFront = true → s.entriesDistinct →
     ∃ t, exec (.take f) s = .next t ∧ t.steady = s.steady ∧ t.still = s.heard.still ∧
       t.loader.reports = s.loader.reports ∧
       (g.value < k.value ∨ (g.value = k.value ∧ source < s.loader.address) → released s t e) ∧
       (k.value < g.value ∨ (g.value = k.value ∧ s.loader.address < source) →
         (∀ l ∈ s.lanes, ∀ y ∈ l.entries.drop 1, y.mark = none) →
         ∃ x ∈ t.laneEntries, x.visit = e.visit ∧ x.mark = some k)) ∧
  (∀ (s : State) (f : RxFrame) (h : Nat) (g : OfferFields) (tag : Tag) (e : LaneEntry), s.accepts f .offer h →
     offerFields f.payload s.clock.dayLength = some g → s.marked? tag = some e → e.isFront = true →
     s.entriesDistinct → tag = { holder := h, number := g.number } ∨
       (g.supersedes ≠ 0 ∧ tag = { holder := h, number := g.supersedes }) →
     ∃ t, exec (.offer f) s = .next t ∧ t.steady = s.steady ∧ t.still = s.heard.still ∧
       t.loader.reports = s.loader.reports ∧ released s t e) ∧
  (∀ (s : State) (x : TxFrame) (tag : Tag) (bus v n : Nat) (res : Resource) (h : HeadFields) (b : BidEntry)
      (q : SwapRequest) (l : Lane) (e : LaneEntry) (rest : List LaneEntry), s.active = true →
    s.line.transmit.find? (fun y => y.sending) = some x → x.body = .take tag bus v res (some h) →
    tag.holder ≠ s.loader.address →
    s.hand.bids.find? (fun y => decide (y.tag = tag) && decide (y.state = .taken)) = some b → b.head = some h →
    b.asked = some q → s.lanes[n]? = some l → l.entries = e :: rest → e.state = .parked →
    e.visit.bus = h.bus → s.entriesDistinct →
    ∃ t, exec .frameHeard s = .next t ∧ t.steady = s.steady ∧ (∀ y ∈ t.hand.bids, y.tag ≠ tag) ∧
      (b.waitOver = false → ∀ y ∈ t.laneEntries, y.isFront = true → y.visit.bus = h.bus → y.visit = e.visit ∧
        (b.noBinding = false → y.mark = some { tag := tag, run := q.run, wall := q.wall, departure := q.departure,
                                               value := b.value }) ∧
        (b.noBinding = true → y.mark = e.mark)) ∧
      (∀ wall, b.waitOver = true → b.noBinding = false → s.marked? tag = none → q.wall = some wall → q.run ≠ 0 →
        s.runCalled q.run = false →
        (∀ r ∈ t.visits, r.bus = h.bus →
          r.duty = { state := .bound, run := q.run, wall := some wall,
                     departure := convertWall s.clock.shift s.clock.change wall, pinned := false, substituted := true }) ∧
        (∀ r ∈ t.visits, r.bus ≠ h.bus → r.duty.run ≠ q.run) ∧
        (∀ y ∈ t.laneEntries, y.visit.bus = h.bus → y.mark = none ∧ y.ask = .none) ∧
        s.adjustedBy t h.bus q.run wall)) ∧
  (∀ (s : State) (n : Nat) (l : Lane) (e : LaneEntry) (rest : List LaneEntry), s.minuteLive = true →
    s.lanes[n]? = some l → l.entries = e :: rest → e.state = .parked → (l.entries.map (fun y => y.visit.bus)).Nodup →
    e.mark.isSome = true ∨ (∃ b ∈ s.hand.bids, ∃ h, b.head = some h ∧ h.bus = e.visit.bus) ∨
      (e.ask = .asking ∧ ∃ o, s.hand.offer = some o ∧ o.key = .swapRun e.visit.duty.run ∧
        (o.phase = .bidding ∨ o.phase = .takeWait)) →
    ∃ t, exec .callTimeDue s = .next t ∧ ∃ l', t.lanes[n]? = some l' ∧ l'.entries.head? = some e) ∧
  (∀ (s : State) (n : Nat) (l : Lane) (e : LaneEntry) (rest : List LaneEntry), s.minuteLive = true →
    s.lanes[n]? = some l → l.state ≠ .unknown → l.entries = e :: rest → e.state = .parked → e.ask = .asking →
    e.visit.duty.state = .bound → e.visit.duty.departure ≤ s.clock.m + s.image.callLead → s.headWaits n = false →
    s.entriesDistinct → (∀ y ∈ s.laneEntries, y.visit.duty.run = e.visit.duty.run → y = e) →
    (∀ o, s.hand.offer = some o → ∃ i ∈ s.hand.outbound, i.key = o.key) →
    ∃ t, exec .callTimeDue s = .next t ∧ ∃ l', t.lanes[n]? = some l' ∧
      l'.entries.head? = some { e with state := .called } ∧
      (∀ i ∈ t.hand.outbound, i.key ≠ .swapRun e.visit.duty.run) ∧
      (∀ o, t.hand.offer = some o → o.key ≠ .swapRun e.visit.duty.run))

/-! ## Strays and records -/

/-- A STRAY of another station makes the node give the bus up everywhere: its bids, its EXPECTED entries and its
records go, its open offer of the bus is cancelled, no report is placed, and the record it held in its outbound list,
in a queue out of service, or PARKED or CALLED in a lane, the one place that holds it, is sent to the STRAY's source,
before an OFFER that follows takes a place in the transmit queue, which is the model's choice (log entry 62) (R39,
R41). That it does so for every place octet, an unlisted code among them, is the model's reading of R39, which uses no
place, and R192 (log entry 15). -/
def Obligations.StrayMakesTheNodeGiveTheBusUp : Prop :=
  ∀ (s : State) (f : RxFrame) (source b : Nat), s.accepts f .stray source → b = pairAt f.payload 0 →
    s.lanes.length ≤ 6 →
    ∃ t, exec (.stray f) s = .next t ∧ t.steady = s.steady ∧ t.still = s.heard.still ∧
      t.loader.reports = s.loader.reports ∧
      (∀ e ∈ t.hand.bids, e.stage ≠ .swap → e.bus ≠ b) ∧
      (∀ e ∈ t.hand.bids, ∀ h, e.head = some h → h.bus ≠ b) ∧
      (∀ i ∈ t.hand.outbound, i.key ≠ .bus b) ∧ (∀ o, t.hand.offer = some o → o.key ≠ .bus b) ∧
      (∀ e ∈ t.laneEntries, e.visit.bus = b → e.state = .tentative) ∧
      (∀ p, ∀ e ∈ (t.point p).queue, e.visit.bus = b → e.state = .tentative) ∧
      (let sent := fun (r : VisitRecord) => s.canPlace .normal = true →
         ∃ x ∈ t.line.transmit, x.body = .record r ∧ x.destination = source ∧ x.cls = .normal
       (∀ i r, s.item? (.bus b) = some i → i.cargo = .visit r → sent r) ∧
       (∀ p, ∀ e ∈ (s.point p).queue, e.visit.bus = b → e.isFront = true → e.state ≠ .serving →
         s.item? (.bus b) = none →
         (∀ q, ∀ x ∈ (s.point q).queue, x.visit.bus = b → x.isFront = true → q = p ∧ x = e) → sent e.visit) ∧
       (∀ e ∈ s.laneEntries, e.visit.bus = b → e.isFront = true → s.item? (.bus b) = none →
         (∀ q, ∀ x ∈ (s.point q).queue, x.visit.bus = b → x.isFront = false) →
         (∀ x ∈ s.laneEntries, x.visit.bus = b → x.isFront = true → x = e) → sent e.visit))

/-- A RECORD gives the entry that awaits it class, duty, outcomes and litres, clears the mark, and unbinds every other
carrier of its run; where a CALLED entry carries the run the entry is unbound instead, and that this asks for a CALLED
entry of another bus is the model's reading (log entry 25); that a RECORD to destination 15 counts too is its choice
(log entry 54). A PARKED or CALLED entry that it pins asks no longer, and no SWAP bid names its bus and no take mark stands
on it: R15 lets no pinned run be moved, and that this ends an asking and an exchange is the model's choice (log entries 57
and 58). Where a lane entry's class changes, the lane is marked OVERFULL and reported so if its buses no longer fit, and
else not marked. With no entry awaiting it, nothing changes (R15, R42, R49, R63). -/
def Obligations.RecordFillsTheAwaitingEntry : Prop :=
  ∀ (s : State) (f : RxFrame) (source : Nat) (r : VisitRecord), s.accepts f .record source →
    visitFields f.payload s.clock.dayLength = some r →
    let taken := fun (v : VisitRecord) (d : Duty) =>
      { v with cls := r.cls, duty := d, fuelOutcome := r.fuelOutcome, litres := r.litres, washOutcome := r.washOutcome }
    let clash := r.duty.run ≠ 0 ∧ ∃ e ∈ s.laneEntries, e.state = .called ∧ e.visit.duty.run = r.duty.run ∧
      e.visit.bus ≠ r.bus
    let unbound : Duty :=
      { state := .spare, run := 0, wall := none, departure := 1499, pinned := false, substituted := false }
    ((∀ e ∈ s.laneEntries, e.visit.bus = r.bus → e.recordAwaited = none) →
      (∀ p, ∀ e ∈ (s.point p).queue, e.visit.bus = r.bus → e.recordAwaited = none) →
      exec (.record f) s = .next s.heard) ∧
    (∀ n e, (∀ p, ∀ x ∈ (s.point p).queue, x.visit.bus = r.bus → x.recordAwaited = none) →
      s.laneAwaiting? r.bus = some n → s.laneEntry? n r.bus = some e →
      ∃ t, exec (.record f) s = .next t ∧ t.steady = s.steady ∧ t.still = s.heard.still ∧
        (∃ e', t.laneEntry? n r.bus = some e' ∧ e'.recordAwaited = none ∧
          (¬ clash → e'.visit = taken e.visit r.duty) ∧ (clash → e'.visit = taken e.visit unbound) ∧
          (¬ clash → r.duty.pinned = true → e'.isFront = true → e'.ask ≠ .asking ∧ e'.mark = none ∧
            ∀ b ∈ t.hand.bids, ∀ h, b.head = some h → h.bus ≠ r.bus)) ∧
        (∃ l, s.lanes[n]? = some l ∧ ∃ l', t.lanes[n]? = some l' ∧ l'.state = l.state ∧
          (r.cls = e.visit.cls → l'.overfull = l.overfull) ∧
          (r.cls ≠ e.visit.cls →
            (l'.overfull = true ↔ s.image.laneLengthOf n < l'.occupied s.image) ∧
            (s.image.laneLengthOf n < l'.occupied s.image → s.loader.reports.length < Config.reportCapacity →
              ∃ x ∈ t.loader.reports,
                x.body = .overfull n r.bus (l'.occupied s.image) (s.image.laneLengthOf n) false))) ∧
        (¬ clash → r.duty.run ≠ 0 → ∀ v ∈ t.visits, v.bus ≠ r.bus → v.duty.run ≠ r.duty.run) ∧
        (∀ p, (t.point p).state = (s.point p).state ∧ (t.point p).queue.length = (s.point p).queue.length)) ∧
    (∀ p, (∃ x ∈ (s.point p).queue, x.visit.bus = r.bus ∧ x.recordAwaited.isSome = true) →
      (p = .p1 → ∀ x ∈ s.point0.queue, x.visit.bus = r.bus → x.recordAwaited = none) →
      ∃ t, exec (.record f) s = .next t ∧ t.steady = s.steady ∧ t.still = s.heard.still ∧
        ∀ x ∈ (t.point p).queue, x.visit.bus = r.bus → x.recordAwaited = none ∧
          ∃ y ∈ (s.point p).queue, y.visit.bus = r.bus ∧ (¬ clash → x.visit = taken y.visit r.duty) ∧
            (clash → x.visit = taken y.visit unbound))

/-- A bus read at a lane's entry with no entry there, held nowhere else in the node and bid for by none of its bids,
becomes a PARKED entry with the spare defaults, a stray that awaits its RECORD, behind the buses that stand there, with
a STRAY to every station and a STRAY report. In a lane that holds 16 entries the pending entry nearest the tail first
makes place, with its bid, and with a MISSING report where it is EXPECTED; where all 16 are PARKED or CALLED no entry is
made, and the lane is marked OVERFULL and reported so, with the flag that the bus is not listed. A bus whose record the
node holds elsewhere is PARKED at the same place with all fields of that record but next_stage and the stray flag, and
no RECORD is awaited: the node gives the record up at its old place and cancels its open offer of the bus. A bus that
the node holds no record of but expects elsewhere is PARKED with the fields of that EXPECTED entry and awaits its
RECORD: the EXPECTED entry goes, with no MISSING. In both cases the node's bids for the bus go. That with the open offer
an OFFER of an earlier, cancelled offer of the bus goes too is the model's choice (log entry 59). That class, fuel_level
and wash_request are then not those of the tag report is the model's reading of R38 beside R156 (log entry 61) (R18,
R20, R38, R61, R62). -/
def Obligations.UnknownBusIsParkedAsAStray : Prop :=
  let noBid : State → Nat → Prop := fun u b => ∀ x ∈ u.hand.bids, (x.stage ≠ .swap → x.bus ≠ b) ∧
    ∀ h, x.head = some h → h.bus ≠ b
  let inserted : State → State → Lane → Nat → TagFields → VisitRecord → Option Nat → Prop := fun s u l n g v awaited =>
    ∃ l' : Lane, u.lanes[n]? = some l' ∧ l'.state = l.state ∧
      (l'.entries.filter LaneEntry.isFront).map (fun e => e.visit)
        = (l.entries.filter LaneEntry.isFront).map (fun e => e.visit) ++ [v] ∧
      List.Sublist ((l'.entries.filter (fun e => !e.isFront)).map (fun e => e.visit))
        ((l.entries.filter (fun e => !e.isFront)).map (fun e => e.visit)) ∧
      (s.bidTagsOf g.bus = [] → l'.entries.map (fun e => e.visit)
        = (l.entries.filter LaneEntry.isFront).map (fun e => e.visit) ++ [v] ++
          (l.entries.filter (fun e => !e.isFront)).map (fun e => e.visit)) ∧
      ∃ e ∈ l'.entries, e.visit = v ∧ e.tag = none ∧ e.value = none ∧ e.deadline = none ∧ e.unconfirmed = false ∧
        e.recordAwaited = awaited ∧ (s.bidTagsOf g.bus = [] → e.state = .parked)
  (∀ (s : State) (t : TagOctets) (now n : Nat) (g : TagFields) (l : Lane), s.active = true → tagFields t = some g →
     readerRole g.reader = .laneEntry n → n < s.image.laneCount → isRepeat s.field.filter[g.reader] g.bus now = false →
     s.lanes[n]? = some l → l.state ≠ .unknown → l.entries.length < Config.laneCapacity →
     (∀ e ∈ s.laneEntries, e.visit.bus ≠ g.bus) → (∀ p, ∀ e ∈ (s.point p).queue, e.visit.bus ≠ g.bus) →
     s.item? (.bus g.bus) = none → s.bidTagsOf g.bus = [] →
     ∃ u, exec (.tagReport t now) s = .next u ∧
       (∃ l', u.lanes[n]? = some l' ∧
         l'.entries.map (fun e => e.visit)
           = (l.entries.filter LaneEntry.isFront).map (fun e => e.visit) ++
             [{ bus := g.bus, cls := g.cls, fuelLevel := g.fuel, washRequest := g.wash, gateMinute := s.clock.m,
                next := .parked, duty := { state := .spare, run := 0, wall := none, departure := 1499, pinned := false,
                                           substituted := false },
                fuelOutcome := none, litres := 0, washOutcome := none, stray := true }] ++
             (l.entries.filter (fun e => !e.isFront)).map (fun e => e.visit) ∧
         ∃ e ∈ l'.entries, e.visit.bus = g.bus ∧ e.state = .parked ∧ e.tag = none ∧ e.unconfirmed = false ∧
           e.recordAwaited = some (s.clock.m + s.image.expectedTimeout)) ∧
       (s.canPlace .urgent = true → ∃ x ∈ u.line.transmit, x.body = .stray g.bus (.lane n) ∧ x.destination = 15 ∧
         x.cls = .urgent) ∧
       (s.loader.reports.length + 1 < Config.reportCapacity →
         ∃ x ∈ u.loader.reports, x.body = .stray g.bus (.lane n) .awaited) ∧
       (∀ p, u.point p = s.point p) ∧ u.clock = s.clock ∧ u.timeline = s.timeline ∧
       u.field.filter = s.field.filter.set g.reader (some { bus := g.bus, time := now })) ∧
  (∀ (s : State) (t : TagOctets) (now n : Nat) (g : TagFields) (l : Lane), s.active = true → tagFields t = some g →
    readerRole g.reader = .laneEntry n → n < s.image.laneCount → isRepeat s.field.filter[g.reader] g.bus now = false →
    s.lanes[n]? = some l → l.state ≠ .unknown → l.entries.length = Config.laneCapacity →
    (∀ x ∈ l.entries, x.visit.bus ≠ g.bus) → (l.entries.map (fun x => x.visit.bus)).Nodup →
    ((∀ x ∈ l.entries, x.isFront = true) →
      ∃ u, exec (.tagReport t now) s = .next u ∧ (∀ p, u.point p = s.point p) ∧ u.clock = s.clock ∧
        (∃ l', u.lanes[n]? = some l' ∧ l'.overfull = true ∧
          l'.entries.map (fun x => x.visit) = l.entries.map (fun x => x.visit)) ∧
        (s.loader.reports.length < Config.reportCapacity → ∃ x ∈ u.loader.reports,
          x.body = .overfull n g.bus (l.occupied s.image) (s.image.laneLengthOf n) true) ∧
        (∀ x ∈ u.loader.reports, x ∈ s.loader.reports ∨ ∃ k bus o len listed, x.body = .overfull k bus o len listed)) ∧
    (∀ e, (l.entries.filter (fun x => !x.isFront)).getLast? = some e →
      (∀ x ∈ s.laneEntries, x.visit.bus ≠ g.bus) → (∀ p, ∀ x ∈ (s.point p).queue, x.visit.bus ≠ g.bus) →
      s.item? (.bus g.bus) = none → s.bidTagsOf g.bus = [] →
      ∃ u, exec (.tagReport t now) s = .next u ∧ (∀ p, u.point p = s.point p) ∧ u.clock = s.clock ∧
        (∃ l', u.lanes[n]? = some l' ∧
          l'.entries.map (fun x => x.visit.bus)
            = (l.entries.filter LaneEntry.isFront).map (fun x => x.visit.bus) ++ [g.bus] ++
              ((l.entries.filter (fun x => !x.isFront)).dropLast).map (fun x => x.visit.bus)) ∧
        (∀ tag, e.tag = some tag → (∀ b ∈ u.hand.bids, b.tag ≠ tag) ∧
          ∀ x ∈ u.line.transmit, x.body.isClaimOf tag = true → x.sending = true) ∧
        (s.loader.reports.length + 2 < Config.reportCapacity →
          (∃ x ∈ u.loader.reports, x.body = .stray g.bus (.lane n) .awaited) ∧
          (e.state = .expected → ∃ x ∈ u.loader.reports, x.body = .missing e.visit.bus (.lane n) e.tag) ∧
          (e.state = .tentative → ∀ x ∈ u.loader.reports, x ∈ s.loader.reports ∨
            ∀ bus place tag, x.body ≠ .missing bus place tag)))) ∧
  (∀ (s : State) (t : TagOctets) (now n : Nat) (g : TagFields) (l : Lane) (r : VisitRecord), s.active = true →
    tagFields t = some g → readerRole g.reader = .laneEntry n → n < s.image.laneCount →
    isRepeat s.field.filter[g.reader] g.bus now = false → s.lanes[n]? = some l → l.state ≠ .unknown →
    l.entries.length < Config.laneCapacity → (∀ e ∈ l.entries, e.visit.bus ≠ g.bus) → s.entriesDistinct →
    r.bus = g.bus → s.holdsElsewhere r (.lane n) →
    ∃ u, exec (.tagReport t now) s = .next u ∧ u.clock = s.clock ∧ u.timeline = s.timeline ∧
      inserted s u l n g { r with next := .parked, stray := true } none ∧ s.gaveUp u g.bus (.lane n) ∧ noBid u g.bus ∧
      (s.line.transmit.length + s.line.muted.toList.length + 3 ≤ Config.transmitCapacity →
        ∃ x ∈ u.line.transmit, x.body = .stray g.bus (.lane n) ∧ x.destination = 15 ∧ x.cls = .urgent) ∧
      (s.loader.reports.length + 1 < Config.reportCapacity →
        ∃ x ∈ u.loader.reports, x.body = .stray g.bus (.lane n) .notAwaited)) ∧
  (∀ (s : State) (t : TagOctets) (now n : Nat) (g : TagFields) (l : Lane) (r : VisitRecord), s.active = true →
    tagFields t = some g → readerRole g.reader = .laneEntry n → n < s.image.laneCount →
    isRepeat s.field.filter[g.reader] g.bus now = false → s.lanes[n]? = some l → l.state ≠ .unknown →
    l.entries.length < Config.laneCapacity → (∀ e ∈ l.entries, e.visit.bus ≠ g.bus) →
    (∀ r', r'.bus = g.bus → ¬ s.holdsElsewhere r' (.lane n)) → r.bus = g.bus → s.expectsElsewhere r (.lane n) →
    (∀ r', r'.bus = g.bus → s.expectsElsewhere r' (.lane n) → r' = r) →
    ∃ u, exec (.tagReport t now) s = .next u ∧ u.clock = s.clock ∧ u.timeline = s.timeline ∧
      inserted s u l n g { r with next := .parked, stray := true } (some (s.clock.m + s.image.expectedTimeout)) ∧
      noBid u g.bus ∧ (∀ e ∈ u.laneEntries, e.visit.bus = g.bus → e.state ≠ .expected) ∧
      (∀ p, ∀ e ∈ (u.point p).queue, e.visit.bus = g.bus → e.state ≠ .expected) ∧
      (s.canPlace .urgent = true → ∃ x ∈ u.line.transmit, x.body = .stray g.bus (.lane n) ∧ x.destination = 15 ∧
        x.cls = .urgent) ∧
      (s.loader.reports.length + 1 < Config.reportCapacity →
        (∃ x ∈ u.loader.reports, x.body = .stray g.bus (.lane n) .awaited) ∧
        ∀ x ∈ u.loader.reports, x ∈ s.loader.reports ∨ ∀ bus place tag, x.body ≠ .missing bus place tag))

/-! ## Tag reports -/

/-- What becomes of a tag report before its reader's owner. One with a bad CRC, a reader index above 16, a bus outside
1–9999 or an unlisted wash request, one of a reader that is not configured, and a repeat within 20 s change nothing
but the report being assembled (the second at which a report ends comes with the command, and one below the second
held counts as a repeat, which is the model's choice: log entry 32); so do a loop timeout and a framing error. An
accepted gate read goes through the four tests of R157: without a set clock NO_CLOCK and HOLD; for a bus the node
holds, nothing; with a full outbound list GATE_FULL and HOLD; and otherwise a record with its creation fields, which
joins the outbound list ready at m with place GATE, an ARRIVE to every station, and a blank display (R11, R18, R19,
R153, R154, R155, R157, R158, R167). That the ARRIVE is placed before the OFFER of the record is the model's choice (log
entry 68). -/
def Obligations.TagAndGateReadsByTheirTests : Prop :=
  (∀ (s : State), s.active = true →
     let dropped : State := { s with field := { s.field with loopPartial := [] } }
     exec .tagReportTimeout s = .next dropped ∧ exec .loopFramingError s = .next dropped ∧
     (∀ (t : TagOctets) (now : Nat),
       (crc8 [t.reader, t.busHigh, t.busLow, t.busClass, t.fuel, t.wash] ≠ t.check ∨ 16 < t.reader.toNat ∨
         t.busHigh.toNat * 256 + t.busLow.toNat = 0 ∨ 9999 < t.busHigh.toNat * 256 + t.busLow.toNat ∨
         2 < t.wash.toNat) → exec (.tagReport t now) s = .next dropped) ∧
     (∀ (t : TagOctets) (now : Nat) (g : TagFields), tagFields t = some g →
       (s.isConfigured (readerRole g.reader) = false ∨
         ∃ x, s.field.filter[g.reader] = some x ∧ x.bus = g.bus ∧ now < x.time + 20) →
       exec (.tagReport t now) s = .next dropped)) ∧
  (∀ (s : State) (t : TagOctets) (now : Nat) (g : TagFields), s.active = true → tagFields t = some g →
     g.reader.val = 0 → s.image.gateReader = true → isRepeat s.field.filter[g.reader] g.bus now = false →
     let filter := s.field.filter.set g.reader (some { bus := g.bus, time := now })
     let held := (s.item? (.bus g.bus)).isSome = true ∨ (∃ e ∈ s.laneEntries, e.visit.bus = g.bus) ∨
       ∃ p, ∃ e ∈ (s.point p).queue, e.visit.bus = g.bus
     (s.clock.isSet = false → s.loader.reports.length < Config.reportCapacity →
       ∃ u, exec (.tagReport t now) s = .next u ∧ u.field.filter = filter ∧
         u.field.gate = { code := .hold, bus := some g.bus } ∧ u.hand = s.hand ∧ u.lanes = s.lanes ∧
         (∀ p, u.point p = s.point p) ∧ ∃ x ∈ u.loader.reports, x.body = .noClock g.bus 0) ∧
     (s.clock.isSet = true → held →
       exec (.tagReport t now) s = .next { s with field := { s.field with loopPartial := [], filter := filter } }) ∧
     (s.clock.isSet = true → ¬ held → Config.outboundCapacity ≤ s.hand.outbound.length →
       s.loader.reports.length < Config.reportCapacity →
       ∃ u, exec (.tagReport t now) s = .next u ∧ u.field.filter = filter ∧
         u.field.gate = { code := .hold, bus := some g.bus } ∧ u.hand = s.hand ∧ u.lanes = s.lanes ∧
         (∀ p, u.point p = s.point p) ∧ ∃ x ∈ u.loader.reports, x.body = .gateFull g.bus g.cls) ∧
     (s.clock.isSet = true → ¬ held → s.hand.outbound.length < Config.outboundCapacity →
       ∃ u, exec (.tagReport t now) s = .next u ∧ u.field.filter = filter ∧
         u.field.gate = { code := .blank, bus := none } ∧ u.lanes = s.lanes ∧ (∀ p, u.point p = s.point p) ∧
         u.hand.bids = s.hand.bids ∧ u.hand.outbound.length = s.hand.outbound.length + 1 ∧
         (∃ i ∈ u.hand.outbound, i.ready = s.clock.m ∧ i.joinOrder = s.hand.joins ∧ i.place = some .gate ∧
           i.cargo = .visit
             { bus := g.bus, cls := g.cls, fuelLevel := g.fuel, washRequest := g.wash, gateMinute := s.clock.m,
               next := if g.fuel < s.image.threshold then .fuel else if g.wash = .none then .berth else .wash,
               duty := { state := .awaited, run := 0, wall := none, departure := 1499, pinned := false,
                         substituted := false },
               fuelOutcome := if g.fuel < s.image.threshold then none else some .notWanted, litres := 0,
               washOutcome := if g.wash = .none then some .notWanted else none, stray := false }) ∧
         (s.canPlace .normal = true → ∃ x ∈ u.line.transmit,
           x.body = .arrive g.bus g.cls g.fuel g.wash s.clock.m ∧ x.destination = 15 ∧ x.cls = .normal)))

/-- Reads at a service point, its guidance output aside: an entry read of a bus already in the front part changes
nothing; the EXPECTED bus becomes WAITING behind the buses that were read there, and the point tests for a start, or,
at a washing lane in FAULT, is FINISHED for WASH and asks to join the outbound list; where the node itself holds the
record of that bus elsewhere, the entry takes that record's fields and the node gives the record up at its old place
(that it does so for every such place is the model's reading: log entry 17; that an OFFER of an earlier, cancelled
offer of the bus goes with its open offer is its choice: log entry 59); a WAITING bus read at the exit leaves
unserved, its record SKIPPED for the stage and on its way to the next; so does an EXPECTED bus read at the exit, with
no start test between its arrival and its leaving and, at a washing lane in FAULT, with one join alone, which is the
model's reading (log entries 18 and 19), and with none there while it awaits a RECORD. The bus in service read at a
fuel point's exit ends the service, with the outcome of its litres or SKIPPED where the nozzle was never lifted: the
enable goes off, the record joins the outbound list or waits FINISHED where that is full, and the point leaves
SERVING, and CLEARING too once nothing else holds it there. At a washing lane's exit the bus in service is counted as
having left. An exit read of the served bus in CLEARING is counted toward the end of CLEARING; that this is so also
where the queue holds a new WAITING entry of it, which then leaves unserved, is the model's reading (log entry 38). An
exit read of a bus with no entry is counted so for the served bus in CLEARING, and changes nothing for any other (R93,
R94, R97, R99, R101, R102, R103, R104, R119, R120, R123, R124). -/
def Obligations.PointReadsFollowTheQueue : Prop :=
  (∀ (s : State) (t : TagOctets) (now : Nat) (g : TagFields) (p : PointId), s.active = true → tagFields t = some g →
    (s.pointImage p).kind ≠ .none → isRepeat s.field.filter[g.reader] g.bus now = false →
    (s.point p).entry? g.bus = none → readerRole g.reader = .pointExit p →
    let v := s.point p
    ((v.state ≠ .clearing ∨ v.served ≠ some g.bus) →
      ∃ u, exec (.tagReport t now) s = .next u ∧ u = { s with field := u.field } ∧ u.field.lamps = s.field.lamps ∧
        u.field.detectors = s.field.detectors ∧ u.guide (.point p) = { code := .blank, bus := none }) ∧
    (v.state = .clearing → v.served = some g.bus →
      ∃ u, exec (.tagReport t now) s = .next u ∧ u.point p.other = s.point p.other ∧ u.lanes = s.lanes ∧
        (v.startOutput ≠ .off ∨ (∃ x ∈ v.queue, x.justServed = true) → u.point p = { v with left := true }) ∧
        (v.startOutput = .off → (∀ x ∈ v.queue, x.justServed = false) →
          u.point p = ((s.setPoint p { v with
            state := if v.faultPending then .fault else .idle, faultPending := false, served := none
            left := false }).startTest p).point p))) ∧
  ∀ (s : State) (t : TagOctets) (now : Nat) (g : TagFields) (p : PointId) (e : QueueEntry), s.active = true →
    tagFields t = some g → (s.pointImage p).kind ≠ .none → isRepeat s.field.filter[g.reader] g.bus now = false →
    (s.point p).entry? g.bus = some e → ((s.point p).queue.map (fun x => x.visit.bus)).Nodup →
    (readerRole g.reader = .pointEntry p → e.isFront = true →
      ∃ u, exec (.tagReport t now) s = .next u ∧ u = { s with field := u.field } ∧ u.field.lamps = s.field.lamps ∧
        u.field.detectors = s.field.detectors ∧
        ((s.guide (.point p)).bus = some g.bus → u.field.codes = s.field.codes) ∧
        ((s.guide (.point p)).bus ≠ some g.bus → u.guide (.point p) = { code := .blank, bus := none })) ∧
    (readerRole g.reader = .pointEntry p → e.state = .expected → (∀ b ∈ s.hand.bids, e.tag ≠ some b.tag) →
      s.ownRecord? g.bus (.point p) = none →
      ∃ u, exec (.tagReport t now) s = .next u ∧
        (let front := (s.point p).queue.filter (fun x => x.isFront)
         let others := (s.point p).queue.filter (fun x => !x.isFront && decide (x.visit.bus ≠ g.bus))
         let waiting : QueueEntry := { e with state := .waiting, tag := none, value := none, deadline := none }
         let passed : QueueEntry :=
           { waiting with state := .finished, visit := { e.visit with next := .wash }, passedOn := true }
         let place := fun (q : List QueueEntry) => { s.point p with queue := q }
         let faulted := (s.pointImage p).kind = .wash ∧ (s.point p).state = .fault
         (¬ faulted → u.point p = ((s.setPoint p (place (front ++ [waiting] ++ others))).startTest p).point p) ∧
         ((s.point p).state = .busy ∨ (s.point p).state = .clearing →
           u.point p = place (front ++ [waiting] ++ others)) ∧
         (faulted → e.recordAwaited = none → s.hand.outbound.length < Config.outboundCapacity →
           u.point p = place (front ++ others) ∧
           ∃ i ∈ u.hand.outbound, i.ready = s.clock.m ∧ i.place = some (.point p) ∧ i.cargo = .visit passed.visit) ∧
         (faulted → e.recordAwaited ≠ none ∨ Config.outboundCapacity ≤ s.hand.outbound.length →
           u.point p = place (front ++ [passed] ++ others))) ∧
        u.point p.other = s.point p.other ∧ u.clock = s.clock ∧ u.timeline = s.timeline ∧
        u.loader.reports = s.loader.reports) ∧
    (∀ r, readerRole g.reader = .pointEntry p → e.state = .expected → (∀ b ∈ s.hand.bids, e.tag ≠ some b.tag) →
      s.entriesDistinct → r.bus = g.bus → s.holdsElsewhere r (.point p) →
      ∃ u, exec (.tagReport t now) s = .next u ∧ u.clock = s.clock ∧ u.timeline = s.timeline ∧
        u.loader.reports = s.loader.reports ∧
        (let front := (s.point p).queue.filter (fun x => x.isFront)
         let others := (s.point p).queue.filter (fun x => !x.isFront && decide (x.visit.bus ≠ g.bus))
         let stage : NextStage := match (s.pointImage p).kind with | .wash => .wash | _ => .fuel
         let waiting : QueueEntry := { e with
           visit := { r with next := stage }, state := .waiting, tag := none, value := none, deadline := none }
         let place := fun (q : List QueueEntry) => { s.point p with queue := q }
         let given := s.giveUpRecord g.bus (.point p)
         let faulted := (s.pointImage p).kind = .wash ∧ (s.point p).state = .fault
         (¬ faulted →
           u.point p = ((given.setPoint p (place (front ++ [waiting] ++ others))).startTest p).point p) ∧
         (¬ faulted → (s.point p).state ≠ .idle →
           u.point p = place (front ++ [waiting] ++ others) ∧ s.gaveUp u g.bus (.point p)) ∧
         (faulted → e.recordAwaited = none → given.hand.outbound.length < Config.outboundCapacity →
           u.point p = place (front ++ others) ∧
           ∃ i ∈ u.hand.outbound, i.ready = s.clock.m ∧ i.place = some (.point p) ∧ i.cargo = .visit waiting.visit) ∧
         (faulted → e.recordAwaited ≠ none ∨ Config.outboundCapacity ≤ given.hand.outbound.length →
           u.point p = place (front ++ [{ waiting with state := .finished, passedOn := true }] ++ others) ∧
           s.gaveUp u g.bus (.point p))) ∧
        (∀ x ∈ u.laneEntries, x.isFront = true → x.visit.bus ≠ g.bus) ∧
        (∀ x ∈ (u.point p.other).queue, x.isFront = true → x.visit.bus ≠ g.bus)) ∧
    (readerRole g.reader = .pointExit p → e.state = .waiting → s.hand.outbound.length < Config.outboundCapacity →
      (s.point p).state ≠ .clearing ∨ (s.point p).served ≠ some g.bus →
      ∃ u, exec (.tagReport t now) s = .next u ∧
        u.point p = { s.point p with queue := (s.point p).queue.filter (fun x => decide (x.visit.bus ≠ g.bus)) } ∧
        u.point p.other = s.point p.other ∧ u.lanes = s.lanes ∧ u.clock = s.clock ∧ u.timeline = s.timeline ∧
        u.loader.reports = s.loader.reports ∧ u.guide (.point p) = { code := .blank, bus := none } ∧
        ∃ i ∈ u.hand.outbound, i.ready = s.clock.m ∧ i.place = some (.point p) ∧
          i.cargo = .visit (match (s.pointImage p).kind with
            | .fuel => { e.visit with
                fuelOutcome := some .skipped, litres := 0
                next := if e.visit.washRequest = .none then .berth else .wash }
            | _ => { e.visit with washOutcome := some .skipped, next := .berth })) ∧
    (∀ sv, readerRole g.reader = .pointExit p → (s.pointImage p).kind = .fuel → e.state = .serving →
      (s.point p).serving? = some e → (s.point p).service = some sv →
      ∃ u, exec (.tagReport t now) s = .next u ∧ u.point p.other = s.point p.other ∧ u.lanes = s.lanes ∧
        u.clock = s.clock ∧ u.timeline = s.timeline ∧ u.loader.reports = s.loader.reports ∧
        (let served : VisitRecord := { e.visit with
           fuelOutcome := some (if sv.lifted = false then .skipped
             else if 9 * sv.needed / 10 ≤ (s.point p).delivered then .done else .part)
           litres := (s.point p).delivered
           next := if e.visit.washRequest = .none then .berth else .wash }
         let others := (s.point p).queue.filter (fun x => decide (x.visit.bus ≠ g.bus))
         let ended : Point := { s.point p with
           state := .clearing, service := none, enable := false, qualifies := false, served := some g.bus, left := true }
         (Config.outboundCapacity ≤ s.hand.outbound.length → u.hand = s.hand ∧ u.point p = { ended with
           queue := (s.point p).queue.map (fun x => if x.visit.bus = g.bus then
             { e with state := .finished, visit := served, justServed := true } else x) }) ∧
         (s.hand.outbound.length < Config.outboundCapacity →
           (∀ x ∈ (u.point p).queue, x.visit.bus ≠ g.bus) ∧
           (∃ i ∈ u.hand.outbound, i.ready = s.clock.m ∧ i.place = some (.point p) ∧ i.cargo = .visit served) ∧
           ((s.point p).startOutput ≠ .off ∨ (∃ x ∈ others, x.justServed = true) →
             u.point p = { ended with queue := others }) ∧
           ((s.point p).startOutput = .off → (∀ x ∈ others, x.justServed = false) →
             (u.point p).served ≠ some g.bus ∧
             ((∀ x ∈ others, x.state ≠ .waiting) → u.point p = { ended with
               state := if (s.point p).faultPending then .fault else .idle, faultPending := false, served := none
               left := false, queue := others }))))) ∧
    (readerRole g.reader = .pointExit p → e.state = .expected → (∀ b ∈ s.hand.bids, e.tag ≠ some b.tag) →
      s.ownRecord? g.bus (.point p) = none → (s.point p).state ≠ .clearing ∨ (s.point p).served ≠ some g.bus →
      ∃ u, exec (.tagReport t now) s = .next u ∧ u.point p.other = s.point p.other ∧ u.clock = s.clock ∧
        u.timeline = s.timeline ∧ u.loader.reports = s.loader.reports ∧
        (let skipped : VisitRecord := match (s.pointImage p).kind with
           | .fuel => { e.visit with
               fuelOutcome := some .skipped, litres := 0
               next := if e.visit.washRequest = .none then .berth else .wash }
           | _ => { e.visit with washOutcome := some .skipped, next := .berth }
         let front := (s.point p).queue.filter (fun x => x.isFront)
         let others := (s.point p).queue.filter (fun x => !x.isFront && decide (x.visit.bus ≠ g.bus))
         let faulted := (s.pointImage p).kind = .wash ∧ (s.point p).state = .fault
         let waits := faulted ∧ e.recordAwaited ≠ none
         (¬ waits → s.hand.outbound.length < Config.outboundCapacity →
           u.point p = { s.point p with queue := front ++ others } ∧
           ∃ i ∈ u.hand.outbound, i.ready = s.clock.m ∧ i.place = some (.point p) ∧ i.cargo = .visit skipped) ∧
         (waits ∨ Config.outboundCapacity ≤ s.hand.outbound.length → (∀ i ∈ u.hand.outbound, i.key ≠ .bus g.bus) ∧
           u.point p = { s.point p with
             queue := front ++ [{ e with state := .finished, visit := skipped, tag := none, value := none, deadline := none
                                         passedOn := if faulted then true else e.passedOn }] ++ others }))) ∧
    (readerRole g.reader = .pointExit p → (s.pointImage p).kind = .wash → e.state = .serving →
      ∃ u, exec (.tagReport t now) s = .next u ∧ u.point p = { s.point p with left := true } ∧
        u.guide (.point p) = { code := .blank, bus := none } ∧ u.point p.other = s.point p.other ∧ u.lanes = s.lanes ∧
        u.hand = s.hand ∧ u.loader = s.loader ∧ u.line = s.line) ∧
    (readerRole g.reader = .pointExit p → (s.point p).state = .clearing → (s.point p).served = some g.bus →
      e.state = .finished ∨ (e.state = .waiting ∧ e.justServed = false ∧ s.hand.outbound.length < Config.outboundCapacity) →
      ∃ u, exec (.tagReport t now) s = .next u ∧ u.point p.other = s.point p.other ∧ u.lanes = s.lanes ∧
        u.loader.reports = s.loader.reports ∧
        ((s.point p).startOutput ≠ .off ∨ (∃ x ∈ (s.point p).queue, x.justServed = true) →
          (u.point p).state = .clearing ∧ (u.point p).served = some g.bus ∧ (u.point p).left = true) ∧
        ((s.point p).startOutput = .off → (∀ x ∈ (s.point p).queue, x.justServed = false) →
          (u.point p).served ≠ some g.bus) ∧
        (e.state = .waiting → (∀ x ∈ (u.point p).queue, x.visit.bus ≠ g.bus) ∧
          ∃ i ∈ u.hand.outbound, i.ready = s.clock.m ∧ i.place = some (.point p)))

/-- Reads of open claims and of unknown buses at a service point, in any state of it. A bus whose claim is still open
becomes WAITING behind the buses that were read there, as a stray that awaits its RECORD, with class, fuel_level and
wash_request of the tag report, and its bid entry, BID and TAKE go; a bus with no entry there, held nowhere else in the
node and bid for by none of its bids, is inserted at the same place with the spare defaults; in either case a STRAY goes
to every station and STRAY is reported. In a queue of 8 the pending entry nearest the tail first makes place, with its
bid, and with a MISSING report where it is EXPECTED; where none is pending no entry is made and STRAY is reported as not
listed. A bus whose record the node holds elsewhere, with an open claim here or with no entry, WAITS with all fields of
that record but next_stage and the stray flag, and no RECORD is awaited: the node gives the record up at its old place,
with its open offer of the bus (for an open claim the model's reading: log entry 11; that an OFFER of an earlier,
cancelled offer goes too is its choice: log entry 59). A bus with no entry here and no record, but expected elsewhere,
WAITS with the fields of that EXPECTED entry, which goes with no MISSING, and awaits its RECORD. That class, fuel_level
and wash_request are then not those of the tag report is the model's reading of R38 beside R156 (log entry 61). The
point then tests for a start; a washing lane in FAULT passes the bus on instead, FINISHED for WASH, once its RECORD has
come. A bus whose claim is open, read at the exit, is settled so and leaves unserved: its record is SKIPPED for the stage
and joins the outbound list, or waits FINISHED where that is full, with no start test between, which is the model's
reading (log entry 18). At a washing lane in FAULT it waits FINISHED for its RECORD, SKIPPED for its berth (log entries
16, 19) (R18, R20, R38, R93, R95, R96, R97, R104, R119, R120, R124). -/
def Obligations.PointClaimsAndStraysWait : Prop :=
  let announced : State → State → TagFields → PointId → Prop := fun s u g p =>
    (s.canPlace .urgent = true → ∃ x ∈ u.line.transmit, x.body = .stray g.bus (.point p) ∧ x.destination = 15 ∧
      x.cls = .urgent) ∧
    (s.loader.reports.length + 1 < Config.reportCapacity →
      ∃ x ∈ u.loader.reports, x.body = .stray g.bus (.point p) .awaited) ∧
    u.clock = s.clock ∧ u.timeline = s.timeline ∧ u.point p.other = s.point p.other
  let settled : State → QueueEntry → Prop := fun u e => ∀ tag, e.tag = some tag →
    (∀ b ∈ u.hand.bids, b.tag ≠ tag) ∧ ∀ x ∈ u.line.transmit, x.body.isClaimOf tag = true → x.sending = true
  ∀ (s : State) (t : TagOctets) (now : Nat) (g : TagFields) (p : PointId), s.active = true → tagFields t = some g →
    (s.pointImage p).kind ≠ .none → isRepeat s.field.filter[g.reader] g.bus now = false →
    ((s.point p).queue.map (fun x => x.visit.bus)).Nodup →
    let stage : NextStage := match (s.pointImage p).kind with | .wash => .wash | _ => .fuel
    let due := some (s.clock.m + s.image.expectedTimeout)
    let stray : QueueEntry :=
      { visit := { bus := g.bus, cls := g.cls, fuelLevel := g.fuel, washRequest := g.wash, gateMinute := s.clock.m,
                   next := stage, duty := { state := .spare, run := 0, wall := none, departure := 1499, pinned := false,
                                            substituted := false },
                   fuelOutcome := none, litres := 0, washOutcome := none, stray := true }
        state := .waiting, tag := none, value := none, deadline := none, recordAwaited := due, justServed := false,
        passedOn := false }
    let passed : QueueEntry → QueueEntry := fun x =>
      if (s.pointImage p).kind = .wash ∧ (s.point p).state = .fault then
        { x with state := .finished, visit := { x.visit with next := .wash }, passedOn := true }
      else x
    let tested := fun (q : List QueueEntry) => ((s.setPoint p { s.point p with queue := q }).startTest p).point p
    let front := (s.point p).queue.filter (fun x => x.isFront)
    let pending := (s.point p).queue.filter (fun x => !x.isFront)
    let unknown := (∀ x ∈ s.laneEntries, x.visit.bus ≠ g.bus) ∧ (∀ q, ∀ x ∈ (s.point q).queue, x.visit.bus ≠ g.bus) ∧
      s.item? (.bus g.bus) = none ∧ s.bidTagsOf g.bus = []
    (∀ e, (s.point p).entry? g.bus = some e →
      e.state = .tentative ∨ (e.state = .expected ∧ ∃ b ∈ s.hand.bids, e.tag = some b.tag) →
      s.ownRecord? g.bus (.point p) = none → (∀ o, s.hand.offer = some o → o.key ≠ .bus g.bus) →
      let others := pending.filter (fun x => decide (x.visit.bus ≠ g.bus))
      let waiting : QueueEntry := { e with
        visit := { e.visit with
          cls := g.cls, fuelLevel := g.fuel, washRequest := g.wash, next := stage, stray := true }
        state := .waiting, tag := none, value := none, deadline := none, recordAwaited := due }
      (readerRole g.reader = .pointEntry p →
        ∃ u, exec (.tagReport t now) s = .next u ∧ announced s u g p ∧ settled u e ∧
          u.point p = tested (front ++ [passed waiting] ++ others)) ∧
      (readerRole g.reader = .pointExit p → (s.point p).state ≠ .clearing ∨ (s.point p).served ≠ some g.bus →
        ∃ u, exec (.tagReport t now) s = .next u ∧ announced s u g p ∧ settled u e ∧
          (let skipped : VisitRecord := match (s.pointImage p).kind with
             | .fuel => { waiting.visit with
                 fuelOutcome := some .skipped, litres := 0
                 next := if g.wash = .none then .berth else .wash }
             | _ => { waiting.visit with washOutcome := some .skipped, next := .berth }
           let faulted := (s.pointImage p).kind = .wash ∧ (s.point p).state = .fault
           (¬ faulted → s.hand.outbound.length < Config.outboundCapacity →
             u.point p = { s.point p with queue := front ++ others } ∧
             ∃ i ∈ u.hand.outbound, i.ready = s.clock.m ∧ i.place = some (.point p) ∧ i.cargo = .visit skipped) ∧
           (¬ faulted → Config.outboundCapacity ≤ s.hand.outbound.length → u.point p = { s.point p with
             queue := front ++ [{ waiting with state := .finished, visit := skipped }] ++ others }) ∧
           (faulted → (∀ i ∈ u.hand.outbound, i.key ≠ .bus g.bus) ∧ u.point p = { s.point p with
             queue := front ++ [{ waiting with state := .finished, visit := skipped, passedOn := true }] ++ others })))) ∧
    (readerRole g.reader = .pointEntry p → unknown → (s.point p).queue.length < Config.queueCapacity →
      ∃ u, exec (.tagReport t now) s = .next u ∧ announced s u g p ∧
        u.loader.reports.length ≤ s.loader.reports.length + 1 ∧ u.point p = tested (front ++ [passed stray] ++ pending)) ∧
    (∀ e, readerRole g.reader = .pointEntry p → unknown → (s.point p).queue.length = Config.queueCapacity →
      pending.getLast? = some e →
      ∃ u, exec (.tagReport t now) s = .next u ∧ announced s u g p ∧ settled u e ∧
        u.point p = tested (front ++ [passed stray] ++ pending.dropLast) ∧
        (e.state = .expected → s.loader.reports.length + 1 < Config.reportCapacity →
          ∃ x ∈ u.loader.reports, x.body = .missing e.visit.bus (.point p) e.tag)) ∧
    (readerRole g.reader = .pointEntry p → unknown → Config.queueCapacity ≤ (s.point p).queue.length → pending = [] →
      ∃ u, exec (.tagReport t now) s = .next u ∧ u.point p = (s.startTest p).point p ∧
        u.point p.other = s.point p.other ∧ u.clock = s.clock ∧
        (s.loader.reports.length < Config.reportCapacity →
          ∃ x ∈ u.loader.reports, x.body = .stray g.bus (.point p) .notListed)) ∧
    (∀ r e, readerRole g.reader = .pointEntry p → s.entriesDistinct → r.bus = g.bus → s.holdsElsewhere r (.point p) →
      ((s.point p).entry? g.bus = some e ∧
          (e.state = .tentative ∨ (e.state = .expected ∧ ∃ b ∈ s.hand.bids, e.tag = some b.tag))) ∨
        ((s.point p).entry? g.bus = none ∧ e = stray ∧ (s.point p).queue.length < Config.queueCapacity ∧
          s.bidTagsOf g.bus = []) →
      let others := pending.filter (fun x => decide (x.visit.bus ≠ g.bus))
      let waiting : QueueEntry := { e with
        visit := { r with next := stage, stray := true }, state := .waiting, tag := none, value := none
        deadline := none, recordAwaited := none }
      let place := fun (q : List QueueEntry) => { s.point p with queue := q }
      let given := s.giveUpRecord g.bus (.point p)
      let faulted := (s.pointImage p).kind = .wash ∧ (s.point p).state = .fault
      ∃ u, exec (.tagReport t now) s = .next u ∧ u.clock = s.clock ∧ u.timeline = s.timeline ∧ settled u e ∧
        (s.line.transmit.length + s.line.muted.toList.length + 3 ≤ Config.transmitCapacity →
          ∃ x ∈ u.line.transmit, x.body = .stray g.bus (.point p) ∧ x.destination = 15 ∧ x.cls = .urgent) ∧
        (s.loader.reports.length < Config.reportCapacity → ∃ x ∈ u.loader.reports,
          x.body = .stray g.bus (.point p) .notAwaited) ∧
        (¬ faulted →
          u.point p = ((given.setPoint p (place (front ++ [waiting] ++ others))).startTest p).point p) ∧
        (¬ faulted → (s.point p).state ≠ .idle →
          u.point p = place (front ++ [waiting] ++ others) ∧ s.gaveUp u g.bus (.point p)) ∧
        (faulted → given.hand.outbound.length < Config.outboundCapacity →
          u.point p = place (front ++ others) ∧
          ∃ i ∈ u.hand.outbound, i.ready = s.clock.m ∧ i.place = some (.point p) ∧ i.cargo = .visit waiting.visit) ∧
        (faulted → Config.outboundCapacity ≤ given.hand.outbound.length →
          u.point p = place (front ++ [{ waiting with state := .finished, passedOn := true }] ++ others) ∧
          s.gaveUp u g.bus (.point p)) ∧
        (∀ x ∈ u.laneEntries, x.isFront = true → x.visit.bus ≠ g.bus) ∧
        (∀ x ∈ (u.point p.other).queue, x.isFront = true → x.visit.bus ≠ g.bus)) ∧
    (∀ r, readerRole g.reader = .pointEntry p → (s.point p).entry? g.bus = none →
      (s.point p).queue.length < Config.queueCapacity → s.bidTagsOf g.bus = [] →
      (∀ r', r'.bus = g.bus → ¬ s.holdsElsewhere r' (.point p)) → r.bus = g.bus → s.expectsElsewhere r (.point p) →
      (∀ r', r'.bus = g.bus → s.expectsElsewhere r' (.point p) → r' = r) →
      ∃ u, exec (.tagReport t now) s = .next u ∧ u.clock = s.clock ∧ u.timeline = s.timeline ∧
        u.point p = tested (front ++ [passed { stray with visit := { r with next := stage, stray := true } }] ++ pending) ∧
        u.point p.other = { s.point p.other with queue := (s.point p.other).queue.filter (fun x =>
          !(decide (x.visit.bus = g.bus) && decide (x.state = .expected))) } ∧
        (∀ x ∈ u.laneEntries, x.visit.bus = g.bus → x.state ≠ .expected) ∧
        (s.canPlace .urgent = true → ∃ x ∈ u.line.transmit, x.body = .stray g.bus (.point p) ∧ x.destination = 15 ∧
          x.cls = .urgent) ∧
        (s.loader.reports.length < Config.reportCapacity →
          (∃ x ∈ u.loader.reports, x.body = .stray g.bus (.point p) .awaited) ∧
          ∀ x ∈ u.loader.reports, x ∈ s.loader.reports ∨ ∀ bus place tag, x.body ≠ .missing bus place tag))

/-- Reads at a lane. The EXPECTED bus becomes PARKED behind the buses that stand there; a bus listed there already moves
behind the others, keeps its state, where every SWAP bid names the PARKED head of its lane (R145), and is confirmed
again (a CALLED one too, as the model reads R59 beside R133: log entry 50); where the lane's head was not held (R135) no
entry of the lane is called by that, whether or not an ASKING head waits for the node's own offer (R134, R142). One
whose claim is still open is PARKED too, as a stray that awaits its RECORD, with class, fuel_level and wash_request of
the tag report, and the claim is settled: bid entry, BID and TAKE go. All this is so whether the lane's head is held or
not. Where the node itself holds the record of the arriving bus elsewhere, the entry takes that record's fields and the
node gives the record up at its old place, with its open offer of the bus; one whose claim was open is a stray all the
same, and then awaits no RECORD and takes nothing of the tag report (the model's reading: log entries 11, 17 and 61); that
with the open offer an OFFER of an earlier, cancelled offer of the bus goes too is the model's choice (log entry 59). An
entry read at an UNKNOWN lane changes nothing there. A listed bus read at the exit leaves with a GONE that carries its
record, the exit minute and the late and early flags, a pending one too, with its bid; the buses that stood in front of
a PARKED or CALLED one are marked unconfirmed, and no other; a bus with no entry there gets a GONE with the unlisted
flag and changes no entry. That the GONE is placed before what the departure brings about on heads and swap requests is the
model's choice (log entry 64) (R20, R58, R59, R60, R64, R65, R66, R70, R134, R137, R138). -/
def Obligations.LaneReadsFollowTheList : Prop :=
  ∀ (s : State) (t : TagOctets) (now n : Nat) (g : TagFields) (l : Lane), s.active = true → tagFields t = some g →
    n < s.image.laneCount → isRepeat s.field.filter[g.reader] g.bus now = false → s.lanes[n]? = some l →
    (readerRole g.reader = .laneEntry n → l.state = .unknown →
      exec (.tagReport t now) s = .next { s with field := { s.field with
        loopPartial := [], filter := s.field.filter.set g.reader (some { bus := g.bus, time := now }) } }) ∧
    (∀ e, readerRole g.reader = .laneEntry n → l.state ≠ .unknown →
      l.entries.find? (fun x => decide (x.visit.bus = g.bus)) = some e → e.state = .expected →
      (∀ b ∈ s.hand.bids, e.tag ≠ some b.tag) → s.ownRecord? g.bus (.lane n) = none →
      ∃ u, exec (.tagReport t now) s = .next u ∧ u.clock = s.clock ∧ u.timeline = s.timeline ∧
        u.loader.reports = s.loader.reports ∧
        ∃ l', u.lanes[n]? = some l' ∧ l'.state = l.state ∧
          l'.entries.map (fun x => x.visit)
            = ((l.entries.filter (fun x => decide (x.visit.bus ≠ g.bus) && x.isFront)).map (fun x => x.visit)) ++
              [e.visit] ++
              ((l.entries.filter (fun x => decide (x.visit.bus ≠ g.bus) && !x.isFront)).map (fun x => x.visit)) ∧
          ∃ x ∈ l'.entries, x.visit = e.visit ∧ x.state = .parked ∧ x.tag = none ∧ x.value = none ∧ x.deadline = none) ∧
    (∀ e, readerRole g.reader = .laneEntry n → l.state ≠ .unknown →
      l.entries.find? (fun x => decide (x.visit.bus = g.bus)) = some e → e.isFront = true →
      ∃ u, exec (.tagReport t now) s = .next u ∧ u.clock = s.clock ∧ u.timeline = s.timeline ∧
        u.loader.reports = s.loader.reports ∧ (∀ p, u.point p = s.point p) ∧
        ∃ l', u.lanes[n]? = some l' ∧ l'.state = l.state ∧ l'.overfull = l.overfull ∧
          l'.entries.map (fun x => x.visit)
            = ((l.entries.filter (fun x => decide (x.visit.bus ≠ g.bus) && x.isFront)).map (fun x => x.visit)) ++
              [e.visit] ++
              ((l.entries.filter (fun x => decide (x.visit.bus ≠ g.bus) && !x.isFront)).map (fun x => x.visit)) ∧
          (s.headHeld n = false → l'.entries.map (fun x => x.state)
            = ((l.entries.filter (fun x => decide (x.visit.bus ≠ g.bus) && x.isFront)).map (fun x => x.state)) ++
              [e.state] ++
              ((l.entries.filter (fun x => decide (x.visit.bus ≠ g.bus) && !x.isFront)).map (fun x => x.state))) ∧
          ∃ x ∈ l'.entries, x.visit = e.visit ∧ x.unconfirmed = false ∧ x.recordAwaited = e.recordAwaited ∧
            x.ask = e.ask ∧
            (s.headHeld n = false ∨ (∃ y ∈ l.entries, y.isFront = true ∧ y.visit.bus ≠ g.bus) ∨
              (∀ b ∈ s.hand.bids, ∀ h, b.head = some h → s.isParkedHead b.resource h.bus = true) → x.state = e.state)) ∧
    (∀ e, readerRole g.reader = .laneEntry n → l.state ≠ .unknown →
      l.entries.find? (fun x => decide (x.visit.bus = g.bus)) = some e →
      e.state = .tentative ∨ (e.state = .expected ∧ ∃ b ∈ s.hand.bids, e.tag = some b.tag) →
      s.ownRecord? g.bus (.lane n) = none → (∀ o, s.hand.offer = some o → o.key ≠ .bus g.bus) →
      let v : VisitRecord := { e.visit with
        cls := g.cls, fuelLevel := g.fuel, washRequest := g.wash, next := .parked, stray := true }
      ∃ u, exec (.tagReport t now) s = .next u ∧ u.clock = s.clock ∧ u.timeline = s.timeline ∧
        (∀ p, u.point p = s.point p) ∧
        (∃ l', u.lanes[n]? = some l' ∧ l'.state = l.state ∧
          l'.entries.map (fun x => x.visit)
            = ((l.entries.filter (fun x => decide (x.visit.bus ≠ g.bus) && x.isFront)).map (fun x => x.visit)) ++
              [v] ++
              ((l.entries.filter (fun x => decide (x.visit.bus ≠ g.bus) && !x.isFront)).map (fun x => x.visit)) ∧
          ∃ x ∈ l'.entries, x.visit = v ∧ x.state = .parked ∧
            x.tag = none ∧ x.value = none ∧ x.deadline = none ∧
            x.recordAwaited = some (s.clock.m + s.image.expectedTimeout)) ∧
        (∀ tag, e.tag = some tag → (∀ b ∈ u.hand.bids, b.tag ≠ tag) ∧
          ∀ x ∈ u.line.transmit, x.body.isClaimOf tag = true → x.sending = true) ∧
        (s.canPlace .urgent = true → ∃ x ∈ u.line.transmit, x.body = .stray g.bus (.lane n) ∧ x.destination = 15 ∧
          x.cls = .urgent) ∧
        (s.loader.reports.length < Config.reportCapacity →
          ∃ x ∈ u.loader.reports, x.body = .stray g.bus (.lane n) .awaited)) ∧
    (∀ e r, readerRole g.reader = .laneEntry n → l.state ≠ .unknown →
      l.entries.find? (fun x => decide (x.visit.bus = g.bus)) = some e → e.state = .tentative ∨ e.state = .expected →
      s.entriesDistinct → r.bus = g.bus → s.holdsElsewhere r (.lane n) →
      let claimed := e.state = .tentative ∨ ∃ b ∈ s.hand.bids, e.tag = some b.tag
      ∃ u, exec (.tagReport t now) s = .next u ∧ u.clock = s.clock ∧ u.timeline = s.timeline ∧
        s.gaveUp u g.bus (.lane n) ∧
        (∃ l', u.lanes[n]? = some l' ∧ l'.state = l.state ∧ ∃ v : VisitRecord,
          (¬ claimed → v = { r with next := .parked }) ∧ (claimed → v = { r with next := .parked, stray := true }) ∧
          l'.entries.map (fun x => x.visit)
            = ((l.entries.filter (fun x => decide (x.visit.bus ≠ g.bus) && x.isFront)).map (fun x => x.visit)) ++ [v] ++
              ((l.entries.filter (fun x => decide (x.visit.bus ≠ g.bus) && !x.isFront)).map (fun x => x.visit)) ∧
          ∃ x ∈ l'.entries, x.visit = v ∧ x.state = .parked ∧ x.tag = none ∧ x.value = none ∧ x.deadline = none ∧
            (¬ claimed → x.recordAwaited = e.recordAwaited) ∧ (claimed → x.recordAwaited = none)) ∧
        (¬ claimed → r.cls = e.visit.cls → u.loader.reports = s.loader.reports) ∧
        (claimed →
          (∀ tag, e.tag = some tag → (∀ b ∈ u.hand.bids, b.tag ≠ tag) ∧
            ∀ x ∈ u.line.transmit, x.body.isClaimOf tag = true → x.sending = true) ∧
          (s.line.transmit.length + s.line.muted.toList.length + 3 ≤ Config.transmitCapacity →
            ∃ x ∈ u.line.transmit, x.body = .stray g.bus (.lane n) ∧ x.destination = 15 ∧ x.cls = .urgent) ∧
          (s.loader.reports.length + 1 < Config.reportCapacity →
            ∃ x ∈ u.loader.reports, x.body = .stray g.bus (.lane n) .notAwaited))) ∧
    (∀ e, readerRole g.reader = .laneExit n →
      l.entries.find? (fun x => decide (x.visit.bus = g.bus)) = some e →
      ∃ u, exec (.tagReport t now) s = .next u ∧ u.clock = s.clock ∧ u.timeline = s.timeline ∧
        u.lateRuns = s.lateRuns ∧ u.loader.reports = s.loader.reports ∧ (∀ p, u.point p = s.point p) ∧
        (∃ l', u.lanes[n]? = some l' ∧ l'.entries.map (fun x => x.visit)
          = (l.entries.filter (fun x => decide (x.visit.bus ≠ g.bus))).map (fun x => x.visit) ∧
          (e.isFront = false → l'.entries.map (fun x => x.unconfirmed)
            = (l.entries.filter (fun x => decide (x.visit.bus ≠ g.bus))).map (fun x => x.unconfirmed)) ∧
          (∀ ahead back, e.isFront = true → l.entries = ahead ++ e :: back → (∀ x ∈ ahead ++ back, x.visit.bus ≠ g.bus) →
            l'.entries.map (fun x => x.unconfirmed)
              = ahead.map (fun x => x.isFront || x.unconfirmed) ++ back.map (fun x => x.unconfirmed))) ∧
        (e.isFront = false → ∀ tag, e.tag = some tag → (∀ b ∈ u.hand.bids, b.tag ≠ tag) ∧
          ∀ x ∈ u.line.transmit, x.body.isClaimOf tag = true → x.sending = true) ∧
        (s.canPlace .normal = true → ∃ x ∈ u.line.transmit, x.destination = 15 ∧
          x.body = .gone e.visit n s.clock.m
            (decide (e.visit.duty.state = .bound) && decide (e.visit.duty.departure < s.clock.m))
            (decide (e.visit.duty.state = .bound) && decide (e.state ≠ .called)) false)) ∧
    (readerRole g.reader = .laneExit n → (∀ x ∈ l.entries, x.visit.bus ≠ g.bus) →
      ∃ u, exec (.tagReport t now) s = .next u ∧ u.lanes = s.lanes ∧ u.hand = s.hand ∧
        (∀ p, u.point p = s.point p) ∧ u.loader.reports = s.loader.reports ∧
        (s.canPlace .normal = true → ∃ x ∈ u.line.transmit, x.destination = 15 ∧ ∃ r : VisitRecord,
          x.body = .gone r n s.clock.m false false true ∧ r.bus = g.bus ∧ r.cls = g.cls ∧ r.duty.run = 0 ∧
          r.fuelOutcome = none ∧ r.washOutcome = none))

/-! ## Detectors, dispensers and displays -/

/-- A live level follows its pin; the debounce timer of a present detector of a running debouncer runs exactly while
live and debounced level differ. A debounce that completes takes the live level and raises the change to its owner;
with no timer running, or an absent detector, nothing changes. An active key, an occupied point, an inactive
lane-clear and an inactive DONE change the level alone; an active lane-clear opens an UNKNOWN lane with an empty list;
a lifted nozzle is seen by a running service. That DEBOUNCE_COMPLETE changes nothing where no timer runs is the
model's choice for a command that ends a time which does not run (log entry 5) (R71, R98, R160, R161, R162). -/
def Obligations.DetectorChangesReachTheirOwners : Prop :=
  (∀ (s : State) (pin : Pin) (level : Bool),
     let d := s.detector pin
     (d.live = level → exec (.detectorLevelChange pin level) s = .next s) ∧
     (d.live ≠ level → ∃ t, exec (.detectorLevelChange pin level) s = .next t ∧
       t.detector pin = { live := level, debounced := d.debounced,
                          timer := if s.active && s.isPresent pin then decide (level ≠ d.debounced) else d.timer } ∧
       (∀ other, other ≠ pin → t.detector other = s.detector other) ∧
       t = { s with field := { s.field with detectors := t.field.detectors } })) ∧
  (∀ (s : State) (pin : Pin),
     let d := s.detector pin
     let moved := s.setDetector pin { live := d.live, debounced := d.live, timer := false }
     (d.timer = false ∨ s.isPresent pin = false ∨ d.live = d.debounced → exec (.debounceComplete pin) s = .next s) ∧
     (s.active = true → s.isPresent pin = true → d.timer = true → d.live ≠ d.debounced →
       (pin = .maintenanceKey ∨ (∃ p, pin = .occupied p ∧ d.live = true) ∨ (∃ n, pin = .laneClear n ∧ d.live = false) ∨
           (∃ p, pin = .machineA p ∧ (s.pointImage p).kind = .wash ∧ d.live = false) →
         exec (.debounceComplete pin) s = .next moved) ∧
       (∀ (n : Fin 6) (l : Lane), pin = .laneClear n → d.live = true → s.lanes[n.val]? = some l → l.state = .unknown →
         ∃ t, exec (.debounceComplete pin) s = .next t ∧
           t.lanes = s.lanes.set n.val { state := .opened, entries := [], overfull := false } ∧
           t = { moved with lanes := t.lanes, field := { moved.field with lamps := t.field.lamps } }) ∧
       (∀ p sv, pin = .machineA p → (s.pointImage p).kind = .fuel → d.live = true → (s.point p).state = .busy →
         (s.point p).service = some sv →
         exec (.debounceComplete pin) s
           = .next (moved.setPoint p { s.point p with service := some { sv with lifted := true } }))))

/-- Lane-clear becoming active in an OPEN or CLOSED lane: every PARKED and CALLED entry leaves, the ones marked
unconfirmed with a GONE at m and the others with a MISSING report without a tag; TENTATIVE and EXPECTED entries stay
as they are, the OVERFULL mark goes where the lane lost an entry and what stays fits, and no other lane changes its
list (R49, R72, R137, R138). That the GONE frames are placed before what the departures bring about on heads and swap
requests is the model's choice (log entry 64). -/
def Obligations.LaneClearEmptiesTheLane : Prop :=
  ∀ (s : State) (n : Fin 6) (l : Lane), s.active = true → s.isPresent (.laneClear n) = true →
    (s.detector (.laneClear n)).live = true → (s.detector (.laneClear n)).debounced = false →
    (s.detector (.laneClear n)).timer = true → s.lanes[n.val]? = some l → l.state ≠ .unknown →
    let front := l.entries.filter (fun x => x.isFront)
    ∃ t, exec (.debounceComplete (.laneClear n)) s = .next t ∧ t.steady = s.steady ∧ (∀ p, t.point p = s.point p) ∧
      (∃ l', t.lanes[n.val]? = some l' ∧ l'.state = l.state ∧
        l'.entries.map (fun x => (x.visit, x.state, x.tag, x.value, x.deadline))
          = (l.entries.filter (fun x => !x.isFront)).map (fun x => (x.visit, x.state, x.tag, x.value, x.deadline)) ∧
        (l'.overfull = true ↔ l.overfull = true ∧
          (front = [] ∨ s.image.laneLengthOf n.val < l'.occupied s.image))) ∧
      (∀ k, k ≠ n.val → (t.lanes[k]?).map (fun x => (x.state, x.overfull, x.entries.map (fun e => e.visit)))
        = (s.lanes[k]?).map (fun x => (x.state, x.overfull, x.entries.map (fun e => e.visit)))) ∧
      (s.loader.reports.length + front.length ≤ Config.reportCapacity →
        ∃ new, t.loader.reports = s.loader.reports ++ new ∧
          (new.map (fun r => r.body)).Perm ((front.filter (fun x => !x.unconfirmed)).map
            (fun x => .missing x.visit.bus (.lane n.val) none))) ∧
      (s.line.transmit.length + s.line.muted.toList.length + front.length ≤ Config.transmitCapacity →
        ∀ e ∈ front, e.unconfirmed = true → ∃ x ∈ t.line.transmit, x.destination = 15 ∧
          x.body = .gone e.visit n.val s.clock.m
            (decide (e.visit.duty.state = .bound) && decide (e.visit.duty.departure < s.clock.m))
            (decide (e.visit.duty.state = .bound) && decide (e.state ≠ .called)) false)

/-- The nozzle hung after it was lifted ends a fuel service, DONE or PARTIAL by its litres, and the record joins for
its next stage; before that, or with no service, the minute no longer qualifies and nothing more changes.
Point-occupied becoming clear counts the served bus as having left: CLEARING ends, for FAULT where one is pending and
else for IDLE with the start test, once the FINISHED entry has left the queue and no start output is on; at a washing
lane that cycles it is remembered. A STRAY for the bus in service ends the service at once: a fuel point turns the
enable off and sends the record with the litres so far and no outcome; a washing lane keeps its machine running, its
cycle orphaned, and sends the record with no outcome; a fuel point that is clear already leaves CLEARING in the same
event; the lanes stay as they are where only the head of a lane carries a take mark and every SWAP bid names the
PARKED head of its lane (R145, R146) (R19, R39, R40, R99, R102, R103, R105, R123, R127). That the STRAY has its effect
for every place octet, an unlisted code among them, is the model's reading (log entry 15), and that the RECORD is
placed before an OFFER that follows is its choice (log entry 62). -/
def Obligations.ServicesEndByHangingUpAndBeingLeft : Prop :=
  (∀ (s : State) (p : PointId), s.active = true → (s.pointImage p).kind = .fuel →
    (s.detector (.machineA p)).live = false → (s.detector (.machineA p)).debounced = true →
    (s.detector (.machineA p)).timer = true →
    let moved := s.setDetector (.machineA p) { live := false, debounced := false, timer := false }
    ((s.point p).state ≠ .busy ∨ (s.point p).service = none ∨
        (∃ sv, (s.point p).service = some sv ∧ sv.lifted = false) →
      exec (.debounceComplete (.machineA p)) s = .next (moved.setPoint p { s.point p with qualifies := false })) ∧
    (∀ sv e, (s.point p).state = .busy → (s.point p).service = some sv → sv.lifted = true →
      (s.point p).serving? = some e → ((s.point p).queue.map (fun x => x.visit.bus)).Nodup →
      s.level (.occupied p) = true → s.hand.outbound.length < Config.outboundCapacity →
      ∃ t, exec (.debounceComplete (.machineA p)) s = .next t ∧ t.point p.other = s.point p.other ∧ t.lanes = s.lanes ∧
        t.point p = { s.point p with
          state := .clearing, service := none, enable := false, qualifies := false, served := some e.visit.bus
          left := false, queue := (s.point p).queue.filter (fun x => decide (x.visit.bus ≠ e.visit.bus)) } ∧
        ∃ i ∈ t.hand.outbound, i.ready = s.clock.m ∧ i.place = some (.point p) ∧
          i.cargo = .visit { e.visit with
            fuelOutcome := some (if 9 * sv.needed / 10 ≤ (s.point p).delivered then .done else .part)
            litres := (s.point p).delivered
            next := if e.visit.washRequest = .none then .berth else .wash })) ∧
  (∀ (s : State) (p : PointId), s.active = true → (s.pointImage p).kind ≠ .none →
    (s.detector (.occupied p)).live = false → (s.detector (.occupied p)).debounced = true →
    (s.detector (.occupied p)).timer = true →
    let moved := s.setDetector (.occupied p) { live := false, debounced := false, timer := false }
    let v := s.point p
    (v.state = .clearing → v.startOutput = .off → (∀ x ∈ v.queue, x.justServed = false) →
      exec (.debounceComplete (.occupied p)) s = .next ((moved.setPoint p { v with
        state := if v.faultPending then .fault else .idle, faultPending := false, served := none
        left := false }).startTest p)) ∧
    (v.state = .clearing → v.startOutput ≠ .off ∨ (∃ x ∈ v.queue, x.justServed = true) →
      exec (.debounceComplete (.occupied p)) s = .next (moved.setPoint p { v with left := true })) ∧
    (v.state = .busy → (s.pointImage p).kind = .wash →
      exec (.debounceComplete (.occupied p)) s = .next (moved.setPoint p { v with left := true })) ∧
    (v.state = .idle ∨ v.state = .fault ∨ (v.state = .busy ∧ (s.pointImage p).kind = .fuel) →
      exec (.debounceComplete (.occupied p)) s = .next moved)) ∧
  (∀ (s : State) (f : RxFrame) (source : Nat) (p : PointId) (e : QueueEntry), s.accepts f .stray source →
    e ∈ (s.point p).queue → e.state = .serving → e.visit.bus = pairAt f.payload 0 →
    ((s.point p).queue.map (fun x => x.visit.bus)).Nodup →
    (∀ x ∈ (s.point p.other).queue, x.visit.bus ≠ e.visit.bus) → (∀ x ∈ s.laneEntries, x.visit.bus ≠ e.visit.bus) →
    s.item? (.bus e.visit.bus) = none → s.bidTagsOf e.visit.bus = [] →
    (∀ l ∈ s.lanes, ∀ x ∈ l.entries.drop 1, x.mark = none) →
    (∀ b ∈ s.hand.bids, ∀ h, b.head = some h → s.isParkedHead b.resource h.bus = true) →
    let sent := fun (t : State) (r : VisitRecord) => s.canPlace .normal = true →
      ∃ x ∈ t.line.transmit, x.body = .record r ∧ x.destination = source ∧ x.cls = .normal
    let queue := (s.point p).queue.filter (fun x => decide (x.visit.bus ≠ e.visit.bus))
    let ended : Point := { s.point p with
      state := .clearing, service := none, enable := false, qualifies := false, served := some e.visit.bus, left := false
      queue := queue, cycle := (s.point p).cycle.map (fun c => { c with advance := false }) }
    ((s.pointImage p).kind = .fuel →
      ∃ t, exec (.stray f) s = .next t ∧ t.lanes = s.lanes ∧ t.point p.other = s.point p.other ∧
        t.loader.reports = s.loader.reports ∧
        sent t { e.visit with litres := (s.point p).delivered, fuelOutcome := none } ∧
        (s.level (.occupied p) = true → t.point p = ended) ∧
        (s.level (.occupied p) = false → (s.point p).startOutput = .off → (∀ x ∈ queue, x.justServed = false) →
          (∀ x ∈ queue, x.state ≠ .waiting) → t.point p = { ended with
            state := if (s.point p).faultPending then .fault else .idle, faultPending := false, served := none })) ∧
    ((s.pointImage p).kind = .wash → (s.point p).startOutput ≠ .off →
      ∃ t, exec (.stray f) s = .next t ∧ t.lanes = s.lanes ∧ t.point p.other = s.point p.other ∧
        t.loader.reports = s.loader.reports ∧ sent t { e.visit with washOutcome := none } ∧
        t.point p = { ended with left := (s.point p).left || !s.level (.occupied p) }))

/-- A flow pulse at a SERVING fuel point is counted, moves the delivered litres up to 999, and turns the enable off at
the cap; every other pulse changes nothing. A display transfer that ends shows its codes; a further one with the codes
now set starts where a code was set while it ran; that DISPLAY_TRANSFER_END changes nothing with no transfer running
is the model's choice for a command that ends a time which does not run (log entry 5). The measurement of a completed
interval that qualifies moves the rate a quarter of the way to the flow measured, held within 1–250, and counts a
minute without a pulse as dry, up to the 3 that make a fault; one that does not qualify leaves the rate and sets the
dry minutes to 0. The next interval begins with no pulse and qualifies where the point serves with its enable on and
its nozzle lifted (R98, R105, R106, R163, R194). -/
def Obligations.PulsesAndDisplaysFollowTheirRules : Prop :=
  (∀ (s : State) (p : PointId),
     (s.active = false ∨ (s.pointImage p).kind ≠ .fuel ∨ (s.point p).state ≠ .busy ∨ (s.point p).service = none →
       exec (.flowPulse p) s = .next s) ∧
     (∀ sv, s.active = true → (s.pointImage p).kind = .fuel → (s.point p).state = .busy → (s.point p).service = some sv →
       let litres := min 999 (((s.point p).servicePulses + 1) / (s.pointImage p).pulsesPerLitre)
       exec (.flowPulse p) s = .next (s.setPoint p { s.point p with
         servicePulses := (s.point p).servicePulses + 1
         delivered := litres
         minutePulses := min 65535 ((s.point p).minutePulses + 1)
         enable := (s.point p).enable && decide (litres < sv.cap)
         qualifies := (s.point p).qualifies && ((s.point p).enable && decide (litres < sv.cap)) }))) ∧
  (∀ s : State,
     (s.field.transfer = none → exec .displayTransferEnd s = .next s) ∧
     (∀ codes, s.field.transfer = some codes →
       exec .displayTransferEnd s = .next { s with field := { s.field with
         shown := codes
         transfer := if s.field.again then
           some { gate := s.field.gate.code, point0 := s.field.point0.code, point1 := s.field.point1.code } else none
         again := false } })) ∧
  (∀ (s : State) (p : PointId), (s.pointImage p).kind = .fuel →
     let v := s.point p
     let w := (s.measureFlow p).point p
     s.measureFlow p = s.setPoint p w ∧ w = { v with rate := w.rate, dryMinutes := w.dryMinutes } ∧
     (v.qualifies = true →
       heldTo 1 250 ((3 * v.rate + v.minutePulses / (s.pointImage p).pulsesPerLitre) / 4) w.rate ∧
       w.dryMinutes = if v.minutePulses = 0 then min 3 (v.dryMinutes + 1) else 0) ∧
     (v.qualifies = false → w.rate = v.rate ∧ w.dryMinutes = 0) ∧
     s.beginInterval p = s.setPoint p { v with
       minutePulses := 0
       qualifies := decide (v.state = .busy) && v.enable && (s.detector (.machineA p)).debounced })

/-! ## The yard line -/

/-- The line states, the deferral round and the receiver's phases outside a frame. In a deferral round the node starts
to send its head frame at the beginning of the count that is the base of its class plus the node's address, in WAITING
TIME or IN SERVICE; at every other count of the round only the count moves, and no count of a round begins twice. The
model reads from R173 that the node's own characters leave no idle time between them, so that LINE_QUIET while it
sends changes nothing (log entry 26); that LINE_JAM, LINE_QUIET and DEFERRAL_ROUND_END change nothing outside the
times they end is its choice (log entry 5), as is what a TRANSMIT_START out of its turn does (log entry 36), and that
RX_FRAMING_ERROR while the node itself sends stops the receiver and leaves the frame being sent (log entry 45) (R169,
R171, R173, R175, R176, R177). -/
def Obligations.LineEventsAndSlotsStartFrames : Prop :=
  (∀ s : State, s.loader.resetHeld = false →
     (s.line.phase = .quiet → exec .characterBegin s = .next { s with line := { s.line with
       phase := .busy, deferral := none
       receiver := if s.line.receiver = .waiting then .assembling else s.line.receiver } }) ∧
     (s.line.phase ≠ .quiet → exec .characterBegin s = .next s) ∧
     (s.isSending = true ∨ s.line.phase = .quiet → exec .lineQuiet s = .next s) ∧
     (s.isSending = false → s.line.phase ≠ .quiet → s.loader.retryAtQuiet = false →
       exec .lineQuiet s = .next { s with line := { s.line with
         phase := .quiet, deferral := some 0, receiver := .waiting } }) ∧
     (s.isSending = false → s.line.phase ≠ .quiet → s.loader.retryAtQuiet = true →
       s.line.transmit.any (fun x => x.body.isReport) = false → s.transmitFull = false →
       ∀ r rest, s.loader.reports = r :: rest →
       ∃ t, exec .lineQuiet s = .next t ∧ t.line.phase = .quiet ∧ t.line.deferral = some 0 ∧
         t.line.receiver = .waiting ∧ t.loader = { s.loader with retryAtQuiet := false } ∧
         (∃ x ∈ t.line.transmit, x.body = .report r ∧ x.destination = 0 ∧ x.cls = .low) ∧
         t = { s with loader := t.loader, line := t.line }) ∧
     (s.line.phase = .busy → exec .lineJam s = .next { s with line := { s.line with
       phase := .jammed, receiver := .ignoring } }) ∧
     (s.line.phase ≠ .busy → exec .lineJam s = .next s) ∧
     (∀ d, s.line.phase = .quiet → s.line.deferral = some d →
       exec .deferralRoundEnd s = .next { s with line := { s.line with deferral := some 0 } }) ∧
     (s.line.phase ≠ .quiet → exec .deferralRoundEnd s = .next s) ∧
     exec .rxFramingError s = .next s.heard ∧
     (∀ r, isRejected r = true → exec (.rxOctetRejected r) s = .next s.heard) ∧
     (∀ o, o ≠ 0xC3#8 → isRejected (.start o) = true) ∧ (∀ o, o.getLsbD 7 = false → isRejected (.kind o) = true) ∧
     (∀ o, 40 < o.toNat → isRejected (.length o) = true)) ∧
  (∀ (s : State) (count d : Nat), s.loader.resetHeld = false → s.line.phase = .quiet → s.line.deferral = some d →
     d ≤ count → count < 48 → s.line.muted = none → s.isSending = false →
     (∀ x rest, s.line.transmit = x :: rest → s.active = true →
       count = (match x.cls with | .urgent => 0 | .normal => 16 | .low => 32) + s.loader.address →
       exec (.transmitStart count) s = .next { s with line := { s.line with
         transmit := s.line.transmit.map (fun y => if y.order = x.order then { y with sending := true } else y)
         phase := .busy, deferral := none, receiver := .assembling, sent := x.octets s.loader.address } } ∧
       (x.octets s.loader.address).take 2 = [0xC3#8, kindOctet x.body.kind.code] ∧
       (x.octets s.loader.address).length = 6 + x.body.payload.length) ∧
     (s.active = false ∨ s.line.transmit = [] ∨
         (∃ x rest, s.line.transmit = x :: rest ∧
           count ≠ (match x.cls with | .urgent => 0 | .normal => 16 | .low => 32) + s.loader.address) →
       exec (.transmitStart count) s = .next { s with line := { s.line with deferral := some (count + 1) } }) ∧
     (∀ early, early < d → exec (.transmitStart early) s = .next s))

/-- The node's own frame, heard whole, leaves the transmit queue and acts as its kind says: an ARRIVE, a STRAY, a
RECORD, a CALL or a GONE does nothing more; a BID makes its bid entry SENT and counts in its own comparison; an OFFER,
of a bus or of a swap request (no bus standing twice in one lane, R47), opens its bid window; a TAKE makes its bid entry
leave, and one for the node's own open offer is kept among the TAKEs heard for it, or is committed at once where a
re-offer waits; a REPORT leaves the report queue. A first mismatch keeps the frame in its place for a second attempt. A
second one discards it: it leaves the queue, the conflict flag is set, LINE_CONFLICT is placed, and its owner takes it
as never sent: a BID's bid and a TAKE's claim are given up, a REPORT waits for the next quiet, a queued OFFER is closed
with its item as it was before it, its number spent, and the head that is ready is offered under the next number, and a
waiting re-offer is placed again under the next number with the same supersedes number. A frame that was being sent at a
soft restart is heard by no block of the node, where no re-offer is owed, and at a second mismatch it is discarded and
its owner told like any other, which takes away a claim kept through the restart; that a first one leaves it for a
second attempt is the model's choice (log entry 20). That FRAME_HEARD and READBACK_MISMATCH change nothing with nothing
being sent is the model's choice (log entry 35) (R23, R25, R26, R27, R28, R31, R32, R33, R34, R173, R174, R178, R180,
R188). -/
def Obligations.OwnFramesAreHeardOrRetried : Prop :=
  (∀ s : State, s.active = true →
     let out := fun (f : TxFrame) => ({ s with line := { s.line with
       transmit := s.line.transmit.filter (fun g => decide (g.order ≠ f.order)), sent := [], receiver := .ignoring } } : State)
     ((∀ x ∈ s.line.transmit, x.sending = false) → s.line.muted = none → exec .frameHeard s = .next s) ∧
     (∀ f, (∀ x ∈ s.line.transmit, x.sending = false) → s.line.muted = some f → f.sending = true → s.owesReoffer = false →
       exec .frameHeard s = .next { s with line := { s.line with muted := none, sent := [], receiver := .ignoring } }) ∧
     (∀ f, s.line.transmit.find? (fun x => x.sending) = some f → s.owesReoffer = false →
       (f.body.kind = .arrive ∨ f.body.kind = .stray ∨ f.body.kind = .record ∨ f.body.kind = .call ∨ f.body.kind = .gone →
         exec .frameHeard s = .next (out f)) ∧
       (∀ tag bus v head, f.body = .bid tag bus v head →
         exec .frameHeard s = .next { out f with hand := { s.hand with
           bids := s.hand.bids.map (fun e => if e.tag = tag ∧ e.state = .computed then
             { e with state := .sent, heard := e.heard ++ [(v, s.loader.address)] } else e) } }) ∧
       (∀ r, f.body = .report r → ∃ t, exec .frameHeard s = .next t ∧
         t.loader.reports = s.loader.reports.drop 1 ∧ t.hand = s.hand ∧ t.lanes = s.lanes ∧
         (∀ p, t.point p = s.point p) ∧ t.field = s.field)) ∧
     (∀ f n sup cargo o b, s.line.transmit.find? (fun x => x.sending) = some f → f.body = .offer n sup cargo →
       s.hand.offer = some o → o.key = .bus b → n ≠ 0 →
       (o.phase = .queued ∧ o.number = n) ∨ (o.phase = .reofferQueued ∧ o.reNumber = n) →
       ∃ t, exec .frameHeard s = .next t ∧ t.steady = s.steady ∧
         t.hand.offer = some { o with number := n, reNumber := 0, phase := .bidding, takes := [] } ∧
         (∀ i ∈ t.hand.outbound, i.key = o.key → i.lastNumber = n) ∧ t.hand.counter = s.hand.counter) ∧
     (∀ f n sup cargo o run, s.line.transmit.find? (fun x => x.sending) = some f → f.body = .offer n sup cargo →
       s.hand.offer = some o → o.key = .swapRun run → s.asksFor run = true → n ≠ 0 →
       (∀ l ∈ s.lanes, (l.entries.map (fun e => e.visit.bus)).Nodup) →
       (o.phase = .queued ∧ o.number = n) ∨ (o.phase = .reofferQueued ∧ o.reNumber = n) →
       ∃ t, exec .frameHeard s = .next t ∧ t.steady = s.steady ∧
         t.hand.offer = some { o with number := n, reNumber := 0, phase := .bidding, takes := [] } ∧
         (∀ i ∈ t.hand.outbound, i.key = o.key → i.lastNumber = n) ∧ t.hand.counter = s.hand.counter) ∧
     (∀ f tag bus v res, s.line.transmit.find? (fun x => x.sending) = some f → f.body = .take tag bus v res none →
       s.hand.offer = none →
       ∃ t, exec .frameHeard s = .next t ∧ t.steady = s.steady ∧
         ((∃ e ∈ s.hand.bids, e.tag = tag ∧ e.state = .taken) → ∀ e ∈ t.hand.bids, e.tag ≠ tag)) ∧
     (∀ f tag bus v res o b, s.line.transmit.find? (fun x => x.sending) = some f → f.body = .take tag bus v res none →
       s.hand.offer = some o → o.key = .bus b →
       ∃ t, exec .frameHeard s = .next t ∧ t.steady = s.steady ∧
         ((∃ e ∈ s.hand.bids, e.tag = tag ∧ e.state = .taken) → ∀ e ∈ t.hand.bids, e.tag ≠ tag) ∧
         (o.phase = .bidding ∨ o.phase = .takeWait →
           (tag = { holder := s.loader.address, number := o.number } → bus = b →
             t.hand.offer = some { o with takes := o.takes ++
               [{ source := s.loader.address, value := v, bus := bus, resource := res, head := none }] }) ∧
           (tag ≠ { holder := s.loader.address, number := o.number } ∨ bus ≠ b → t.hand.offer = some o)) ∧
         (∀ i, o.phase = .reofferQueued → tag = { holder := s.loader.address, number := o.number } → bus = b →
           s.item? o.key = some i →
           (∀ j ∈ t.hand.outbound, j.key ≠ o.key) ∧ (∀ o', t.hand.offer = some o' → o'.key ≠ o.key) ∧
           (∀ y ∈ t.line.transmit, ∀ n sup, y.body = .offer n sup i.cargo → y.sending = true) ∧
           (∀ place r, i.place = some place → i.cargo = .visit r →
             t.guide place = { code := .destination s.loader.address res, bus := some r.bus })))) ∧
  (∀ s : State, s.active = true →
     ((∀ x ∈ s.line.transmit, x.sending = false) → s.line.muted = none → exec .readbackMismatch s = .next s) ∧
     (∀ f, (∀ x ∈ s.line.transmit, x.sending = false) → s.line.muted = some f → f.sending = true →
       (f.mismatches = 0 → exec .readbackMismatch s = .next { s with line := { s.line with
         muted := some { f with sending := false, mismatches := 1 }, sent := [] } }) ∧
       (f.mismatches ≠ 0 → s.loader.reports.length < Config.reportCapacity →
         ∃ t, exec .readbackMismatch s = .next t ∧ t.steady = s.steady ∧ t.line.conflict = true ∧ t.line.muted = none ∧
           t.line.sent = [] ∧
           (∃ r ∈ t.loader.reports, r.body = .lineConflict f.body.kind.code f.destination .readback) ∧
           (∀ tag bus v head, f.body = .bid tag bus v head → ∀ e ∈ t.hand.bids, e.tag ≠ tag) ∧
           (∀ tag bus v res head, f.body = .take tag bus v res head →
             (∀ e ∈ t.hand.bids, e.tag ≠ tag) ∧
             (∀ e ∈ t.laneEntries, e.state = .expected → e.tag ≠ some tag) ∧
             (∀ p, ∀ e ∈ (t.point p).queue, e.state = .expected → e.tag ≠ some tag)))) ∧
     (∀ f, s.line.transmit.find? (fun x => x.sending) = some f →
       (f.mismatches = 0 →
         exec .readbackMismatch s = .next { s with line := { s.line with
           transmit := s.line.transmit.map (fun g => if g.sending then { g with sending := false, mismatches := 1 } else g)
           sent := [] } }) ∧
       (f.mismatches ≠ 0 → f.order < s.line.nextOrder → s.loader.reports.length < Config.reportCapacity →
         ∃ t, exec .readbackMismatch s = .next t ∧ t.steady = s.steady ∧ t.line.conflict = true ∧ t.line.sent = [] ∧
           (∀ g ∈ t.line.transmit, g.order ≠ f.order) ∧
           (∃ r ∈ t.loader.reports, r.body = .lineConflict f.body.kind.code f.destination .readback) ∧
           (∀ tag bus v head, f.body = .bid tag bus v head → ∀ e ∈ t.hand.bids, e.tag ≠ tag) ∧
           (∀ tag bus v res head, f.body = .take tag bus v res head →
             (∀ e ∈ t.hand.bids, e.tag ≠ tag) ∧
             (∀ e ∈ t.laneEntries, e.state = .expected → e.tag ≠ some tag) ∧
             (∀ p, ∀ e ∈ (t.point p).queue, e.state = .expected → e.tag ≠ some tag)) ∧
           (∀ r rest, f.body = .report r → s.loader.reports = r :: rest →
             t.loader.reports.head? = some r ∧ t.loader.retryAtQuiet = true) ∧
           (∀ n sup cargo o b i, f.body = .offer n sup cargo → s.hand.offer = some o → o.key = .bus b →
             s.item? o.key = some i → s.line.transmit.length + s.line.muted.toList.length ≤ Config.transmitCapacity →
             (o.phase = .queued → o.number = n →
               (∃ j ∈ t.hand.outbound, j.key = o.key ∧ j.cargo = i.cargo ∧ j.ready = i.ready ∧
                 j.joinOrder = i.joinOrder ∧ j.place = i.place ∧ j.lastNumber = i.lastNumber ∧
                 (j.offerCount = o.countBefore ∨ (j.offerCount = 1 ∧ ∃ o', t.hand.offer = some o' ∧ o'.key = o.key))) ∧
               (s.inService = false → t.hand.offer = none ∧ t.hand.counter = s.hand.counter) ∧
               (∀ it rest, s.inService = true → s.deadSwaps = [] →
                 (∀ x ∈ s.hand.bids, ∀ h, x.head = some h → s.isParkedHead x.resource h.bus = true) →
                 s.hand.outbound.Pairwise (fun x y => x.before y = true) → s.hand.outbound = it :: rest →
                 (it.ready ≤ s.clock.m →
                   t.hand.offer = some { number := s.hand.counter, phase := .queued, key := it.key
                                         countBefore := if it.key = o.key then o.countBefore else it.offerCount
                                         reNumber := 0, takes := [] } ∧
                   t.hand.counter = (if 255 ≤ s.hand.counter then 1 else s.hand.counter + 1) ∧
                   ∃ x ∈ t.line.transmit, x.body = .offer s.hand.counter it.lastNumber it.cargo ∧ x.destination = 15) ∧
                 (s.clock.m < it.ready → t.hand.offer = none ∧ t.hand.counter = s.hand.counter))) ∧
             (o.phase = .reofferQueued → o.reNumber = n → 1 ≤ s.hand.counter →
               t.hand.offer = some { o with reNumber := s.hand.counter } ∧
               t.hand.counter = (if 255 ≤ s.hand.counter then 1 else s.hand.counter + 1) ∧
               (∃ j ∈ t.hand.outbound, j.key = o.key ∧ j.cargo = i.cargo ∧ j.offerCount = 2) ∧
               ∃ x ∈ t.line.transmit, x.body = .offer s.hand.counter o.number i.cargo ∧ x.destination = 15)))))
end

