-- ==== Sys2Proof/Laws/State.lean ====
section
/-! SUPPORT. One lemma per field per update of State. -/

namespace Sys2Proof.Machine

open Sys2Proof

@[simp] theorem State.withPending_loader (q : List Instr) (s : State) : (s.withPending q).loader = s.loader := rfl
@[simp] theorem State.withPending_clock (q : List Instr) (s : State) : (s.withPending q).clock = s.clock := rfl
@[simp] theorem State.withPending_hand (q : List Instr) (s : State) : (s.withPending q).hand = s.hand := rfl
@[simp] theorem State.withPending_lanes (q : List Instr) (s : State) : (s.withPending q).lanes = s.lanes := rfl
@[simp] theorem State.withPending_point0 (q : List Instr) (s : State) : (s.withPending q).point0 = s.point0 := rfl
@[simp] theorem State.withPending_point1 (q : List Instr) (s : State) : (s.withPending q).point1 = s.point1 := rfl
@[simp] theorem State.withPending_timeline (q : List Instr) (s : State) : (s.withPending q).timeline = s.timeline := rfl
@[simp] theorem State.withPending_lateRuns (q : List Instr) (s : State) : (s.withPending q).lateRuns = s.lateRuns := rfl
@[simp] theorem State.withPending_field (q : List Instr) (s : State) : (s.withPending q).field = s.field := rfl
@[simp] theorem State.withPending_line (q : List Instr) (s : State) : (s.withPending q).line = s.line := rfl
@[simp] theorem State.withPending_pending (q : List Instr) (s : State) : (s.withPending q).pending = q := rfl

@[simp] theorem State.setLanes_pending (l : List Lane) (s : State) : (State.setLanes l s).pending = s.pending := rfl
@[simp] theorem State.setLanes_loader (l : List Lane) (s : State) : (State.setLanes l s).loader = s.loader := rfl
@[simp] theorem State.setLanes_clock (l : List Lane) (s : State) : (State.setLanes l s).clock = s.clock := rfl
@[simp] theorem State.setLanes_hand (l : List Lane) (s : State) : (State.setLanes l s).hand = s.hand := rfl
@[simp] theorem State.setLanes_point0 (l : List Lane) (s : State) : (State.setLanes l s).point0 = s.point0 := rfl
@[simp] theorem State.setLanes_point1 (l : List Lane) (s : State) : (State.setLanes l s).point1 = s.point1 := rfl
@[simp] theorem State.setLanes_timeline (l : List Lane) (s : State) : (State.setLanes l s).timeline = s.timeline := rfl
@[simp] theorem State.setLanes_lateRuns (l : List Lane) (s : State) : (State.setLanes l s).lateRuns = s.lateRuns := rfl
@[simp] theorem State.setLanes_line (l : List Lane) (s : State) : (State.setLanes l s).line = s.line := rfl
@[simp] theorem State.setLanes_lanes (l : List Lane) (s : State) : (State.setLanes l s).lanes = l := rfl
@[simp] theorem State.setLanes_field_lamps (l : List Lane) (s : State) : (State.setLanes l s).field.lamps = lampsOf l := rfl
@[simp] theorem State.setLanes_field_gate (l : List Lane) (s : State) : (State.setLanes l s).field.gate = s.field.gate := rfl
@[simp] theorem State.setLanes_field_point0 (l : List Lane) (s : State) : (State.setLanes l s).field.point0 = s.field.point0 := rfl
@[simp] theorem State.setLanes_field_point1 (l : List Lane) (s : State) : (State.setLanes l s).field.point1 = s.field.point1 := rfl
@[simp] theorem State.setLanes_field_detectors (l : List Lane) (s : State) : (State.setLanes l s).field.detectors = s.field.detectors := rfl
@[simp] theorem State.setLanes_field_filter (l : List Lane) (s : State) : (State.setLanes l s).field.filter = s.field.filter := rfl
@[simp] theorem State.setLanes_field_transfer (l : List Lane) (s : State) : (State.setLanes l s).field.transfer = s.field.transfer := rfl
@[simp] theorem State.setLanes_field_again (l : List Lane) (s : State) : (State.setLanes l s).field.again = s.field.again := rfl
@[simp] theorem State.setLanes_field_shown (l : List Lane) (s : State) : (State.setLanes l s).field.shown = s.field.shown := rfl
@[simp] theorem State.setLanes_field_loopPartial (l : List Lane) (s : State) : (State.setLanes l s).field.loopPartial = s.field.loopPartial := rfl

@[simp] theorem State.setOffer_pending (o : Option OpenOffer) (s : State) : (State.setOffer o s).pending = s.pending := rfl
@[simp] theorem State.setOffer_loader (o : Option OpenOffer) (s : State) : (State.setOffer o s).loader = s.loader := rfl
@[simp] theorem State.setOffer_clock (o : Option OpenOffer) (s : State) : (State.setOffer o s).clock = s.clock := rfl
@[simp] theorem State.setOffer_lanes (o : Option OpenOffer) (s : State) : (State.setOffer o s).lanes = s.lanes := rfl
@[simp] theorem State.setOffer_point0 (o : Option OpenOffer) (s : State) : (State.setOffer o s).point0 = s.point0 := rfl
@[simp] theorem State.setOffer_point1 (o : Option OpenOffer) (s : State) : (State.setOffer o s).point1 = s.point1 := rfl
@[simp] theorem State.setOffer_timeline (o : Option OpenOffer) (s : State) : (State.setOffer o s).timeline = s.timeline := rfl
@[simp] theorem State.setOffer_lateRuns (o : Option OpenOffer) (s : State) : (State.setOffer o s).lateRuns = s.lateRuns := rfl
@[simp] theorem State.setOffer_field (o : Option OpenOffer) (s : State) : (State.setOffer o s).field = s.field := rfl
@[simp] theorem State.setOffer_line (o : Option OpenOffer) (s : State) : (State.setOffer o s).line = s.line := rfl
@[simp] theorem State.setOffer_hand_offer (o : Option OpenOffer) (s : State) : (State.setOffer o s).hand.offer = o := rfl
@[simp] theorem State.setOffer_hand_bids (o : Option OpenOffer) (s : State) : (State.setOffer o s).hand.bids = s.hand.bids := rfl
@[simp] theorem State.setOffer_hand_outbound (o : Option OpenOffer) (s : State) : (State.setOffer o s).hand.outbound = s.hand.outbound := rfl
@[simp] theorem State.setOffer_hand_counter (o : Option OpenOffer) (s : State) : (State.setOffer o s).hand.counter = s.hand.counter := rfl
@[simp] theorem State.setOffer_hand_joins (o : Option OpenOffer) (s : State) : (State.setOffer o s).hand.joins = s.hand.joins := rfl

@[simp] theorem State.takeNumber_pending (s : State) : s.takeNumber.pending = s.pending := rfl
@[simp] theorem State.takeNumber_loader (s : State) : s.takeNumber.loader = s.loader := rfl
@[simp] theorem State.takeNumber_clock (s : State) : s.takeNumber.clock = s.clock := rfl
@[simp] theorem State.takeNumber_lanes (s : State) : s.takeNumber.lanes = s.lanes := rfl
@[simp] theorem State.takeNumber_point0 (s : State) : s.takeNumber.point0 = s.point0 := rfl
@[simp] theorem State.takeNumber_point1 (s : State) : s.takeNumber.point1 = s.point1 := rfl
@[simp] theorem State.takeNumber_timeline (s : State) : s.takeNumber.timeline = s.timeline := rfl
@[simp] theorem State.takeNumber_lateRuns (s : State) : s.takeNumber.lateRuns = s.lateRuns := rfl
@[simp] theorem State.takeNumber_field (s : State) : s.takeNumber.field = s.field := rfl
@[simp] theorem State.takeNumber_line (s : State) : s.takeNumber.line = s.line := rfl
@[simp] theorem State.takeNumber_hand_counter (s : State) : s.takeNumber.hand.counter = nextOfferNumber s.hand.counter := rfl
@[simp] theorem State.takeNumber_hand_offer (s : State) : s.takeNumber.hand.offer = s.hand.offer := rfl
@[simp] theorem State.takeNumber_hand_bids (s : State) : s.takeNumber.hand.bids = s.hand.bids := rfl
@[simp] theorem State.takeNumber_hand_outbound (s : State) : s.takeNumber.hand.outbound = s.hand.outbound := rfl
@[simp] theorem State.takeNumber_hand_joins (s : State) : s.takeNumber.hand.joins = s.hand.joins := rfl

@[simp] theorem State.modItem_pending (k : ItemKey) (f : OutItem → OutItem) (s : State) : (State.modItem k f s).pending = s.pending := rfl
@[simp] theorem State.modItem_loader (k : ItemKey) (f : OutItem → OutItem) (s : State) : (State.modItem k f s).loader = s.loader := rfl
@[simp] theorem State.modItem_clock (k : ItemKey) (f : OutItem → OutItem) (s : State) : (State.modItem k f s).clock = s.clock := rfl
@[simp] theorem State.modItem_lanes (k : ItemKey) (f : OutItem → OutItem) (s : State) : (State.modItem k f s).lanes = s.lanes := rfl
@[simp] theorem State.modItem_point0 (k : ItemKey) (f : OutItem → OutItem) (s : State) : (State.modItem k f s).point0 = s.point0 := rfl
@[simp] theorem State.modItem_point1 (k : ItemKey) (f : OutItem → OutItem) (s : State) : (State.modItem k f s).point1 = s.point1 := rfl
@[simp] theorem State.modItem_timeline (k : ItemKey) (f : OutItem → OutItem) (s : State) : (State.modItem k f s).timeline = s.timeline := rfl
@[simp] theorem State.modItem_lateRuns (k : ItemKey) (f : OutItem → OutItem) (s : State) : (State.modItem k f s).lateRuns = s.lateRuns := rfl
@[simp] theorem State.modItem_field (k : ItemKey) (f : OutItem → OutItem) (s : State) : (State.modItem k f s).field = s.field := rfl
@[simp] theorem State.modItem_line (k : ItemKey) (f : OutItem → OutItem) (s : State) : (State.modItem k f s).line = s.line := rfl
@[simp] theorem State.modItem_hand_offer (k : ItemKey) (f : OutItem → OutItem) (s : State) : (State.modItem k f s).hand.offer = s.hand.offer := rfl
@[simp] theorem State.modItem_hand_bids (k : ItemKey) (f : OutItem → OutItem) (s : State) : (State.modItem k f s).hand.bids = s.hand.bids := rfl
@[simp] theorem State.modItem_hand_counter (k : ItemKey) (f : OutItem → OutItem) (s : State) : (State.modItem k f s).hand.counter = s.hand.counter := rfl
@[simp] theorem State.modItem_hand_joins (k : ItemKey) (f : OutItem → OutItem) (s : State) : (State.modItem k f s).hand.joins = s.hand.joins := rfl

@[simp] theorem State.removeItem_pending (k : ItemKey) (s : State) : (State.removeItem k s).pending = s.pending := rfl
@[simp] theorem State.removeItem_loader (k : ItemKey) (s : State) : (State.removeItem k s).loader = s.loader := rfl
@[simp] theorem State.removeItem_clock (k : ItemKey) (s : State) : (State.removeItem k s).clock = s.clock := rfl
@[simp] theorem State.removeItem_lanes (k : ItemKey) (s : State) : (State.removeItem k s).lanes = s.lanes := rfl
@[simp] theorem State.removeItem_point0 (k : ItemKey) (s : State) : (State.removeItem k s).point0 = s.point0 := rfl
@[simp] theorem State.removeItem_point1 (k : ItemKey) (s : State) : (State.removeItem k s).point1 = s.point1 := rfl
@[simp] theorem State.removeItem_timeline (k : ItemKey) (s : State) : (State.removeItem k s).timeline = s.timeline := rfl
@[simp] theorem State.removeItem_lateRuns (k : ItemKey) (s : State) : (State.removeItem k s).lateRuns = s.lateRuns := rfl
@[simp] theorem State.removeItem_field (k : ItemKey) (s : State) : (State.removeItem k s).field = s.field := rfl
@[simp] theorem State.removeItem_line (k : ItemKey) (s : State) : (State.removeItem k s).line = s.line := rfl
@[simp] theorem State.removeItem_hand_outbound (k : ItemKey) (s : State) : (State.removeItem k s).hand.outbound = s.hand.outbound.filter (fun i => decide (i.key ≠ k)) := rfl
@[simp] theorem State.removeItem_hand_offer (k : ItemKey) (s : State) : (State.removeItem k s).hand.offer = s.hand.offer := rfl
@[simp] theorem State.removeItem_hand_bids (k : ItemKey) (s : State) : (State.removeItem k s).hand.bids = s.hand.bids := rfl
@[simp] theorem State.removeItem_hand_counter (k : ItemKey) (s : State) : (State.removeItem k s).hand.counter = s.hand.counter := rfl
@[simp] theorem State.removeItem_hand_joins (k : ItemKey) (s : State) : (State.removeItem k s).hand.joins = s.hand.joins := rfl

@[simp] theorem State.modBids_pending (f : BidEntry → BidEntry) (s : State) : (State.modBids f s).pending = s.pending := rfl
@[simp] theorem State.modBids_loader (f : BidEntry → BidEntry) (s : State) : (State.modBids f s).loader = s.loader := rfl
@[simp] theorem State.modBids_clock (f : BidEntry → BidEntry) (s : State) : (State.modBids f s).clock = s.clock := rfl
@[simp] theorem State.modBids_lanes (f : BidEntry → BidEntry) (s : State) : (State.modBids f s).lanes = s.lanes := rfl
@[simp] theorem State.modBids_point0 (f : BidEntry → BidEntry) (s : State) : (State.modBids f s).point0 = s.point0 := rfl
@[simp] theorem State.modBids_point1 (f : BidEntry → BidEntry) (s : State) : (State.modBids f s).point1 = s.point1 := rfl
@[simp] theorem State.modBids_timeline (f : BidEntry → BidEntry) (s : State) : (State.modBids f s).timeline = s.timeline := rfl
@[simp] theorem State.modBids_lateRuns (f : BidEntry → BidEntry) (s : State) : (State.modBids f s).lateRuns = s.lateRuns := rfl
@[simp] theorem State.modBids_field (f : BidEntry → BidEntry) (s : State) : (State.modBids f s).field = s.field := rfl
@[simp] theorem State.modBids_line (f : BidEntry → BidEntry) (s : State) : (State.modBids f s).line = s.line := rfl
@[simp] theorem State.modBids_hand_bids (f : BidEntry → BidEntry) (s : State) : (State.modBids f s).hand.bids = s.hand.bids.map f := rfl
@[simp] theorem State.modBids_hand_offer (f : BidEntry → BidEntry) (s : State) : (State.modBids f s).hand.offer = s.hand.offer := rfl
@[simp] theorem State.modBids_hand_outbound (f : BidEntry → BidEntry) (s : State) : (State.modBids f s).hand.outbound = s.hand.outbound := rfl
@[simp] theorem State.modBids_hand_counter (f : BidEntry → BidEntry) (s : State) : (State.modBids f s).hand.counter = s.hand.counter := rfl
@[simp] theorem State.modBids_hand_joins (f : BidEntry → BidEntry) (s : State) : (State.modBids f s).hand.joins = s.hand.joins := rfl

@[simp] theorem State.enqueue_pending (b : FrameBody) (d : Nat) (s : State) : (State.enqueue b d s).pending = s.pending := rfl
@[simp] theorem State.enqueue_loader (b : FrameBody) (d : Nat) (s : State) : (State.enqueue b d s).loader = s.loader := rfl
@[simp] theorem State.enqueue_clock (b : FrameBody) (d : Nat) (s : State) : (State.enqueue b d s).clock = s.clock := rfl
@[simp] theorem State.enqueue_hand (b : FrameBody) (d : Nat) (s : State) : (State.enqueue b d s).hand = s.hand := rfl
@[simp] theorem State.enqueue_lanes (b : FrameBody) (d : Nat) (s : State) : (State.enqueue b d s).lanes = s.lanes := rfl
@[simp] theorem State.enqueue_point0 (b : FrameBody) (d : Nat) (s : State) : (State.enqueue b d s).point0 = s.point0 := rfl
@[simp] theorem State.enqueue_point1 (b : FrameBody) (d : Nat) (s : State) : (State.enqueue b d s).point1 = s.point1 := rfl
@[simp] theorem State.enqueue_timeline (b : FrameBody) (d : Nat) (s : State) : (State.enqueue b d s).timeline = s.timeline := rfl
@[simp] theorem State.enqueue_lateRuns (b : FrameBody) (d : Nat) (s : State) : (State.enqueue b d s).lateRuns = s.lateRuns := rfl
@[simp] theorem State.enqueue_field (b : FrameBody) (d : Nat) (s : State) : (State.enqueue b d s).field = s.field := rfl
@[simp] theorem State.enqueue_line_phase (b : FrameBody) (d : Nat) (s : State) : (State.enqueue b d s).line.phase = s.line.phase := rfl
@[simp] theorem State.enqueue_line_conflict (b : FrameBody) (d : Nat) (s : State) : (State.enqueue b d s).line.conflict = s.line.conflict := rfl
@[simp] theorem State.enqueue_line_receiver (b : FrameBody) (d : Nat) (s : State) : (State.enqueue b d s).line.receiver = s.line.receiver := rfl
@[simp] theorem State.enqueue_line_muted (b : FrameBody) (d : Nat) (s : State) : (State.enqueue b d s).line.muted = s.line.muted := rfl

@[simp] theorem State.dropFrames_pending (p : FrameBody → Bool) (s : State) : (State.dropFrames p s).pending = s.pending := rfl
@[simp] theorem State.dropFrames_loader (p : FrameBody → Bool) (s : State) : (State.dropFrames p s).loader = s.loader := rfl
@[simp] theorem State.dropFrames_clock (p : FrameBody → Bool) (s : State) : (State.dropFrames p s).clock = s.clock := rfl
@[simp] theorem State.dropFrames_hand (p : FrameBody → Bool) (s : State) : (State.dropFrames p s).hand = s.hand := rfl
@[simp] theorem State.dropFrames_lanes (p : FrameBody → Bool) (s : State) : (State.dropFrames p s).lanes = s.lanes := rfl
@[simp] theorem State.dropFrames_point0 (p : FrameBody → Bool) (s : State) : (State.dropFrames p s).point0 = s.point0 := rfl
@[simp] theorem State.dropFrames_point1 (p : FrameBody → Bool) (s : State) : (State.dropFrames p s).point1 = s.point1 := rfl
@[simp] theorem State.dropFrames_timeline (p : FrameBody → Bool) (s : State) : (State.dropFrames p s).timeline = s.timeline := rfl
@[simp] theorem State.dropFrames_lateRuns (p : FrameBody → Bool) (s : State) : (State.dropFrames p s).lateRuns = s.lateRuns := rfl
@[simp] theorem State.dropFrames_field (p : FrameBody → Bool) (s : State) : (State.dropFrames p s).field = s.field := rfl
@[simp] theorem State.dropFrames_line_phase (p : FrameBody → Bool) (s : State) : (State.dropFrames p s).line.phase = s.line.phase := rfl
@[simp] theorem State.dropFrames_line_conflict (p : FrameBody → Bool) (s : State) : (State.dropFrames p s).line.conflict = s.line.conflict := rfl
@[simp] theorem State.dropFrames_line_receiver (p : FrameBody → Bool) (s : State) : (State.dropFrames p s).line.receiver = s.line.receiver := rfl
@[simp] theorem State.dropFrames_line_muted (p : FrameBody → Bool) (s : State) : (State.dropFrames p s).line.muted = s.line.muted := rfl
@[simp] theorem State.dropFrames_line_nextOrder (p : FrameBody → Bool) (s : State) : (State.dropFrames p s).line.nextOrder = s.line.nextOrder := rfl

@[simp] theorem State.setDetector_pending (pin : Pin) (d : Detector) (s : State) : (State.setDetector pin d s).pending = s.pending := rfl
@[simp] theorem State.setDetector_loader (pin : Pin) (d : Detector) (s : State) : (State.setDetector pin d s).loader = s.loader := rfl
@[simp] theorem State.setDetector_clock (pin : Pin) (d : Detector) (s : State) : (State.setDetector pin d s).clock = s.clock := rfl
@[simp] theorem State.setDetector_hand (pin : Pin) (d : Detector) (s : State) : (State.setDetector pin d s).hand = s.hand := rfl
@[simp] theorem State.setDetector_lanes (pin : Pin) (d : Detector) (s : State) : (State.setDetector pin d s).lanes = s.lanes := rfl
@[simp] theorem State.setDetector_point0 (pin : Pin) (d : Detector) (s : State) : (State.setDetector pin d s).point0 = s.point0 := rfl
@[simp] theorem State.setDetector_point1 (pin : Pin) (d : Detector) (s : State) : (State.setDetector pin d s).point1 = s.point1 := rfl
@[simp] theorem State.setDetector_timeline (pin : Pin) (d : Detector) (s : State) : (State.setDetector pin d s).timeline = s.timeline := rfl
@[simp] theorem State.setDetector_lateRuns (pin : Pin) (d : Detector) (s : State) : (State.setDetector pin d s).lateRuns = s.lateRuns := rfl
@[simp] theorem State.setDetector_line (pin : Pin) (d : Detector) (s : State) : (State.setDetector pin d s).line = s.line := rfl
@[simp] theorem State.setDetector_field_lamps (pin : Pin) (d : Detector) (s : State) : (State.setDetector pin d s).field.lamps = s.field.lamps := rfl
@[simp] theorem State.setDetector_field_gate (pin : Pin) (d : Detector) (s : State) : (State.setDetector pin d s).field.gate = s.field.gate := rfl
@[simp] theorem State.setDetector_field_point0 (pin : Pin) (d : Detector) (s : State) : (State.setDetector pin d s).field.point0 = s.field.point0 := rfl
@[simp] theorem State.setDetector_field_point1 (pin : Pin) (d : Detector) (s : State) : (State.setDetector pin d s).field.point1 = s.field.point1 := rfl
@[simp] theorem State.setDetector_field_filter (pin : Pin) (d : Detector) (s : State) : (State.setDetector pin d s).field.filter = s.field.filter := rfl

@[simp] theorem State.applyPlans_pending (k : Nat) (s : State) : (State.applyPlans k s).pending = s.pending := rfl
@[simp] theorem State.applyPlans_loader (k : Nat) (s : State) : (State.applyPlans k s).loader = s.loader := rfl
@[simp] theorem State.applyPlans_clock (k : Nat) (s : State) : (State.applyPlans k s).clock = s.clock := rfl
@[simp] theorem State.applyPlans_hand (k : Nat) (s : State) : (State.applyPlans k s).hand = s.hand := rfl
@[simp] theorem State.applyPlans_lanes (k : Nat) (s : State) : (State.applyPlans k s).lanes = s.lanes := rfl
@[simp] theorem State.applyPlans_point0 (k : Nat) (s : State) : (State.applyPlans k s).point0 = s.point0 := rfl
@[simp] theorem State.applyPlans_point1 (k : Nat) (s : State) : (State.applyPlans k s).point1 = s.point1 := rfl
@[simp] theorem State.applyPlans_lateRuns (k : Nat) (s : State) : (State.applyPlans k s).lateRuns = s.lateRuns := rfl
@[simp] theorem State.applyPlans_field (k : Nat) (s : State) : (State.applyPlans k s).field = s.field := rfl
@[simp] theorem State.applyPlans_line (k : Nat) (s : State) : (State.applyPlans k s).line = s.line := rfl
@[simp] theorem State.applyPlans_timeline_begun (k : Nat) (s : State) : (State.applyPlans k s).timeline.begun = some k := rfl
@[simp] theorem State.applyPlans_timeline_table0 (k : Nat) (s : State) : (State.applyPlans k s).timeline.table0 = s.timeline.table0.apply := rfl
@[simp] theorem State.applyPlans_timeline_table1 (k : Nat) (s : State) : (State.applyPlans k s).timeline.table1 = s.timeline.table1.apply := rfl

@[simp] theorem State.frameOut_pending (f : TxFrame) (s : State) : (State.frameOut f s).pending = s.pending := rfl
@[simp] theorem State.frameOut_loader (f : TxFrame) (s : State) : (State.frameOut f s).loader = s.loader := rfl
@[simp] theorem State.frameOut_clock (f : TxFrame) (s : State) : (State.frameOut f s).clock = s.clock := rfl
@[simp] theorem State.frameOut_hand (f : TxFrame) (s : State) : (State.frameOut f s).hand = s.hand := rfl
@[simp] theorem State.frameOut_lanes (f : TxFrame) (s : State) : (State.frameOut f s).lanes = s.lanes := rfl
@[simp] theorem State.frameOut_point0 (f : TxFrame) (s : State) : (State.frameOut f s).point0 = s.point0 := rfl
@[simp] theorem State.frameOut_point1 (f : TxFrame) (s : State) : (State.frameOut f s).point1 = s.point1 := rfl
@[simp] theorem State.frameOut_timeline (f : TxFrame) (s : State) : (State.frameOut f s).timeline = s.timeline := rfl
@[simp] theorem State.frameOut_lateRuns (f : TxFrame) (s : State) : (State.frameOut f s).lateRuns = s.lateRuns := rfl
@[simp] theorem State.frameOut_field (f : TxFrame) (s : State) : (State.frameOut f s).field = s.field := rfl
@[simp] theorem State.frameOut_line_sent (f : TxFrame) (s : State) : (State.frameOut f s).line.sent = [] := rfl
@[simp] theorem State.frameOut_line_phase (f : TxFrame) (s : State) : (State.frameOut f s).line.phase = s.line.phase := rfl
@[simp] theorem State.frameOut_line_conflict (f : TxFrame) (s : State) : (State.frameOut f s).line.conflict = s.line.conflict := rfl

@[simp] theorem State.abandonReport_pending (s : State) : s.abandonReport.pending = s.pending := rfl
@[simp] theorem State.abandonReport_loader (s : State) : s.abandonReport.loader = s.loader := rfl
@[simp] theorem State.abandonReport_clock (s : State) : s.abandonReport.clock = s.clock := rfl
@[simp] theorem State.abandonReport_hand (s : State) : s.abandonReport.hand = s.hand := rfl
@[simp] theorem State.abandonReport_lanes (s : State) : s.abandonReport.lanes = s.lanes := rfl
@[simp] theorem State.abandonReport_point0 (s : State) : s.abandonReport.point0 = s.point0 := rfl
@[simp] theorem State.abandonReport_point1 (s : State) : s.abandonReport.point1 = s.point1 := rfl
@[simp] theorem State.abandonReport_timeline (s : State) : s.abandonReport.timeline = s.timeline := rfl
@[simp] theorem State.abandonReport_lateRuns (s : State) : s.abandonReport.lateRuns = s.lateRuns := rfl
@[simp] theorem State.abandonReport_line (s : State) : s.abandonReport.line = s.line := rfl
@[simp] theorem State.abandonReport_field_loopPartial (s : State) : s.abandonReport.field.loopPartial = [] := rfl
@[simp] theorem State.abandonReport_field_lamps (s : State) : s.abandonReport.field.lamps = s.field.lamps := rfl
@[simp] theorem State.abandonReport_field_filter (s : State) : s.abandonReport.field.filter = s.field.filter := rfl

@[simp] theorem State.markSending_pending (f : TxFrame) (s : State) : (State.markSending f s).pending = s.pending := rfl
@[simp] theorem State.markSending_loader (f : TxFrame) (s : State) : (State.markSending f s).loader = s.loader := rfl
@[simp] theorem State.markSending_clock (f : TxFrame) (s : State) : (State.markSending f s).clock = s.clock := rfl
@[simp] theorem State.markSending_hand (f : TxFrame) (s : State) : (State.markSending f s).hand = s.hand := rfl
@[simp] theorem State.markSending_lanes (f : TxFrame) (s : State) : (State.markSending f s).lanes = s.lanes := rfl
@[simp] theorem State.markSending_point0 (f : TxFrame) (s : State) : (State.markSending f s).point0 = s.point0 := rfl
@[simp] theorem State.markSending_point1 (f : TxFrame) (s : State) : (State.markSending f s).point1 = s.point1 := rfl
@[simp] theorem State.markSending_timeline (f : TxFrame) (s : State) : (State.markSending f s).timeline = s.timeline := rfl
@[simp] theorem State.markSending_lateRuns (f : TxFrame) (s : State) : (State.markSending f s).lateRuns = s.lateRuns := rfl
@[simp] theorem State.markSending_field (f : TxFrame) (s : State) : (State.markSending f s).field = s.field := rfl
@[simp] theorem State.markSending_line_phase (f : TxFrame) (s : State) : (State.markSending f s).line.phase = .busy := rfl
@[simp] theorem State.markSending_line_deferral (f : TxFrame) (s : State) : (State.markSending f s).line.deferral = none := rfl
@[simp] theorem State.markSending_line_conflict (f : TxFrame) (s : State) : (State.markSending f s).line.conflict = s.line.conflict := rfl
@[simp] theorem State.markSending_line_nextOrder (f : TxFrame) (s : State) : (State.markSending f s).line.nextOrder = s.line.nextOrder := rfl

@[simp] theorem State.setRetry_pending (v : Bool) (s : State) : (State.setRetry v s).pending = s.pending := rfl
@[simp] theorem State.setRetry_clock (v : Bool) (s : State) : (State.setRetry v s).clock = s.clock := rfl
@[simp] theorem State.setRetry_hand (v : Bool) (s : State) : (State.setRetry v s).hand = s.hand := rfl
@[simp] theorem State.setRetry_lanes (v : Bool) (s : State) : (State.setRetry v s).lanes = s.lanes := rfl
@[simp] theorem State.setRetry_point0 (v : Bool) (s : State) : (State.setRetry v s).point0 = s.point0 := rfl
@[simp] theorem State.setRetry_point1 (v : Bool) (s : State) : (State.setRetry v s).point1 = s.point1 := rfl
@[simp] theorem State.setRetry_timeline (v : Bool) (s : State) : (State.setRetry v s).timeline = s.timeline := rfl
@[simp] theorem State.setRetry_lateRuns (v : Bool) (s : State) : (State.setRetry v s).lateRuns = s.lateRuns := rfl
@[simp] theorem State.setRetry_field (v : Bool) (s : State) : (State.setRetry v s).field = s.field := rfl
@[simp] theorem State.setRetry_line (v : Bool) (s : State) : (State.setRetry v s).line = s.line := rfl
@[simp] theorem State.setRetry_loader_node (v : Bool) (s : State) : (State.setRetry v s).loader.node = s.loader.node := rfl
@[simp] theorem State.setRetry_loader_resetHeld (v : Bool) (s : State) : (State.setRetry v s).loader.resetHeld = s.loader.resetHeld := rfl
@[simp] theorem State.setRetry_loader_address (v : Bool) (s : State) : (State.setRetry v s).loader.address = s.loader.address := rfl
@[simp] theorem State.setRetry_loader_image (v : Bool) (s : State) : (State.setRetry v s).loader.image = s.loader.image := rfl
@[simp] theorem State.setRetry_loader_reports (v : Bool) (s : State) : (State.setRetry v s).loader.reports = s.loader.reports := rfl
@[simp] theorem State.setRetry_loader_nextSequence (v : Bool) (s : State) : (State.setRetry v s).loader.nextSequence = s.loader.nextSequence := rfl
@[simp] theorem State.setRetry_loader_retryAtQuiet (v : Bool) (s : State) : (State.setRetry v s).loader.retryAtQuiet = v := rfl

@[simp] theorem State.setReports_pending (l : List Report) (s : State) : (State.setReports l s).pending = s.pending := rfl
@[simp] theorem State.setReports_clock (l : List Report) (s : State) : (State.setReports l s).clock = s.clock := rfl
@[simp] theorem State.setReports_hand (l : List Report) (s : State) : (State.setReports l s).hand = s.hand := rfl
@[simp] theorem State.setReports_lanes (l : List Report) (s : State) : (State.setReports l s).lanes = s.lanes := rfl
@[simp] theorem State.setReports_point0 (l : List Report) (s : State) : (State.setReports l s).point0 = s.point0 := rfl
@[simp] theorem State.setReports_point1 (l : List Report) (s : State) : (State.setReports l s).point1 = s.point1 := rfl
@[simp] theorem State.setReports_timeline (l : List Report) (s : State) : (State.setReports l s).timeline = s.timeline := rfl
@[simp] theorem State.setReports_lateRuns (l : List Report) (s : State) : (State.setReports l s).lateRuns = s.lateRuns := rfl
@[simp] theorem State.setReports_field (l : List Report) (s : State) : (State.setReports l s).field = s.field := rfl
@[simp] theorem State.setReports_line (l : List Report) (s : State) : (State.setReports l s).line = s.line := rfl
@[simp] theorem State.setReports_loader_node (l : List Report) (s : State) : (State.setReports l s).loader.node = s.loader.node := rfl
@[simp] theorem State.setReports_loader_resetHeld (l : List Report) (s : State) : (State.setReports l s).loader.resetHeld = s.loader.resetHeld := rfl
@[simp] theorem State.setReports_loader_address (l : List Report) (s : State) : (State.setReports l s).loader.address = s.loader.address := rfl
@[simp] theorem State.setReports_loader_image (l : List Report) (s : State) : (State.setReports l s).loader.image = s.loader.image := rfl
@[simp] theorem State.setReports_loader_reports (l : List Report) (s : State) : (State.setReports l s).loader.reports = l := rfl
@[simp] theorem State.setReports_loader_nextSequence (l : List Report) (s : State) : (State.setReports l s).loader.nextSequence = s.loader.nextSequence := rfl
@[simp] theorem State.setReports_loader_retryAtQuiet (l : List Report) (s : State) : (State.setReports l s).loader.retryAtQuiet = s.loader.retryAtQuiet := rfl

@[simp] theorem State.countReport_pending (s : State) : s.countReport.pending = s.pending := rfl
@[simp] theorem State.countReport_clock (s : State) : s.countReport.clock = s.clock := rfl
@[simp] theorem State.countReport_hand (s : State) : s.countReport.hand = s.hand := rfl
@[simp] theorem State.countReport_lanes (s : State) : s.countReport.lanes = s.lanes := rfl
@[simp] theorem State.countReport_point0 (s : State) : s.countReport.point0 = s.point0 := rfl
@[simp] theorem State.countReport_point1 (s : State) : s.countReport.point1 = s.point1 := rfl
@[simp] theorem State.countReport_timeline (s : State) : s.countReport.timeline = s.timeline := rfl
@[simp] theorem State.countReport_lateRuns (s : State) : s.countReport.lateRuns = s.lateRuns := rfl
@[simp] theorem State.countReport_field (s : State) : s.countReport.field = s.field := rfl
@[simp] theorem State.countReport_line (s : State) : s.countReport.line = s.line := rfl
@[simp] theorem State.countReport_loader_node (s : State) : s.countReport.loader.node = s.loader.node := rfl
@[simp] theorem State.countReport_loader_resetHeld (s : State) : s.countReport.loader.resetHeld = s.loader.resetHeld := rfl
@[simp] theorem State.countReport_loader_address (s : State) : s.countReport.loader.address = s.loader.address := rfl
@[simp] theorem State.countReport_loader_image (s : State) : s.countReport.loader.image = s.loader.image := rfl
@[simp] theorem State.countReport_loader_reports (s : State) : s.countReport.loader.reports = s.loader.reports := rfl
@[simp] theorem State.countReport_loader_nextSequence (s : State) : s.countReport.loader.nextSequence = (s.loader.nextSequence + 1) % 256 := rfl
@[simp] theorem State.countReport_loader_retryAtQuiet (s : State) : s.countReport.loader.retryAtQuiet = s.loader.retryAtQuiet := rfl

@[simp] theorem State.displace_pending (s : State) : s.displace.pending = s.pending := rfl
@[simp] theorem State.displace_loader (s : State) : s.displace.loader = s.loader := rfl
@[simp] theorem State.displace_clock (s : State) : s.displace.clock = s.clock := rfl
@[simp] theorem State.displace_hand (s : State) : s.displace.hand = s.hand := rfl
@[simp] theorem State.displace_lanes (s : State) : s.displace.lanes = s.lanes := rfl
@[simp] theorem State.displace_point0 (s : State) : s.displace.point0 = s.point0 := rfl
@[simp] theorem State.displace_point1 (s : State) : s.displace.point1 = s.point1 := rfl
@[simp] theorem State.displace_timeline (s : State) : s.displace.timeline = s.timeline := rfl
@[simp] theorem State.displace_lateRuns (s : State) : s.displace.lateRuns = s.lateRuns := rfl
@[simp] theorem State.displace_field (s : State) : s.displace.field = s.field := rfl
@[simp] theorem State.displace_line_transmit (s : State) : s.displace.line.transmit = s.line.transmit.eraseP TxFrame.displaceable := rfl
@[simp] theorem State.displace_line_muted (s : State) : s.displace.line.muted = s.line.muted := rfl
@[simp] theorem State.displace_line_nextOrder (s : State) : s.displace.line.nextOrder = s.line.nextOrder := rfl

@[simp] theorem State.setPoint_pending (p : PointId) (v : Point) (s : State) : (State.setPoint p v s).pending = s.pending := by
  cases p <;> rfl
@[simp] theorem State.modPoint_pending (p : PointId) (g : Point → Point) (s : State) : (State.modPoint p g s).pending = s.pending :=
  State.setPoint_pending p _ s
@[simp] theorem State.setTable_pending (p : PointId) (v : SlotTable) (s : State) : (State.setTable p v s).pending = s.pending := by
  cases p <;> rfl
@[simp] theorem State.setPoint_loader (p : PointId) (v : Point) (s : State) : (State.setPoint p v s).loader = s.loader := by
  cases p <;> rfl
@[simp] theorem State.modPoint_loader (p : PointId) (g : Point → Point) (s : State) : (State.modPoint p g s).loader = s.loader :=
  State.setPoint_loader p _ s
@[simp] theorem State.setTable_loader (p : PointId) (v : SlotTable) (s : State) : (State.setTable p v s).loader = s.loader := by
  cases p <;> rfl
@[simp] theorem State.setPoint_clock (p : PointId) (v : Point) (s : State) : (State.setPoint p v s).clock = s.clock := by
  cases p <;> rfl
@[simp] theorem State.modPoint_clock (p : PointId) (g : Point → Point) (s : State) : (State.modPoint p g s).clock = s.clock :=
  State.setPoint_clock p _ s
@[simp] theorem State.setTable_clock (p : PointId) (v : SlotTable) (s : State) : (State.setTable p v s).clock = s.clock := by
  cases p <;> rfl
@[simp] theorem State.setPoint_hand (p : PointId) (v : Point) (s : State) : (State.setPoint p v s).hand = s.hand := by
  cases p <;> rfl
@[simp] theorem State.modPoint_hand (p : PointId) (g : Point → Point) (s : State) : (State.modPoint p g s).hand = s.hand :=
  State.setPoint_hand p _ s
@[simp] theorem State.setTable_hand (p : PointId) (v : SlotTable) (s : State) : (State.setTable p v s).hand = s.hand := by
  cases p <;> rfl
@[simp] theorem State.setPoint_lanes (p : PointId) (v : Point) (s : State) : (State.setPoint p v s).lanes = s.lanes := by
  cases p <;> rfl
@[simp] theorem State.modPoint_lanes (p : PointId) (g : Point → Point) (s : State) : (State.modPoint p g s).lanes = s.lanes :=
  State.setPoint_lanes p _ s
@[simp] theorem State.setTable_lanes (p : PointId) (v : SlotTable) (s : State) : (State.setTable p v s).lanes = s.lanes := by
  cases p <;> rfl
@[simp] theorem State.setPoint_timeline (p : PointId) (v : Point) (s : State) : (State.setPoint p v s).timeline = s.timeline := by
  cases p <;> rfl
@[simp] theorem State.modPoint_timeline (p : PointId) (g : Point → Point) (s : State) : (State.modPoint p g s).timeline = s.timeline :=
  State.setPoint_timeline p _ s
@[simp] theorem State.setPoint_lateRuns (p : PointId) (v : Point) (s : State) : (State.setPoint p v s).lateRuns = s.lateRuns := by
  cases p <;> rfl
@[simp] theorem State.modPoint_lateRuns (p : PointId) (g : Point → Point) (s : State) : (State.modPoint p g s).lateRuns = s.lateRuns :=
  State.setPoint_lateRuns p _ s
@[simp] theorem State.setTable_lateRuns (p : PointId) (v : SlotTable) (s : State) : (State.setTable p v s).lateRuns = s.lateRuns := by
  cases p <;> rfl
@[simp] theorem State.setPoint_field (p : PointId) (v : Point) (s : State) : (State.setPoint p v s).field = s.field := by
  cases p <;> rfl
@[simp] theorem State.modPoint_field (p : PointId) (g : Point → Point) (s : State) : (State.modPoint p g s).field = s.field :=
  State.setPoint_field p _ s
@[simp] theorem State.setTable_field (p : PointId) (v : SlotTable) (s : State) : (State.setTable p v s).field = s.field := by
  cases p <;> rfl
@[simp] theorem State.setPoint_line (p : PointId) (v : Point) (s : State) : (State.setPoint p v s).line = s.line := by
  cases p <;> rfl
@[simp] theorem State.modPoint_line (p : PointId) (g : Point → Point) (s : State) : (State.modPoint p g s).line = s.line :=
  State.setPoint_line p _ s
@[simp] theorem State.setTable_line (p : PointId) (v : SlotTable) (s : State) : (State.setTable p v s).line = s.line := by
  cases p <;> rfl

/-- A point read back after it was set. -/
@[simp] theorem State.setPoint_point (p : PointId) (v : Point) (s : State) : (State.setPoint p v s).point p = v := by
  cases p <;> rfl

/-- The other point is as it was. -/
theorem State.setPoint_point_of_ne (p q : PointId) (v : Point) (s : State) (h : q ≠ p) :
    (State.setPoint p v s).point q = s.point q := by
  cases p <;> cases q <;> first | rfl | exact absurd rfl h

/-- A point read back after it was changed. -/
@[simp] theorem State.modPoint_point (p : PointId) (f : Point → Point) (s : State) :
    (State.modPoint p f s).point p = f (s.point p) :=
  State.setPoint_point p _ s

/-- The other point is as it was. -/
theorem State.modPoint_point_of_ne (p q : PointId) (f : Point → Point) (s : State) (h : q ≠ p) :
    (State.modPoint p f s).point q = s.point q :=
  State.setPoint_point_of_ne p q _ s h

/-- A table read back after it was set. -/
@[simp] theorem State.setTable_table (p : PointId) (v : SlotTable) (s : State) : (State.setTable p v s).table p = v := by
  cases p <;> rfl

/-- The other table is as it was. -/
theorem State.setTable_table_of_ne (p q : PointId) (v : SlotTable) (s : State) (h : q ≠ p) :
    (State.setTable p v s).table q = s.table q := by
  cases p <;> cases q <;> first | rfl | exact absurd rfl h

/-- A detector read back after it was set. -/
@[simp] theorem State.setDetector_detector (pin : Pin) (d : Detector) (s : State) :
    (State.setDetector pin d s).detector pin = d := by
  simp [State.detector, State.setDetector]

/-- A change of one lane keeps the count of lanes. -/
@[simp] theorem State.modLane_length (n : Nat) (f : Lane → Lane) (s : State) :
    (State.modLane n f s).lanes.length = s.lanes.length := by
  simp [State.modLane]

end Sys2Proof.Machine
end

