-- ==== Sys2Proof/Laws/OpsEffects.lean ====
section
/-! SUPPORT. What each shared operation of Machine/Ops.lean does, what a start asks of the timeline, what heads of lanes and
pinned entries are, what a swap request does, and what a FINISHED entry of a point does, said once: its cases, its result, and what it keeps. -/

namespace Sys2Proof.Machine

open Sys2Proof

/-! ## The transmit queue (R170, R172) -/

@[simp] theorem mem_insertFrame (f g : TxFrame) (l : List TxFrame) : g ∈ insertFrame f l ↔ g = f ∨ g ∈ l := by
  induction l with
  | nil => simp [insertFrame]
  | cons x xs ih =>
    simp only [insertFrame]
    split
    · simp only [List.mem_cons, ih]; tauto
    · simp

@[simp] theorem insertFrame_length (f : TxFrame) (l : List TxFrame) : (insertFrame f l).length = l.length + 1 := by
  induction l with
  | nil => rfl
  | cons x xs ih =>
    simp only [insertFrame]
    split <;> simp [ih]

/-- The three outcomes of a placement: the frame joins, it displaces the oldest LOW frame, or it is discarded. -/
theorem State.place_cases (b : FrameBody) (d : Nat) (s : State) :
    (s.transmitFull = false ∧ s.place b d = s.enqueue b d) ∨
    (s.transmitFull = true ∧ b.kind.cls ≠ .low ∧ s.line.transmit.any TxFrame.displaceable = true ∧
      s.place b d = (s.displace.setRetry true).enqueue b d) ∨
    (s.canPlace b.kind.cls = false ∧ s.place b d = s) := by
  by_cases hf : s.transmitFull = true <;> by_cases hc : b.kind.cls = .low <;>
    by_cases ha : s.line.transmit.any TxFrame.displaceable = true <;>
    simp_all [State.place, State.canPlace]

/-- A placement changes the line and the mark of R188 alone. -/
theorem State.place_eq (b : FrameBody) (d : Nat) (s : State) :
    s.place b d = { s with
      line := { s.line with transmit := (s.place b d).line.transmit, nextOrder := (s.place b d).line.nextOrder }
      loader := { s.loader with retryAtQuiet := (s.place b d).loader.retryAtQuiet } } := by
  rcases State.place_cases b d s with ⟨-, h⟩ | ⟨-, -, -, h⟩ | ⟨-, h⟩ <;> rw [h] <;> rfl

/-- A frame that can be placed stands in the transmit queue afterwards. -/
theorem State.mem_place (b : FrameBody) (d : Nat) (s : State) (h : s.canPlace b.kind.cls = true) :
    ({ body := b, destination := d, order := s.line.nextOrder, mismatches := 0, sending := false } : TxFrame)
      ∈ (s.place b d).line.transmit := by
  rcases State.place_cases b d s with ⟨-, e⟩ | ⟨-, -, -, e⟩ | ⟨hc, -⟩
  · simp [e, State.enqueue]
  · simp [e, State.enqueue, State.displace, State.setRetry]
  · simp [h] at hc

/-- A frame of the transmit queue after a placement is the placed one or was there before. -/
theorem State.mem_of_mem_place {b : FrameBody} {d : Nat} {s : State} {f : TxFrame}
    (h : f ∈ (s.place b d).line.transmit) :
    f = { body := b, destination := d, order := s.line.nextOrder, mismatches := 0, sending := false } ∨
      f ∈ s.line.transmit := by
  rcases State.place_cases b d s with ⟨-, e⟩ | ⟨-, -, -, e⟩ | ⟨-, e⟩ <;> rw [e] at h
  · simpa [State.enqueue] using h
  · simp only [State.enqueue, State.displace, State.setRetry, mem_insertFrame] at h
    exact h.imp_right List.mem_of_mem_eraseP
  · exact .inr h

/-- A frame that is being sent, or is no REPORT, stays through a placement. -/
theorem State.place_keeps {b : FrameBody} {d : Nat} {s : State} {f : TxFrame} (hf : f ∈ s.line.transmit)
    (hd : f.displaceable = false) : f ∈ (s.place b d).line.transmit := by
  rcases State.place_cases b d s with ⟨-, e⟩ | ⟨-, -, -, e⟩ | ⟨-, e⟩ <;> rw [e]
  · simp [State.enqueue, hf]
  · simp only [State.enqueue, State.displace, State.setRetry, mem_insertFrame]
    exact .inr ((List.mem_eraseP_of_neg (by simp [hd])).2 hf)
  · exact hf

/-- A placement keeps the transmit queue within its capacity. -/
theorem State.place_transmit_length (b : FrameBody) (d : Nat) (s : State)
    (h : s.line.transmit.length + s.line.muted.toList.length ≤ Config.transmitCapacity) :
    (s.place b d).line.transmit.length + (s.place b d).line.muted.toList.length ≤ Config.transmitCapacity := by
  rcases State.place_cases b d s with ⟨hf, e⟩ | ⟨-, -, ha, e⟩ | ⟨-, e⟩ <;> rw [e]
  · simp only [State.transmitFull, decide_eq_false_iff_not] at hf
    simp only [State.enqueue, insertFrame_length]
    omega
  · obtain ⟨f, hf, hd⟩ := List.any_eq_true.1 ha
    have hl := List.length_eraseP_of_mem hf hd
    have hpos := List.length_pos_of_mem hf
    simp only [State.enqueue, State.displace, State.setRetry, insertFrame_length, hl]
    omega
  · exact h

/-- What is left of the transmit queue where an owner removes its frames. -/
theorem State.mem_dropFrames {p : FrameBody → Bool} {s : State} {f : TxFrame} :
    f ∈ (s.dropFrames p).line.transmit ↔ f ∈ s.line.transmit ∧ (f.sending = true ∨ p f.body = false) := by
  simp [State.dropFrames]

/-! ## Reports (R187, R188) -/

/-- The head report's frame is placed by a change of the line and the mark of R188 alone. -/
theorem State.placeHeadReport_eq (s : State) :
    s.placeHeadReport = { s with
      line := { s.line with transmit := s.placeHeadReport.line.transmit, nextOrder := s.placeHeadReport.line.nextOrder }
      loader := { s.loader with retryAtQuiet := s.placeHeadReport.loader.retryAtQuiet } } := by
  simp only [State.placeHeadReport]
  split
  · rfl
  · split
    · rfl
    · rw [State.place_eq]
      rfl

@[simp] theorem State.placeHeadReport_reports (s : State) : s.placeHeadReport.loader.reports = s.loader.reports := by
  rw [State.placeHeadReport_eq]

/-- A report changes the report queue, its count and the line alone. -/
theorem State.report_eq (b : ReportBody) (s : State) :
    s.report b = { s with
      line := { s.line with transmit := (s.report b).line.transmit, nextOrder := (s.report b).line.nextOrder }
      loader := { s.loader with
        reports := (s.report b).loader.reports
        nextSequence := (s.report b).loader.nextSequence
        retryAtQuiet := (s.report b).loader.retryAtQuiet } } := by
  simp only [State.report]
  repeat' split
  all_goals first | rfl | (rw [State.placeHeadReport_eq]; rfl)

/-- The report as it joins the queue. -/
def State.newReport (b : ReportBody) (s : State) : Report :=
  { sequence := s.loader.nextSequence, minute := s.reportMinute, body := b }

/-- The report queue after a report, where there is room. -/
theorem State.report_reports (b : ReportBody) (s : State) (ha : s.active = true)
    (h : s.loader.reports.length < Config.reportCapacity) :
    (s.report b).loader.reports = s.loader.reports ++ [s.newReport b] := by
  simp only [State.report, ha, h, if_true, Bool.not_true, Bool.false_eq_true, if_false, State.newReport]
  split <;> simp [State.setReports]

/-- A report placed in an active node stands in the queue. -/
theorem State.mem_report (b : ReportBody) (s : State) (ha : s.active = true) :
    s.newReport b ∈ (s.report b).loader.reports := by
  simp only [State.report, ha, Bool.not_true, Bool.false_eq_true, if_false, State.newReport]
  repeat' split
  all_goals simp [State.setReports, State.dropFrames]

/-- A report of the queue after a placement is the placed one or was there before. -/
theorem State.mem_of_mem_report {b : ReportBody} {s : State} {r : Report} (h : r ∈ (s.report b).loader.reports) :
    r = s.newReport b ∨ r ∈ s.loader.reports := by
  simp only [State.report, State.newReport] at *
  split at h
  · exact .inr h
  · split at h
    · split at h <;> simp [State.setReports] at h <;> tauto
    · split at h
      · simp only [State.setReports, List.mem_append, List.mem_singleton] at h
        rcases h with (h | h) | h
        · exact .inr (List.mem_of_mem_take h)
        · exact .inr (List.mem_of_mem_drop h)
        · exact .inl h
      · simp only [State.placeHeadReport_reports, State.dropFrames, State.setReports, List.mem_append,
          List.mem_singleton] at h
        exact h.symm.imp_right List.mem_of_mem_drop

/-- A report keeps the report queue within its capacity. -/
theorem State.report_length (b : ReportBody) (s : State) (h : s.loader.reports.length ≤ Config.reportCapacity) :
    (s.report b).loader.reports.length ≤ Config.reportCapacity := by
  simp only [State.report]
  repeat' split
  all_goals simp [State.setReports, State.dropFrames, Config.reportCapacity] at *
  all_goals omega

/-! ## Guidance (R166, R194) -/

/-- A guidance code set changes the output of its place and the display transfer alone. -/
theorem State.setGuide_eq (place : GuidePlace) (code : Guide) (bus : Option Nat) (s : State) :
    s.setGuide place code bus = { s with
      field := { (s.setGuide place code bus).field with
        loopPartial := s.field.loopPartial, filter := s.field.filter, detectors := s.field.detectors
        lamps := s.field.lamps, shown := s.field.shown } } := by
  rcases place with _ | p
  · simp only [State.setGuide, State.startTransfer]; split <;> rfl
  · cases p <;> simp only [State.setGuide, State.startTransfer] <;> split <;> rfl

/-- The output of a place after a code is set there. -/
@[simp] theorem State.setGuide_guide (place : GuidePlace) (code : Guide) (bus : Option Nat) (s : State) :
    (s.setGuide place code bus).guide place = { code := code, bus := bus } := by
  rcases place with _ | p
  · simp only [State.setGuide, State.startTransfer]; split <;> rfl
  · cases p <;> simp only [State.setGuide, State.startTransfer] <;> split <;> rfl

/-- The outputs of the other places stay. -/
theorem State.setGuide_guide_of_ne {place other : GuidePlace} (h : other ≠ place) (code : Guide) (bus : Option Nat)
    (s : State) : (s.setGuide place code bus).guide other = s.guide other := by
  rcases place with _ | p <;> rcases other with _ | q <;> first | (exact absurd rfl h) | skip
  all_goals try cases p
  all_goals try cases q
  all_goals first
    | (exact absurd rfl h)
    | (simp only [State.setGuide, State.startTransfer]; split <;> rfl)

/-! ## The outbound list (R21) -/

@[simp] theorem mem_insertItem (i j : OutItem) (l : List OutItem) : j ∈ insertItem i l ↔ j = i ∨ j ∈ l := by
  induction l with
  | nil => simp [insertItem]
  | cons x xs ih =>
    simp only [insertItem]
    split
    · simp only [List.mem_cons, ih]; tauto
    · simp

@[simp] theorem insertItem_length (i : OutItem) (l : List OutItem) : (insertItem i l).length = l.length + 1 := by
  induction l with
  | nil => rfl
  | cons x xs ih =>
    simp only [insertItem]
    split <;> simp [ih]

theorem mem_foldl_insertItem (j : OutItem) (l : List OutItem) :
    ∀ acc, j ∈ l.foldl (fun acc i => insertItem i acc) acc ↔ j ∈ l ∨ j ∈ acc := by
  induction l with
  | nil => simp
  | cons x xs ih => intro acc; simp only [List.foldl_cons, ih, mem_insertItem, List.mem_cons]; tauto

@[simp] theorem mem_sortItems (j : OutItem) (l : List OutItem) : j ∈ sortItems l ↔ j ∈ l := by
  simp [sortItems, mem_foldl_insertItem]

theorem foldl_insertItem_length (l : List OutItem) :
    ∀ acc, (l.foldl (fun acc i => insertItem i acc) acc).length = l.length + acc.length := by
  induction l with
  | nil => simp
  | cons x xs ih => intro acc; simp only [List.foldl_cons, ih, insertItem_length, List.length_cons]; omega

@[simp] theorem sortItems_length (l : List OutItem) : (sortItems l).length = l.length := by
  simp [sortItems, foldl_insertItem_length]

/-- An item of the outbound list after one item is changed. -/
theorem State.mem_modItem {k : ItemKey} {f : OutItem → OutItem} {s : State} {j : OutItem} :
    j ∈ (s.modItem k f).hand.outbound ↔ ∃ i ∈ s.hand.outbound, j = if i.key = k then f i else i := by
  simp [State.modItem, eq_comm]

/-- An item of the outbound list after one item is removed. -/
theorem State.mem_removeItem {k : ItemKey} {s : State} {j : OutItem} :
    j ∈ (s.removeItem k).hand.outbound ↔ j ∈ s.hand.outbound ∧ j.key ≠ k := by
  simp [State.removeItem]

/-- The two outcomes of the start of an offer: it is queued, or its number is spent. -/
theorem State.startOffer_cases (it : OutItem) (s : State) :
    (s.canPlace .normal = true ∧ s.startOffer it
      = State.send (.offer s.hand.counter it.lastNumber it.cargo)
          (State.setOffer
            (some { number := s.hand.counter, phase := .queued, key := it.key, countBefore := it.offerCount,
                    reNumber := 0, takes := [] })
            (s.takeNumber.modItem it.key (fun i => { i with offerCount := 1 })))) ∨
    (s.canPlace .normal = false ∧ s.startOffer it = s.takeNumber) := by
  have hc : s.takeNumber.canPlace .normal = s.canPlace .normal := rfl
  simp only [State.startOffer, hc]
  by_cases h : s.canPlace .normal = true
  · exact .inl ⟨h, by simp only [h, if_true]⟩
  · exact .inr ⟨by simpa using h, by rw [if_neg h]⟩

/-- The outcomes of the test of R23. -/
theorem State.offerTest_cases (s : State) :
    s.offerTest = s ∨
    (s.inService = true ∧ ∃ o, s.hand.offer = some o ∧ o.phase = .reofferQueued ∧ o.reNumber = 0 ∧
      s.offerTest = s.placeReoffer o) ∨
    (s.inService = true ∧ s.hand.offer = none ∧ ∃ it rest, s.hand.outbound = it :: rest ∧ it.ready ≤ s.clock.m ∧
      s.offerTest = s.startOffer it) := by
  by_cases hs : s.inService = true
  · rcases ho : s.hand.offer with _ | o
    · rcases hl : s.hand.outbound with _ | ⟨it, rest⟩
      · left; simp [State.offerTest, hs, ho, hl]
      · by_cases hr : it.ready ≤ s.clock.m
        · right; right
          exact ⟨hs, rfl, it, rest, rfl, hr, by simp [State.offerTest, hs, ho, hl, hr]⟩
        · left; simp [State.offerTest, hs, ho, hl, hr]
    · by_cases hp : o.phase = .reofferQueued ∧ o.reNumber = 0
      · right; left
        exact ⟨hs, o, rfl, hp.1, hp.2, by simp [State.offerTest, hs, ho, hp]⟩
      · left; simp only [State.offerTest, hs, ho, hp, if_false]; simp
  · left; simp [State.offerTest, hs]

/-- The two outcomes of a join (R21). -/
theorem State.join_cases (c : Cargo) (p : Option GuidePlace) (s : State) :
    (s.outboundFull = true ∧ s.join c p = s) ∨
    (s.hand.outbound.length < Config.outboundCapacity ∧ s.join c p
      = State.offerTest { s with hand := { s.hand with
          outbound := insertItem { cargo := c, ready := s.clock.m, joinOrder := s.hand.joins, offerCount := 0,
                                   lastNumber := 0, place := p } s.hand.outbound
          joins := s.hand.joins + 1 } }) := by
  by_cases h : s.outboundFull = true
  · exact .inl ⟨h, by simp [State.join, h]⟩
  · refine .inr ⟨?_, by simp [State.join, h]⟩
    simpa [State.outboundFull] using h

/-! ## Lanes and queues (R47, R49) -/

theorem Lane.without_entries (i : Image) (n : Nat) (p : LaneEntry → Bool) (l : Lane) :
    (l.without i n p).entries = l.entries.filter (fun e => !p e) := by
  simp only [Lane.without]
  split
  · rfl
  · rename_i h
    simp only [List.any_eq_true, not_exists, not_and, Bool.not_eq_true] at h
    exact (List.filter_eq_self.2 (fun e he => by simp [h e he])).symm

@[simp] theorem Lane.without_state (i : Image) (n : Nat) (p : LaneEntry → Bool) (l : Lane) :
    (l.without i n p).state = l.state := by
  simp only [Lane.without]
  split <;> rfl

theorem getElem?_mapLanesFrom (f : Nat → Lane → Lane) (l : List Lane) :
    ∀ n k, (mapLanesFrom f n l)[k]? = (l[k]?).map (f (n + k)) := by
  induction l with
  | nil => intro n k; simp [mapLanesFrom]
  | cons x xs ih =>
    intro n k
    cases k with
    | zero => simp [mapLanesFrom]
    | succ k => simp only [mapLanesFrom, List.getElem?_cons_succ, ih]; congr 2; omega

theorem flatMap_mapLanesFrom (q : LaneEntry → Bool) (f : Nat → Lane → Lane)
    (h : ∀ n l, (f n l).entries = l.entries.filter q) (l : List Lane) :
    ∀ n, (mapLanesFrom f n l).flatMap (fun x => x.entries) = (l.flatMap (fun x => x.entries)).filter q := by
  induction l with
  | nil => intro _; rfl
  | cons x xs ih => intro _; simp [mapLanesFrom, h, ih, List.filter_append]

/-- The lane entries left where the same entries are removed from every lane. -/
theorem State.removeLaneEntries_laneEntries (p : LaneEntry → Bool) (s : State) :
    (s.removeLaneEntries (fun _ => p)).laneEntries = s.laneEntries.filter (fun e => !p e) :=
  flatMap_mapLanesFrom _ _ (fun n l => Lane.without_entries _ _ p l) s.lanes 0

/-- One lane after a removal. -/
theorem State.removeLaneEntries_lane (p : Nat → LaneEntry → Bool) (s : State) (n : Nat) :
    (s.removeLaneEntries p).lanes[n]? = (s.lanes[n]?).map (fun l => l.without s.image (s.image.laneLengthOf n) (p n)) := by
  have := getElem?_mapLanesFrom (fun n l => l.without s.image (s.image.laneLengthOf n) (p n)) s.lanes 0 n
  rwa [Nat.zero_add] at this

/-- The queue of a point after a removal. -/
theorem State.removeQueueEntries_queue (q : QueueEntry → Bool) (s : State) (p : PointId) :
    ((s.removeQueueEntries q).point p).queue = (s.point p).queue.filter (fun e => !q e) := by
  cases p <;> rfl

/-! ## Bids (R32 to R35) -/

/-- No bid entry of a tag is left where it is removed, and every other one stays. -/
theorem State.mem_removeBid {tag : Tag} {s : State} {b : BidEntry} :
    b ∈ (s.removeBid tag).hand.bids ↔ b ∈ s.hand.bids ∧ b.tag ≠ tag := by
  simp [State.removeBid, State.dropFrames]

theorem State.removeTentative_laneEntries (tag : Tag) (s : State) :
    (s.removeTentative tag).laneEntries
      = s.laneEntries.filter (fun e => !(decide (e.state = .tentative) && decide (e.tag = some tag))) :=
  State.removeLaneEntries_laneEntries _ s

theorem State.removeExpected_laneEntries (tag : Tag) (s : State) :
    (s.removeExpected tag).laneEntries
      = s.laneEntries.filter (fun e => !(decide (e.state = .expected) && decide (e.tag = some tag))) :=
  State.removeLaneEntries_laneEntries _ s

/-- A dropped bid leaves no bid entry, no TENTATIVE entry and no waiting frame of its tag (R32). -/
theorem State.dropBid_spec (tag : Tag) (s : State) :
    (∀ b ∈ (s.dropBid tag).hand.bids, b.tag ≠ tag) ∧
    (∀ e ∈ (s.dropBid tag).laneEntries, e.state = .tentative → e.tag ≠ some tag) ∧
    (∀ p, ∀ e ∈ ((s.dropBid tag).point p).queue, e.state = .tentative → e.tag ≠ some tag) ∧
    (∀ f ∈ (s.dropBid tag).line.transmit, f.body.isClaimOf tag = true → f.sending = true) ∧
    (s.dropBid tag).loader = s.loader := by
  refine ⟨fun b hb => (State.mem_removeBid.1 hb).2, fun e he hs ht => ?_, fun p e he hs ht => ?_, fun f hf hc => ?_, rfl⟩
  · rw [State.dropBid, State.removeTentative_laneEntries] at he
    simp [hs, ht] at he
  · rw [State.dropBid, State.removeTentative, State.removeQueueEntries_queue] at he
    simp [hs, ht] at he
  · have := (State.mem_dropFrames.1 (show f ∈ (State.dropFrames (FrameBody.isClaimOf tag) _).line.transmit from hf)).2
    simpa [hc] using this

/-- A claim given up leaves, besides, no EXPECTED entry of its tag (R34, R35). -/
theorem State.dropClaim_spec (tag : Tag) (s : State) :
    (∀ b ∈ (s.dropClaim tag).hand.bids, b.tag ≠ tag) ∧
    (∀ e ∈ (s.dropClaim tag).laneEntries, e.state = .tentative ∨ e.state = .expected → e.tag ≠ some tag) ∧
    (∀ p, ∀ e ∈ ((s.dropClaim tag).point p).queue, e.state = .tentative ∨ e.state = .expected → e.tag ≠ some tag) ∧
    (∀ f ∈ (s.dropClaim tag).line.transmit, f.body.isClaimOf tag = true → f.sending = true) ∧
    (s.dropClaim tag).loader = s.loader := by
  obtain ⟨h1, h2, h3, h4, h5⟩ := State.dropBid_spec tag s
  refine ⟨h1, fun e he hs ht => ?_, fun p e he hs ht => ?_, h4, h5⟩
  · rw [State.dropClaim, State.removeExpected_laneEntries, List.mem_filter] at he
    rcases hs with hs | hs
    · exact h2 e he.1 hs ht
    · simp [hs, ht] at he
  · rw [State.dropClaim, State.removeExpected, State.removeQueueEntries_queue, List.mem_filter] at he
    rcases hs with hs | hs
    · exact h3 p e (by have := he.1; cases p <;> exact this) hs ht
    · simp [hs, ht] at he

/-! ## Calls (R133, R134) -/

/-- The two outcomes of the test of a lane's head. -/
theorem State.headTest_cases (n : Nat) (s : State) :
    s.headTest n = s ∨
    (s.inService = true ∧ s.headWaits n = false ∧ ∃ e, (s.lanes[n]?).bind (fun l => l.entries.head?) = some e ∧
      e.isDue s.image.callLead s.clock.m = true ∧ s.headTest n = s.callEntry n e) := by
  by_cases hs : s.inService = true
  · rcases he : (s.lanes[n]?).bind (fun l => l.entries.head?) with _ | e
    · left; simp [State.headTest, hs, he]
    · by_cases hd : (e.isDue s.image.callLead s.clock.m && !s.headWaits n) = true
      · right
        have := Bool.and_eq_true_iff.1 hd
        exact ⟨hs, by simpa using this.2, e, rfl, this.1, by simp only [State.headTest, hs, he, hd]; simp⟩
      · left; simp only [State.headTest, hs, he, hd]; simp
  · left; simp [State.headTest, hs]

/-! ## What an event frees (R134) -/

/-- The head of a lane is freed where it waited before the event and waits no longer, for one of two reasons (R134). -/
theorem State.headFreed_iff (before s : State) (n : Nat) :
    before.headFreed s n = true ↔ before.headWaits n = true ∧ s.headWaits n = false ∧
      (before.headHeld n = true ∨ s.swapRunWaiting ≠ before.swapRunWaiting) := by
  simp [State.headFreed, and_assoc]

/-- A head that is held waits (R135). -/
theorem State.headWaits_of_headHeld {s : State} {n : Nat} (h : s.headHeld n = true) : s.headWaits n = true := by
  simp only [State.headHeld, State.headWaits] at h ⊢
  split <;> rename_i e <;> simp_all

/-- An event after which every lane holds all its entries and no head is freed tests no head (R134). -/
theorem State.settle_quiet {before s : State} (hl : ∀ n, before.lostEntry s n = false)
    (hf : ∀ n, before.headFreed s.dropLostHeads.withdrawSwaps n = false) :
    State.settle before s = s.dropLostHeads.withdrawSwaps := by
  simp only [State.settle]
  induction List.range s.dropLostHeads.withdrawSwaps.lanes.length with
  | nil => rfl
  | cons n l ih => simpa [hl, hf] using ih

/-! ## Every record and every copy (R36) -/

@[simp] theorem OutItem.mapVisit_visit? (f : VisitRecord → VisitRecord) (i : OutItem) :
    (i.mapVisit f).visit? = i.visit?.map f := by
  obtain ⟨c, r, j, o, n, p⟩ := i
  cases c <;> rfl

@[simp] theorem TxFrame.mapVisit_visit? (f : VisitRecord → VisitRecord) (t : TxFrame) :
    (t.mapVisit f).visit? = t.visit?.map f := by
  by_cases h : t.sending = true
  · simp [TxFrame.mapVisit, TxFrame.visit?, h]
  · obtain ⟨b, d, o, m, sd⟩ := t
    simp only [Bool.not_eq_true] at h
    subst h
    rcases b with _ | ⟨n, sup, c⟩ | _ | _ | _ | r | _ | _ | _
    all_goals try rfl
    cases c <;> rfl

/-- A change of every record changes every record the node holds, in the places R36 lists, and no other. -/
theorem State.mapVisits_visits (f : VisitRecord → VisitRecord) (s : State) :
    (s.mapVisits f).visits = s.visits.map f := by
  simp only [State.visits, State.mapVisits, State.laneEntries, State.setLanes, Point.mapVisit, List.map_append,
    List.filterMap_map, List.map_map, List.map_filterMap, List.map_flatMap, List.flatMap_map]
  simp only [Function.comp_def, OutItem.mapVisit_visit?, TxFrame.mapVisit_visit?, LaneEntry.mapVisit,
    QueueEntry.mapVisit]

/-- A change of every record keeps the states, tags and marks of the lane entries. -/
theorem State.mapVisits_laneEntries (f : VisitRecord → VisitRecord) (s : State) :
    (s.mapVisits f).laneEntries = s.laneEntries.map (LaneEntry.mapVisit f) := by
  simp [State.mapVisits, State.laneEntries, State.setLanes, List.flatMap_map, List.map_flatMap]

/-! ## The slot of a start (R79) -/

/-- A start has a slot state once some slot has begun: that of the slot that holds the present minute. -/
theorem State.startState_eq_some (s : State) (p : PointId) (st : SlotState) :
    s.startState p = some st ↔ s.timeline.begun ≠ none ∧ s.slotState p (s.clock.m / 30) = st := by
  cases h : s.timeline.begun <;> simp [State.startState, h]

/-! ## Heads of lanes and pinned entries (R130, R145) -/

/-- A bus stands PARKED at the head of lane `n` where that lane's first entry is a PARKED one of it. -/
theorem State.isParkedHead_lane (s : State) (n b : Nat) :
    s.isParkedHead (.lane n) b = true ↔
      ∃ e, (s.lanes[n]?).bind (fun l => l.entries.head?) = some e ∧ e.visit.bus = b ∧ e.state = .parked := by
  simp [State.isParkedHead, Option.any_eq_true]

@[simp] theorem State.isParkedHead_point (s : State) (p : PointId) (b : Nat) : s.isParkedHead (.point p) b = false := rfl

/-- An entry that a DUTY pins keeps everything but an asking, which ends (R37, R130). -/
theorem LaneEntry.pinned_eq (e : LaneEntry) :
    e.pinned = { e with ask := if e.ask = .asking then .none else e.ask } := by
  unfold LaneEntry.pinned
  split <;> rfl

@[simp] theorem LaneEntry.pinned_visit (e : LaneEntry) : e.pinned.visit = e.visit := by rw [LaneEntry.pinned_eq]

@[simp] theorem LaneEntry.pinned_ask_ne (e : LaneEntry) : e.pinned.ask ≠ .asking := by
  rw [LaneEntry.pinned_eq]
  dsimp only
  split <;> simp_all

/-- An entry that takes a RECORD keeps its place, tag and marks, and it is no longer awaited (R42). -/
theorem LaneEntry.takeRecord_eq (r : VisitRecord) (d : Duty) (e : LaneEntry) :
    e.takeRecord r d = { e with
      visit := e.visit.takeRecord r d, recordAwaited := none, ask := (e.takeRecord r d).ask } := by
  unfold LaneEntry.takeRecord
  dsimp only
  split
  · rw [LaneEntry.pinned_eq]
  · rfl

/-- A RECORD that pins the entry it fills leaves none that asks (R15; log entry 58). -/
theorem LaneEntry.takeRecord_pinned (r : VisitRecord) (d : Duty) (e : LaneEntry) (h : d.pinned = true) :
    (e.takeRecord r d).ask ≠ .asking := by
  unfold LaneEntry.takeRecord
  dsimp only
  rw [if_pos h]
  exact LaneEntry.pinned_ask_ne _

theorem State.foldl_removeBid_bids (l : List BidEntry) :
    ∀ s : State, (l.foldl (fun t e => t.removeBid e.tag) s).hand.bids
      = s.hand.bids.filter (fun b => l.all (fun e => decide (b.tag ≠ e.tag))) := by
  induction l with
  | nil => intro s; simp
  | cons x xs ih =>
    intro s
    rw [List.foldl_cons, ih]
    simp [State.removeBid, State.dropFrames, List.filter_filter, Bool.and_comm]

theorem State.foldl_removeBid_lanes (l : List BidEntry) :
    ∀ s : State, (l.foldl (fun t e => t.removeBid e.tag) s).lanes = s.lanes := by
  induction l with
  | nil => intro s; rfl
  | cons x xs ih => intro s; rw [List.foldl_cons, ih]; rfl

/-- After an event no SWAP bid names a head, and no take mark stands on one, whose run or departure the event changed or
that it leaves pinned (R15, R145, R146). -/
theorem State.dropChangedHeads_spec (before s : State) :
    (∀ b ∈ (State.dropChangedHeads before s).hand.bids, ∀ h, b.head = some h → State.headChanged before s h.bus = false) ∧
    (∀ e ∈ (State.dropChangedHeads before s).laneEntries, e.mark.isSome = true →
      State.headChanged before s e.visit.bus = false) := by
  simp only [State.dropChangedHeads]
  constructor
  · intro b hb h hh
    have hb' : b ∈ ((s.hand.bids.filter (fun e => match e.head with
      | some h => State.headChanged before s h.bus
      | none => false)).foldl (fun t e => t.removeBid e.tag) s).hand.bids := by
      split at hb <;> exact hb
    rw [State.foldl_removeBid_bids, List.mem_filter] at hb'
    by_contra hc
    have := List.all_eq_true.1 hb'.2 b (List.mem_filter.2 ⟨hb'.1, by simpa [hh] using hc⟩)
    simp at this
  · intro e he hm
    split at he
    · obtain ⟨l, hl, he⟩ := List.mem_flatMap.1 he
      obtain ⟨l', -, rfl⟩ := List.mem_map.1 hl
      obtain ⟨e', -, rfl⟩ := List.mem_map.1 he
      by_contra hc
      split at hm <;> split at hc <;> simp_all
    · rename_i hn
      by_contra hc
      exact hn (List.any_eq_true.2 ⟨e, he, by simp_all⟩)

/-! ## Swap requests (R21, R140, R148, R149) -/

/-- A swap request joins with the entry ASKING, or nothing changes: where the list is full or names the run already. -/
theorem State.askSwap_cases (n : Nat) (e : LaneEntry) (ahead : List LaneEntry) (s : State) :
    (s.outboundFull = false ∧ s.item? (.swapRun e.visit.duty.run) = none ∧
      s.askSwap n e ahead = (s.setAsk n e.visit.bus .asking).join (.swap (swapRequestOf e ahead)) none) ∨
    ((s.outboundFull = true ∨ (s.item? (.swapRun e.visit.duty.run)).isSome = true) ∧ s.askSwap n e ahead = s) := by
  by_cases hf : s.outboundFull = true
  · exact .inr ⟨.inl hf, by simp [State.askSwap, hf]⟩
  · by_cases hi : (s.item? (.swapRun e.visit.duty.run)).isSome = true
    · exact .inr ⟨.inr hi, by simp [State.askSwap, hi]⟩
    · exact .inl ⟨by simpa using hf, by simpa using hi, by simp [State.askSwap, hf, hi]⟩

/-- The asking entry of a run is a PARKED and ASKING entry of its lane that carries the run and is not pinned (R15, R140). -/
theorem State.asker?_spec {s : State} {run n : Nat} {e : LaneEntry} (h : s.asker? run = some (n, e)) :
    ∃ l, s.lanes[n]? = some l ∧ e ∈ l.entries ∧ e.state = .parked ∧ e.ask = .asking ∧ e.visit.duty.run = run ∧
      e.visit.duty.pinned = false := by
  obtain ⟨k, -, hk⟩ := List.exists_of_findSome?_eq_some h
  rw [Option.map_eq_some_iff] at hk
  obtain ⟨x, hx, he⟩ := hk
  cases he
  obtain ⟨l, hl, hf⟩ := Option.bind_eq_some_iff.1 hx
  have hp := List.find?_some hf
  simp only [LaneEntry.asksFor, Bool.and_eq_true, decide_eq_true_eq, Bool.not_eq_true'] at hp
  exact ⟨l, hl, List.mem_of_find?_eq_some hf, hp.1.1.1, hp.1.1.2, hp.1.2, hp.2⟩

/-! ## FINISHED entries of a point (R102, R119, R122, R124) -/

/-- A FINISHED entry that asks leaves its queue and joins the outbound list, or nothing changes: where no entry of the bus is
FINISHED, or the list is full. -/
theorem State.askJoin_cases (p : PointId) (b : Nat) (s : State) :
    (∃ e ∈ (s.point p).queue, e.visit.bus = b ∧ e.state = .finished ∧ s.outboundFull = false ∧
      s.askJoin p b = (s.modPoint p (Point.dropEntry b)).join (.visit e.visit) (some (.point p))) ∨
    ((s.outboundFull = true ∨ ∀ e ∈ (s.point p).queue, e.visit.bus = b → e.state ≠ .finished) ∧ s.askJoin p b = s) := by
  cases h : (s.point p).queue.find? (fun e => decide (e.visit.bus = b) && decide (e.state = .finished)) with
  | none =>
    have hn := List.find?_eq_none.1 h
    exact .inr ⟨.inr fun e he hb hf => hn e he (by simp [hb, hf]), by simp [State.askJoin, h]⟩
  | some e =>
    have hp := List.find?_some h
    simp only [Bool.and_eq_true, decide_eq_true_eq] at hp
    by_cases hf : s.outboundFull = true
    · exact .inr ⟨.inl hf, by simp [State.askJoin, h, hf]⟩
    · exact .inl ⟨e, List.mem_of_find?_eq_some h, hp.1, hp.2, by simpa using hf, by simp [State.askJoin, h, hf]⟩

/-- At a washing lane in FAULT an entry becomes FINISHED: one that awaits a RECORD stays so and no other thing changes, any
other asks to join at once, and a bus with no entry changes nothing. -/
theorem State.finishFaulted_cases (p : PointId) (b : Nat) (f : VisitRecord → VisitRecord) (s : State) :
    let t := s.modPoint p (Point.modEntry b (fun x => { x with state := .finished, visit := f x.visit, passedOn := true }))
    ((s.point p).entry? b = none ∧ s.finishFaulted p b f = s) ∨
    ∃ e, (s.point p).entry? b = some e ∧
      ((e.recordAwaited.isSome = true ∧ s.finishFaulted p b f = t) ∨
        (e.recordAwaited = none ∧ s.finishFaulted p b f = t.askJoin p b)) := by
  cases h : (s.point p).entry? b with
  | none => exact .inl ⟨rfl, by simp [State.finishFaulted, h]⟩
  | some e => cases hr : e.recordAwaited <;> exact .inr ⟨e, rfl, by simp [State.finishFaulted, h, hr]⟩

end Sys2Proof.Machine
end

