-- ==== Sys2Proof/Laws/CapacityOps.lean ====
section
/-! SUPPORT. The capacities of the lists (R21, R30, R47, R86, R170, R187) under the operations of Machine/Ops.lean. -/

set_option linter.all false

namespace Sys2Proof.Machine

open Sys2Proof

/-- A node whose lists are no longer than those of a node within its capacities. -/
theorem State.capacity_of {s t : State} (h : s.withinCapacity)
    (ho : t.hand.outbound.length ≤ s.hand.outbound.length) (hb : t.hand.bids.length ≤ s.hand.bids.length)
    (hr : t.loader.reports.length ≤ s.loader.reports.length)
    (hx : t.line.transmit.length + t.line.muted.toList.length ≤ s.line.transmit.length + s.line.muted.toList.length)
    (hl : ∀ l ∈ t.lanes, l.entries.length ≤ Config.laneCapacity)
    (hq : ∀ p, (t.point p).queue.length ≤ Config.queueCapacity) : t.withinCapacity :=
  ⟨ho.trans h.1, hb.trans h.2.1, hr.trans h.2.2.1, hx.trans h.2.2.2.1, hl, hq⟩

/-- A fold of steps that keep the capacities keeps them. -/
theorem foldl_capacity {α : Type} (f : State → α → State) (hf : ∀ t x, t.withinCapacity → (f t x).withinCapacity)
    (l : List α) : ∀ s : State, s.withinCapacity → (l.foldl f s).withinCapacity := by
  induction l with
  | nil => intro s h; exact h
  | cons x xs ih => intro s h; exact ih _ (hf s x h)

@[simp] theorem State.setPoint_capacity (p : PointId) (v : Point) (s : State) (h : s.withinCapacity)
    (hv : v.queue.length ≤ Config.queueCapacity) : (State.setPoint p v s).withinCapacity := by
  obtain ⟨h1, h2, h3, h4, h5, h6⟩ := h
  cases p
  · exact ⟨h1, h2, h3, h4, h5, fun q => by cases q; exacts [hv, h6 .p1]⟩
  · exact ⟨h1, h2, h3, h4, h5, fun q => by cases q; exacts [h6 .p0, hv]⟩

/-- The queue of a point of a node within its capacities. -/
theorem State.queue_capacity {s : State} (h : s.withinCapacity) (p : PointId) :
    (s.point p).queue.length ≤ Config.queueCapacity := h.2.2.2.2.2 p

/-- The entry list of a lane of a node within its capacities. -/
theorem State.lane_capacity {s : State} (h : s.withinCapacity) {l : Lane} (hl : l ∈ s.lanes) :
    l.entries.length ≤ Config.laneCapacity := h.2.2.2.2.1 l hl

/-- A point changed by a function that makes its queue no longer. -/
@[simp] theorem State.modPoint_capacity (p : PointId) (f : Point → Point) (s : State) (h : s.withinCapacity)
    (hf : (f (s.point p)).queue.length ≤ (s.point p).queue.length) : (State.modPoint p f s).withinCapacity :=
  State.setPoint_capacity p _ s h (hf.trans (State.queue_capacity h p))

@[simp] theorem State.setDetector_capacity (pin : Pin) (d : Detector) (s : State) (h : s.withinCapacity) :
    (State.setDetector pin d s).withinCapacity := by
  exact State.capacity_of h le_rfl le_rfl le_rfl le_rfl h.2.2.2.2.1 h.2.2.2.2.2

@[simp] theorem State.setRetry_capacity (v : Bool) (s : State) (h : s.withinCapacity) :
    (State.setRetry v s).withinCapacity := by
  exact State.capacity_of h le_rfl le_rfl le_rfl le_rfl h.2.2.2.2.1 h.2.2.2.2.2

@[simp] theorem State.place_capacity (body : FrameBody) (destination : Nat) (s : State) (h : s.withinCapacity) :
    (State.place body destination s).withinCapacity := by
  have hm : (s.place body destination).line.muted = s.line.muted := by rw [State.place_eq]
  have hx := State.place_transmit_length body destination s h.2.2.2.1
  rw [State.place_eq]
  exact ⟨h.1, h.2.1, h.2.2.1, by rw [hm] at hx; exact hx, h.2.2.2.2.1, h.2.2.2.2.2⟩

@[simp] theorem State.send_capacity (body : FrameBody) (s : State) (h : s.withinCapacity) :
    (State.send body s).withinCapacity := by
  exact State.place_capacity body _ s h

@[simp] theorem State.dropFrames_capacity (p : FrameBody → Bool) (s : State) (h : s.withinCapacity) :
    (State.dropFrames p s).withinCapacity := by
  exact State.capacity_of h le_rfl le_rfl le_rfl (Nat.add_le_add_right (List.length_filter_le _ _) _) h.2.2.2.2.1 h.2.2.2.2.2

@[simp] theorem State.placeHeadReport_capacity (s : State) (h : s.withinCapacity) :
    (State.placeHeadReport s).withinCapacity := by
  simp only [State.placeHeadReport]
  repeat' split
  all_goals simp [h]

@[simp] theorem State.setReports_capacity (l : List Report) (s : State) (h : s.withinCapacity)
    (hl : l.length ≤ Config.reportCapacity) : (State.setReports l s).withinCapacity :=
  ⟨h.1, h.2.1, hl, h.2.2.2.1, h.2.2.2.2.1, h.2.2.2.2.2⟩

@[simp] theorem State.countReport_capacity (s : State) (h : s.withinCapacity) :
    (State.countReport s).withinCapacity := by
  exact State.capacity_of h le_rfl le_rfl le_rfl le_rfl h.2.2.2.2.1 h.2.2.2.2.2

@[simp] theorem State.report_capacity (b : ReportBody) (s : State) (h : s.withinCapacity) :
    (State.report b s).withinCapacity := by
  have h8 := h.2.2.1
  simp only [State.report]
  repeat' split
  · exact h
  · exact State.placeHeadReport_capacity _ (State.setReports_capacity _ _ (State.countReport_capacity s h) (by simp; omega))
  · exact State.setReports_capacity _ _ (State.countReport_capacity s h) (by simp; omega)
  · exact State.setReports_capacity _ _ (State.countReport_capacity s h)
      (by simp [Config.reportCapacity] at *; omega)
  · exact State.placeHeadReport_capacity _ (State.dropFrames_capacity _ _
      (State.setReports_capacity _ _ (State.countReport_capacity s h) (by simp [Config.reportCapacity] at *; omega)))

@[simp] theorem State.popReport_capacity (s : State) (h : s.withinCapacity) :
    (State.popReport s).withinCapacity := by
  exact State.placeHeadReport_capacity _ (State.setRetry_capacity _ _
    (State.setReports_capacity _ s h (by have := h.2.2.1; simp; omega)))

@[simp] theorem State.startTransfer_capacity (s : State) (h : s.withinCapacity) :
    (State.startTransfer s).withinCapacity := by
  simp only [State.startTransfer]
  split <;> exact State.capacity_of h le_rfl le_rfl le_rfl le_rfl h.2.2.2.2.1 h.2.2.2.2.2

@[simp] theorem State.setGuide_capacity (place : GuidePlace) (code : Guide) (bus : Option Nat) (s : State) (h :
    s.withinCapacity) :
    (State.setGuide place code bus s).withinCapacity := by
  rw [State.setGuide_eq]
  exact State.capacity_of h le_rfl le_rfl le_rfl le_rfl h.2.2.2.2.1 h.2.2.2.2.2

@[simp] theorem State.setLanes_capacity (lanes : List Lane) (s : State) (h : s.withinCapacity)
    (hl : ∀ l ∈ lanes, l.entries.length ≤ Config.laneCapacity) : (State.setLanes lanes s).withinCapacity :=
  ⟨h.1, h.2.1, h.2.2.1, h.2.2.2.1, hl, h.2.2.2.2.2⟩

theorem mem_modify_lane {n : Nat} {f : Lane → Lane} {lanes : List Lane} {l : Lane} (h : l ∈ lanes.modify n f) :
    l ∈ lanes ∨ ∃ l' ∈ lanes, l = f l' := by
  obtain ⟨k, hk⟩ := List.mem_iff_getElem?.1 h
  rw [List.getElem?_modify] at hk
  split at hk
  · obtain ⟨l', h1, h2⟩ := Option.map_eq_some_iff.1 hk
    exact .inr ⟨l', List.mem_of_getElem? h1, h2.symm⟩
  · exact .inl (List.mem_of_getElem? (by simpa using hk))

@[simp] theorem State.modLane_capacity (n : Nat) (f : Lane → Lane) (s : State) (h : s.withinCapacity)
    (hf : ∀ l : Lane, l.entries.length ≤ Config.laneCapacity → (f l).entries.length ≤ Config.laneCapacity) :
    (State.modLane n f s).withinCapacity :=
  State.setLanes_capacity _ s h (fun l hl => by
    rcases mem_modify_lane hl with hl | ⟨l', hl', rfl⟩
    · exact State.lane_capacity h hl
    · exact hf l' (State.lane_capacity h hl'))

theorem mem_mapLanesFrom {f : Nat → Lane → Lane} {lanes : List Lane} {l : Lane} :
    ∀ {n : Nat}, l ∈ mapLanesFrom f n lanes → ∃ k, ∃ l' ∈ lanes, l = f k l' := by
  induction lanes with
  | nil => intro n h; cases h
  | cons x xs ih =>
    intro n h
    rcases List.mem_cons.1 h with h | h
    · exact ⟨n, x, by simp, h⟩
    · obtain ⟨k, l', h1, h2⟩ := ih h
      exact ⟨k, l', by simp [h1], h2⟩

@[simp] theorem State.removeLaneEntries_capacity (p : Nat → LaneEntry → Bool) (s : State) (h : s.withinCapacity) :
    (State.removeLaneEntries p s).withinCapacity := by
  refine State.setLanes_capacity _ s h (fun l hl => ?_)
  obtain ⟨k, l', h1, rfl⟩ := mem_mapLanesFrom hl
  rw [Lane.without_entries]
  exact (List.length_filter_le _ _).trans (State.lane_capacity h h1)

@[simp] theorem State.overfullTest_capacity (n b : Nat) (s : State) (h : s.withinCapacity) :
    (State.overfullTest n b s).withinCapacity := by
  simp only [State.overfullTest]
  repeat' split
  all_goals first
    | (simp [h]; done)
    | (simp [h, foldl_capacity]; done)
    | exact h
    | (exact State.capacity_of h (by first | rfl | simp | (simp [List.length_filter_le]; done)) (by first | rfl | simp | (simp [List.length_filter_le]; done))
        (by first | rfl | simp) (by first | rfl | simp | (simp [List.length_filter_le]; done))
        (by first | exact h.2.2.2.2.1 | simp [h.2.2.2.2.1]) (by first | exact h.2.2.2.2.2 | simp [h.2.2.2.2.2]))

@[simp] theorem State.mapVisits_capacity (f : VisitRecord → VisitRecord) (s : State) (h : s.withinCapacity) :
    (State.mapVisits f s).withinCapacity := by
  obtain ⟨h1, h2, h3, h4, h5, h6⟩ := h
  refine ⟨by simpa [State.mapVisits] using h1, by simpa [State.mapVisits] using h2, h3,
    by simpa [State.mapVisits] using h4, fun l hl => ?_, fun p => ?_⟩
  · simp only [State.mapVisits, State.setLanes, List.mem_map] at hl
    obtain ⟨l', hl', rfl⟩ := hl
    simpa using h5 l' hl'
  · have := h6 p
    cases p <;> simpa [State.mapVisits, State.point, Point.mapVisit] using this

@[simp] theorem State.modItem_capacity (k : ItemKey) (f : OutItem → OutItem) (s : State) (h : s.withinCapacity) :
    (State.modItem k f s).withinCapacity := by
  exact State.capacity_of h (by simp [State.modItem]) le_rfl le_rfl le_rfl h.2.2.2.2.1 h.2.2.2.2.2

@[simp] theorem State.removeItem_capacity (k : ItemKey) (s : State) (h : s.withinCapacity) :
    (State.removeItem k s).withinCapacity := by
  exact State.capacity_of h (List.length_filter_le _ _) le_rfl le_rfl le_rfl h.2.2.2.2.1 h.2.2.2.2.2

@[simp] theorem State.takeNumber_capacity (s : State) (h : s.withinCapacity) :
    (State.takeNumber s).withinCapacity := by
  exact State.capacity_of h le_rfl le_rfl le_rfl le_rfl h.2.2.2.2.1 h.2.2.2.2.2

@[simp] theorem State.setOffer_capacity (o : Option OpenOffer) (s : State) (h : s.withinCapacity) :
    (State.setOffer o s).withinCapacity := by
  exact State.capacity_of h le_rfl le_rfl le_rfl le_rfl h.2.2.2.2.1 h.2.2.2.2.2

@[simp] theorem State.startOffer_capacity (it : OutItem) (s : State) (h : s.withinCapacity) :
    (State.startOffer it s).withinCapacity := by
  rcases State.startOffer_cases it s with ⟨-, e⟩ | ⟨-, e⟩ <;> rw [e]
  · exact State.send_capacity _ _ (State.setOffer_capacity _ _ (State.modItem_capacity _ _ _ (State.takeNumber_capacity s h)))
  · exact State.takeNumber_capacity s h

@[simp] theorem State.placeReoffer_capacity (o : OpenOffer) (s : State) (h : s.withinCapacity) :
    (State.placeReoffer o s).withinCapacity := by
  simp only [State.placeReoffer]
  repeat' split
  · exact State.setOffer_capacity _ _ h
  · exact State.send_capacity _ _ (State.setOffer_capacity _ _ (State.modItem_capacity _ _ _ (State.takeNumber_capacity s h)))
  · exact State.setOffer_capacity _ _ (State.modItem_capacity _ _ _ (State.takeNumber_capacity s h))

@[simp] theorem State.offerTest_capacity (s : State) (h : s.withinCapacity) :
    (State.offerTest s).withinCapacity := by
  simp only [State.offerTest]
  repeat' split
  all_goals first
    | (simp [h]; done)
    | (simp [h, foldl_capacity]; done)
    | exact h
    | (exact State.capacity_of h (by first | rfl | simp | (simp [List.length_filter_le]; done)) (by first | rfl | simp | (simp [List.length_filter_le]; done))
        (by first | rfl | simp) (by first | rfl | simp | (simp [List.length_filter_le]; done))
        (by first | exact h.2.2.2.2.1 | simp [h.2.2.2.2.1]) (by first | exact h.2.2.2.2.2 | simp [h.2.2.2.2.2]))

@[simp] theorem State.join_capacity (cargo : Cargo) (place : Option GuidePlace) (s : State) (h : s.withinCapacity) :
    (State.join cargo place s).withinCapacity := by
  rcases State.join_cases cargo place s with ⟨-, e⟩ | ⟨hl, e⟩ <;> rw [e]
  · exact h
  · exact State.offerTest_capacity _
      ⟨by simp [Config.outboundCapacity] at *; omega, h.2.1, h.2.2.1, h.2.2.2.1, h.2.2.2.2.1, h.2.2.2.2.2⟩

@[simp] theorem State.cancelOffer_capacity (k : ItemKey) (s : State) (h : s.withinCapacity) :
    (State.cancelOffer k s).withinCapacity := by
  simp only [State.cancelOffer]
  repeat' split
  all_goals first
    | (simp [h]; done)
    | (simp [h, foldl_capacity]; done)
    | exact h
    | (exact State.capacity_of h (by first | rfl | simp | (simp [List.length_filter_le]; done)) (by first | rfl | simp | (simp [List.length_filter_le]; done))
        (by first | rfl | simp) (by first | rfl | simp | (simp [List.length_filter_le]; done))
        (by first | exact h.2.2.2.2.1 | simp [h.2.2.2.2.1]) (by first | exact h.2.2.2.2.2 | simp [h.2.2.2.2.2]))

@[simp] theorem State.withdrawSwaps_capacity (s : State) (h : s.withinCapacity) :
    (State.withdrawSwaps s).withinCapacity := by
  simp only [State.withdrawSwaps]
  split
  · exact h
  · exact State.offerTest_capacity _ (foldl_capacity _ (fun t x ht => by simp [ht]) _ _ h)

@[simp] theorem State.callEntry_capacity (n : Nat) (e : LaneEntry) (s : State) (h : s.withinCapacity) :
    (State.callEntry n e s).withinCapacity := by
  exact State.withdrawSwaps_capacity _ (State.send_capacity _ _ (State.modLane_capacity _ _ _ h (fun l hl => by simpa using hl)))

@[simp] theorem State.headTest_capacity (n : Nat) (s : State) (h : s.withinCapacity) :
    (State.headTest n s).withinCapacity := by
  simp only [State.headTest]
  repeat' split
  all_goals first
    | (simp [h]; done)
    | (simp [h, foldl_capacity]; done)
    | exact h
    | (exact State.capacity_of h (by first | rfl | simp | (simp [List.length_filter_le]; done)) (by first | rfl | simp | (simp [List.length_filter_le]; done))
        (by first | rfl | simp) (by first | rfl | simp | (simp [List.length_filter_le]; done))
        (by first | exact h.2.2.2.2.1 | simp [h.2.2.2.2.1]) (by first | exact h.2.2.2.2.2 | simp [h.2.2.2.2.2]))

@[simp] theorem State.removeBid_capacity (tag : Tag) (s : State) (h : s.withinCapacity) :
    (State.removeBid tag s).withinCapacity := by
  exact State.dropFrames_capacity _ _
    (State.capacity_of h le_rfl (List.length_filter_le _ _) le_rfl le_rfl h.2.2.2.2.1 h.2.2.2.2.2)

@[simp] theorem State.removeQueueEntries_capacity (p : QueueEntry → Bool) (s : State) (h : s.withinCapacity) :
    (State.removeQueueEntries p s).withinCapacity := by
  refine State.capacity_of h le_rfl le_rfl le_rfl le_rfl h.2.2.2.2.1 (fun p => ?_)
  rw [State.removeQueueEntries_queue]
  exact (List.length_filter_le _ _).trans (State.queue_capacity h p)

@[simp] theorem State.removeTentative_capacity (tag : Tag) (s : State) (h : s.withinCapacity) :
    (State.removeTentative tag s).withinCapacity := by
  simp only [State.removeTentative]
  repeat' split
  all_goals first
    | (simp [h]; done)
    | (simp [h, foldl_capacity]; done)
    | exact h
    | (exact State.capacity_of h (by first | rfl | simp | (simp [List.length_filter_le]; done)) (by first | rfl | simp | (simp [List.length_filter_le]; done))
        (by first | rfl | simp) (by first | rfl | simp | (simp [List.length_filter_le]; done))
        (by first | exact h.2.2.2.2.1 | simp [h.2.2.2.2.1]) (by first | exact h.2.2.2.2.2 | simp [h.2.2.2.2.2]))

@[simp] theorem State.removeExpected_capacity (tag : Tag) (s : State) (h : s.withinCapacity) :
    (State.removeExpected tag s).withinCapacity := by
  simp only [State.removeExpected]
  repeat' split
  all_goals first
    | (simp [h]; done)
    | (simp [h, foldl_capacity]; done)
    | exact h
    | (exact State.capacity_of h (by first | rfl | simp | (simp [List.length_filter_le]; done)) (by first | rfl | simp | (simp [List.length_filter_le]; done))
        (by first | rfl | simp) (by first | rfl | simp | (simp [List.length_filter_le]; done))
        (by first | exact h.2.2.2.2.1 | simp [h.2.2.2.2.1]) (by first | exact h.2.2.2.2.2 | simp [h.2.2.2.2.2]))

@[simp] theorem State.dropBid_capacity (tag : Tag) (s : State) (h : s.withinCapacity) :
    (State.dropBid tag s).withinCapacity := by
  simp only [State.dropBid]
  repeat' split
  all_goals first
    | (simp [h]; done)
    | (simp [h, foldl_capacity]; done)
    | exact h
    | (exact State.capacity_of h (by first | rfl | simp | (simp [List.length_filter_le]; done)) (by first | rfl | simp | (simp [List.length_filter_le]; done))
        (by first | rfl | simp) (by first | rfl | simp | (simp [List.length_filter_le]; done))
        (by first | exact h.2.2.2.2.1 | simp [h.2.2.2.2.1]) (by first | exact h.2.2.2.2.2 | simp [h.2.2.2.2.2]))

@[simp] theorem State.dropClaim_capacity (tag : Tag) (s : State) (h : s.withinCapacity) :
    (State.dropClaim tag s).withinCapacity := by
  simp only [State.dropClaim]
  repeat' split
  all_goals first
    | (simp [h]; done)
    | (simp [h, foldl_capacity]; done)
    | exact h
    | (exact State.capacity_of h (by first | rfl | simp | (simp [List.length_filter_le]; done)) (by first | rfl | simp | (simp [List.length_filter_le]; done))
        (by first | rfl | simp) (by first | rfl | simp | (simp [List.length_filter_le]; done))
        (by first | exact h.2.2.2.2.1 | simp [h.2.2.2.2.1]) (by first | exact h.2.2.2.2.2 | simp [h.2.2.2.2.2]))

@[simp] theorem State.dropBidsOf_capacity (b : Nat) (s : State) (h : s.withinCapacity) :
    (State.dropBidsOf b s).withinCapacity := by
  exact foldl_capacity _ (fun t x ht => by simp [ht]) _ _ h

@[simp] theorem State.dropLostHeads_capacity (s : State) (h : s.withinCapacity) :
    (State.dropLostHeads s).withinCapacity := by
  simp only [State.dropLostHeads]
  have ht := foldl_capacity (fun (t : State) (e : BidEntry) => t.removeBid e.tag) (fun t x ht => by simp [ht])
    (s.hand.bids.filter (fun e => match e.head with
      | some h => !s.isParkedHead e.resource h.bus
      | none => false)) s h
  split
  · refine State.setLanes_capacity _ _ ht (fun l hl => ?_)
    obtain ⟨l', hl', rfl⟩ := List.mem_map.1 hl
    have := State.lane_capacity ht hl'
    simp
    omega
  · exact ht

@[simp] theorem State.settle_capacity (before s : State) (h : s.withinCapacity) :
    (State.settle before s).withinCapacity := by
  exact foldl_capacity _ (fun t n ht => by split <;> simp [ht]) _ _ (by simp [h])

@[simp] theorem State.reportAdjusted_capacity (bus run wall : Nat) (s : State) (h : s.withinCapacity) :
    (State.reportAdjusted bus run wall s).withinCapacity := by
  simp only [State.reportAdjusted]
  repeat' split
  all_goals first
    | (simp [h]; done)
    | (simp [h, foldl_capacity]; done)
    | exact h
    | (exact State.capacity_of h (by first | rfl | simp | (simp [List.length_filter_le]; done)) (by first | rfl | simp | (simp [List.length_filter_le]; done))
        (by first | rfl | simp) (by first | rfl | simp | (simp [List.length_filter_le]; done))
        (by first | exact h.2.2.2.2.1 | simp [h.2.2.2.2.1]) (by first | exact h.2.2.2.2.2 | simp [h.2.2.2.2.2]))

@[simp] theorem State.dropChangedHeads_capacity (before s : State) (h : s.withinCapacity) :
    (State.dropChangedHeads before s).withinCapacity := by
  simp only [State.dropChangedHeads]
  have ht := foldl_capacity (fun (t : State) (e : BidEntry) => t.removeBid e.tag) (fun t x ht => by simp [ht])
    (s.hand.bids.filter (fun e => match e.head with
      | some h => State.headChanged before s h.bus
      | none => false)) s h
  split
  · refine State.setLanes_capacity _ _ ht (fun l hl => ?_)
    obtain ⟨l', hl', rfl⟩ := List.mem_map.1 hl
    simpa using State.lane_capacity ht hl'
  · exact ht

@[simp] theorem State.bindBus_capacity (bus run wall : Nat) (pinned substituted : Bool) (s : State) (h :
    s.withinCapacity) :
    (State.bindBus bus run wall pinned substituted s).withinCapacity := by
  have := State.dropChangedHeads_capacity s _ (State.mapVisits_capacity
    (bindVisit bus run (Duty.bindTo s.clock run wall pinned substituted)) s h)
  simp only [State.bindBus]
  split
  · exact State.reportAdjusted_capacity _ _ _ _ this
  · exact this

@[simp] theorem State.unbindBus_capacity (bus : Nat) (s : State) (h : s.withinCapacity) :
    (State.unbindBus bus s).withinCapacity := by
  exact State.dropChangedHeads_capacity _ _ (State.mapVisits_capacity _ s h)

end Sys2Proof.Machine
end

