-- ==== Sys2Proof/Laws/SteadyOps.lean ====
section
/-! SUPPORT. The steady part of the node (Safety.lean) under the operations of Machine/Ops.lean. -/

set_option linter.all false
set_option linter.unusedSimpArgs false
set_option linter.unusedTactic false
set_option linter.unreachableTactic false

namespace Sys2Proof.Machine

open Sys2Proof

/-- A fold of steps that keep the steady part keeps it. -/
theorem foldl_steady {α : Type} (f : State → α → State) (h : ∀ t x, (f t x).steady = t.steady) (l : List α) :
    ∀ s : State, (l.foldl f s).steady = s.steady := by
  induction l with
  | nil => intro s; rfl
  | cons x xs ih => intro s; rw [List.foldl_cons, ih, h]

/-- Lanes replaced by as many lanes. -/
@[simp] theorem State.setLanes_steady (l : List Lane) (s : State) (h : l.length = s.lanes.length) :
    (State.setLanes l s).steady = s.steady := by
  simp [State.steady, h]

@[simp] theorem mapLanesFrom_length (f : Nat → Lane → Lane) (n : Nat) (l : List Lane) :
    (mapLanesFrom f n l).length = l.length := by
  induction l generalizing n with
  | nil => rfl
  | cons x xs ih => simp [mapLanesFrom, ih]

@[simp] theorem State.setPoint_steady (p : PointId) (v : Point) (s : State) :
    (State.setPoint p v s).steady = s.steady := by
  simp only [State.setPoint]
  repeat' split
  all_goals first | (simp; done) | (simp [foldl_steady, apply_ite State.steady]; done) | (simp; rfl) | rfl | (simp [State.steady]; done)

@[simp] theorem State.modPoint_steady (p : PointId) (f : Point → Point) (s : State) :
    (State.modPoint p f s).steady = s.steady := by
  simp only [State.modPoint]
  repeat' split
  all_goals first | (simp; done) | (simp [foldl_steady, apply_ite State.steady]; done) | (simp; rfl) | rfl | (simp [State.steady]; done)

@[simp] theorem State.setDetector_steady (pin : Pin) (d : Detector) (s : State) :
    (State.setDetector pin d s).steady = s.steady := by
  simp only [State.setDetector]
  repeat' split
  all_goals first | (simp; done) | (simp [foldl_steady, apply_ite State.steady]; done) | (simp; rfl) | rfl | (simp [State.steady]; done)

@[simp] theorem State.enqueue_steady (body : FrameBody) (destination : Nat) (s : State) :
    (State.enqueue body destination s).steady = s.steady := by
  simp only [State.enqueue]
  repeat' split
  all_goals first | (simp; done) | (simp [foldl_steady, apply_ite State.steady]; done) | (simp; rfl) | rfl | (simp [State.steady]; done)

@[simp] theorem State.setRetry_steady (v : Bool) (s : State) :
    (State.setRetry v s).steady = s.steady := by
  simp only [State.setRetry]
  repeat' split
  all_goals first | (simp; done) | (simp [foldl_steady, apply_ite State.steady]; done) | (simp; rfl) | rfl | (simp [State.steady]; done)

@[simp] theorem State.displace_steady (s : State) :
    (State.displace s).steady = s.steady := by
  simp only [State.displace]
  repeat' split
  all_goals first | (simp; done) | (simp [foldl_steady, apply_ite State.steady]; done) | (simp; rfl) | rfl | (simp [State.steady]; done)

@[simp] theorem State.place_steady (body : FrameBody) (destination : Nat) (s : State) :
    (State.place body destination s).steady = s.steady := by
  simp only [State.place]
  repeat' split
  all_goals first | (simp; done) | (simp [foldl_steady, apply_ite State.steady]; done) | (simp; rfl) | rfl | (simp [State.steady]; done)

@[simp] theorem State.send_steady (body : FrameBody) (s : State) :
    (State.send body s).steady = s.steady := by
  simp only [State.send]
  repeat' split
  all_goals first | (simp; done) | (simp [foldl_steady, apply_ite State.steady]; done) | (simp; rfl) | rfl | (simp [State.steady]; done)

@[simp] theorem State.dropFrames_steady (p : FrameBody → Bool) (s : State) :
    (State.dropFrames p s).steady = s.steady := by
  simp only [State.dropFrames]
  repeat' split
  all_goals first | (simp; done) | (simp [foldl_steady, apply_ite State.steady]; done) | (simp; rfl) | rfl | (simp [State.steady]; done)

@[simp] theorem State.placeHeadReport_steady (s : State) :
    (State.placeHeadReport s).steady = s.steady := by
  simp only [State.placeHeadReport]
  repeat' split
  all_goals first | (simp; done) | (simp [foldl_steady, apply_ite State.steady]; done) | (simp; rfl) | rfl | (simp [State.steady]; done)

@[simp] theorem State.setReports_steady (l : List Report) (s : State) :
    (State.setReports l s).steady = s.steady := by
  simp only [State.setReports]
  repeat' split
  all_goals first | (simp; done) | (simp [foldl_steady, apply_ite State.steady]; done) | (simp; rfl) | rfl | (simp [State.steady]; done)

@[simp] theorem State.countReport_steady (s : State) :
    (State.countReport s).steady = s.steady := by
  simp only [State.countReport]
  repeat' split
  all_goals first | (simp; done) | (simp [foldl_steady, apply_ite State.steady]; done) | (simp; rfl) | rfl | (simp [State.steady]; done)

@[simp] theorem State.report_steady (b : ReportBody) (s : State) :
    (State.report b s).steady = s.steady := by
  simp only [State.report]
  repeat' split
  all_goals first | (simp; done) | (simp [foldl_steady, apply_ite State.steady]; done) | (simp; rfl) | rfl | (simp [State.steady]; done)

@[simp] theorem State.popReport_steady (s : State) :
    (State.popReport s).steady = s.steady := by
  simp only [State.popReport]
  repeat' split
  all_goals first | (simp; done) | (simp [foldl_steady, apply_ite State.steady]; done) | (simp; rfl) | rfl | (simp [State.steady]; done)

@[simp] theorem State.startTransfer_steady (s : State) :
    (State.startTransfer s).steady = s.steady := by
  simp only [State.startTransfer]
  repeat' split
  all_goals first | (simp; done) | (simp [foldl_steady, apply_ite State.steady]; done) | (simp; rfl) | rfl | (simp [State.steady]; done)

@[simp] theorem State.setGuide_steady (place : GuidePlace) (code : Guide) (bus : Option Nat) (s : State) :
    (State.setGuide place code bus s).steady = s.steady := by
  simp only [State.setGuide]
  repeat' split
  all_goals first | (simp; done) | (simp [foldl_steady, apply_ite State.steady]; done) | (simp; rfl) | rfl | (simp [State.steady]; done)

@[simp] theorem State.modLane_steady (n : Nat) (f : Lane → Lane) (s : State) :
    (State.modLane n f s).steady = s.steady := by
  simp only [State.modLane]
  repeat' split
  all_goals first | (simp; done) | (simp [foldl_steady, apply_ite State.steady]; done) | (simp; rfl) | rfl | (simp [State.steady]; done)

@[simp] theorem State.removeLaneEntries_steady (p : Nat → LaneEntry → Bool) (s : State) :
    (State.removeLaneEntries p s).steady = s.steady := by
  simp only [State.removeLaneEntries]
  repeat' split
  all_goals first | (simp; done) | (simp [foldl_steady, apply_ite State.steady]; done) | (simp; rfl) | rfl | (simp [State.steady]; done)

@[simp] theorem State.overfullTest_steady (n b : Nat) (s : State) :
    (State.overfullTest n b s).steady = s.steady := by
  simp only [State.overfullTest]
  repeat' split
  all_goals first | (simp; done) | (simp [foldl_steady, apply_ite State.steady]; done) | (simp; rfl) | rfl | (simp [State.steady]; done)

@[simp] theorem State.mapVisits_steady (f : VisitRecord → VisitRecord) (s : State) :
    (State.mapVisits f s).steady = s.steady := by
  simp only [State.mapVisits]
  repeat' split
  all_goals first | (simp; done) | (simp [foldl_steady, apply_ite State.steady]; done) | (simp; rfl) | rfl | (simp [State.steady]; done)

@[simp] theorem State.modItem_steady (k : ItemKey) (f : OutItem → OutItem) (s : State) :
    (State.modItem k f s).steady = s.steady := by
  simp only [State.modItem]
  repeat' split
  all_goals first | (simp; done) | (simp [foldl_steady, apply_ite State.steady]; done) | (simp; rfl) | rfl | (simp [State.steady]; done)

@[simp] theorem State.removeItem_steady (k : ItemKey) (s : State) :
    (State.removeItem k s).steady = s.steady := by
  simp only [State.removeItem]
  repeat' split
  all_goals first | (simp; done) | (simp [foldl_steady, apply_ite State.steady]; done) | (simp; rfl) | rfl | (simp [State.steady]; done)

@[simp] theorem State.takeNumber_steady (s : State) :
    (State.takeNumber s).steady = s.steady := by
  simp only [State.takeNumber]
  repeat' split
  all_goals first | (simp; done) | (simp [foldl_steady, apply_ite State.steady]; done) | (simp; rfl) | rfl | (simp [State.steady]; done)

@[simp] theorem State.setOffer_steady (o : Option OpenOffer) (s : State) :
    (State.setOffer o s).steady = s.steady := by
  simp only [State.setOffer]
  repeat' split
  all_goals first | (simp; done) | (simp [foldl_steady, apply_ite State.steady]; done) | (simp; rfl) | rfl | (simp [State.steady]; done)

@[simp] theorem State.startOffer_steady (it : OutItem) (s : State) :
    (State.startOffer it s).steady = s.steady := by
  simp only [State.startOffer]
  repeat' split
  all_goals first | (simp; done) | (simp [foldl_steady, apply_ite State.steady]; done) | (simp; rfl) | rfl | (simp [State.steady]; done)

@[simp] theorem State.placeReoffer_steady (o : OpenOffer) (s : State) :
    (State.placeReoffer o s).steady = s.steady := by
  simp only [State.placeReoffer]
  repeat' split
  all_goals first | (simp; done) | (simp [foldl_steady, apply_ite State.steady]; done) | (simp; rfl) | rfl | (simp [State.steady]; done)

@[simp] theorem State.offerTest_steady (s : State) :
    (State.offerTest s).steady = s.steady := by
  simp only [State.offerTest]
  repeat' split
  all_goals first | (simp; done) | (simp [foldl_steady, apply_ite State.steady]; done) | (simp; rfl) | rfl | (simp [State.steady]; done)

@[simp] theorem State.join_steady (cargo : Cargo) (place : Option GuidePlace) (s : State) :
    (State.join cargo place s).steady = s.steady := by
  simp only [State.join]
  repeat' split
  all_goals first | (simp; done) | (simp [foldl_steady, apply_ite State.steady]; done) | (simp; rfl) | rfl | (simp [State.steady]; done)

@[simp] theorem State.cancelOffer_steady (k : ItemKey) (s : State) :
    (State.cancelOffer k s).steady = s.steady := by
  simp only [State.cancelOffer]
  repeat' split
  all_goals first | (simp; done) | (simp [foldl_steady, apply_ite State.steady]; done) | (simp; rfl) | rfl | (simp [State.steady]; done)

@[simp] theorem State.withdrawSwaps_steady (s : State) :
    (State.withdrawSwaps s).steady = s.steady := by
  simp only [State.withdrawSwaps]
  repeat' split
  all_goals first | (simp; done) | (simp [foldl_steady, apply_ite State.steady]; done) | (simp; rfl) | rfl | (simp [State.steady]; done)

@[simp] theorem State.callEntry_steady (n : Nat) (e : LaneEntry) (s : State) :
    (State.callEntry n e s).steady = s.steady := by
  simp only [State.callEntry]
  repeat' split
  all_goals first | (simp; done) | (simp [foldl_steady, apply_ite State.steady]; done) | (simp; rfl) | rfl | (simp [State.steady]; done)

@[simp] theorem State.headTest_steady (n : Nat) (s : State) :
    (State.headTest n s).steady = s.steady := by
  simp only [State.headTest]
  repeat' split
  all_goals first | (simp; done) | (simp [foldl_steady, apply_ite State.steady]; done) | (simp; rfl) | rfl | (simp [State.steady]; done)

@[simp] theorem State.removeBid_steady (tag : Tag) (s : State) :
    (State.removeBid tag s).steady = s.steady := by
  simp only [State.removeBid]
  repeat' split
  all_goals first | (simp; done) | (simp [foldl_steady, apply_ite State.steady]; done) | (simp; rfl) | rfl | (simp [State.steady]; done)

@[simp] theorem State.removeQueueEntries_steady (p : QueueEntry → Bool) (s : State) :
    (State.removeQueueEntries p s).steady = s.steady := by
  simp only [State.removeQueueEntries]
  repeat' split
  all_goals first | (simp; done) | (simp [foldl_steady, apply_ite State.steady]; done) | (simp; rfl) | rfl | (simp [State.steady]; done)

@[simp] theorem State.removeTentative_steady (tag : Tag) (s : State) :
    (State.removeTentative tag s).steady = s.steady := by
  simp only [State.removeTentative]
  repeat' split
  all_goals first | (simp; done) | (simp [foldl_steady, apply_ite State.steady]; done) | (simp; rfl) | rfl | (simp [State.steady]; done)

@[simp] theorem State.removeExpected_steady (tag : Tag) (s : State) :
    (State.removeExpected tag s).steady = s.steady := by
  simp only [State.removeExpected]
  repeat' split
  all_goals first | (simp; done) | (simp [foldl_steady, apply_ite State.steady]; done) | (simp; rfl) | rfl | (simp [State.steady]; done)

@[simp] theorem State.dropBid_steady (tag : Tag) (s : State) :
    (State.dropBid tag s).steady = s.steady := by
  simp only [State.dropBid]
  repeat' split
  all_goals first | (simp; done) | (simp [foldl_steady, apply_ite State.steady]; done) | (simp; rfl) | rfl | (simp [State.steady]; done)

@[simp] theorem State.dropClaim_steady (tag : Tag) (s : State) :
    (State.dropClaim tag s).steady = s.steady := by
  simp only [State.dropClaim]
  repeat' split
  all_goals first | (simp; done) | (simp [foldl_steady, apply_ite State.steady]; done) | (simp; rfl) | rfl | (simp [State.steady]; done)

@[simp] theorem State.dropBidsOf_steady (b : Nat) (s : State) :
    (State.dropBidsOf b s).steady = s.steady := by
  simp only [State.dropBidsOf]
  repeat' split
  all_goals first | (simp; done) | (simp [foldl_steady, apply_ite State.steady]; done) | (simp; rfl) | rfl | (simp [State.steady]; done)

@[simp] theorem State.dropLostHeads_steady (s : State) :
    (State.dropLostHeads s).steady = s.steady := by
  simp only [State.dropLostHeads]
  repeat' split
  all_goals first | (simp; done) | (simp [foldl_steady, apply_ite State.steady]; done) | (simp; rfl) | rfl | (simp [State.steady]; done)

@[simp] theorem State.settle_steady (before s : State) :
    (State.settle before s).steady = s.steady := by
  simp only [State.settle]
  rw [foldl_steady]
  · simp
  · intro t n
    split <;> simp

@[simp] theorem State.reportAdjusted_steady (bus run wall : Nat) (s : State) :
    (State.reportAdjusted bus run wall s).steady = s.steady := by
  simp only [State.reportAdjusted]
  repeat' split
  all_goals first | (simp; done) | (simp [foldl_steady, apply_ite State.steady]; done) | (simp; rfl) | rfl | (simp [State.steady]; done)

@[simp] theorem State.dropChangedHeads_steady (before s : State) :
    (State.dropChangedHeads before s).steady = s.steady := by
  simp only [State.dropChangedHeads]
  repeat' split
  all_goals first | (simp; done) | (simp [foldl_steady, apply_ite State.steady]; done) | (simp; rfl) | rfl | (simp [State.steady]; done)

@[simp] theorem State.bindBus_steady (bus run wall : Nat) (pinned substituted : Bool) (s : State) :
    (State.bindBus bus run wall pinned substituted s).steady = s.steady := by
  simp only [State.bindBus]
  repeat' split
  all_goals first | (simp; done) | (simp [foldl_steady, apply_ite State.steady]; done) | (simp; rfl) | rfl | (simp [State.steady]; done)

@[simp] theorem State.unbindBus_steady (bus : Nat) (s : State) :
    (State.unbindBus bus s).steady = s.steady := by
  simp only [State.unbindBus]
  repeat' split
  all_goals first | (simp; done) | (simp [foldl_steady, apply_ite State.steady]; done) | (simp; rfl) | rfl | (simp [State.steady]; done)

end Sys2Proof.Machine
end

