-- ==== Sys2Proof/Laws/SteadyYard.lean ====
section
/-! SUPPORT. The steady part of the node (Safety.lean) under the operations of the Service Timeline, the points, strays and the lanes. -/

set_option linter.all false
set_option linter.unusedSimpArgs false
set_option linter.unusedTactic false
set_option linter.unreachableTactic false

namespace Sys2Proof.Machine

open Sys2Proof

@[simp] theorem State.setTable_steady (p : PointId) (t : SlotTable) (s : State) :
    (State.setTable p t s).steady = s.steady := by
  simp only [State.setTable]
  repeat' split
  all_goals first | (simp; done) | (simp [foldl_steady, apply_ite State.steady]; done) | (simp; rfl) | rfl | (simp [State.steady]; done)

@[simp] theorem State.acceptPlan_steady (p : PointId) (f : PlanFields) (s : State) :
    (State.acceptPlan p f s).steady = s.steady := by
  simp only [State.acceptPlan]
  repeat' split
  all_goals first | (simp; done) | (simp [foldl_steady, apply_ite State.steady]; done) | (simp; rfl) | rfl | (simp [State.steady]; done)

@[simp] theorem State.onPlan_steady (source : Nat) (payload : List Byte) (s : State) :
    (State.onPlan source payload s).steady = s.steady := by
  simp only [State.onPlan]
  repeat' split
  all_goals first | (simp; done) | (simp [foldl_steady, apply_ite State.steady]; done) | (simp; rfl) | rfl | (simp [State.steady]; done)

@[simp] theorem State.applyPlans_steady (k : Nat) (s : State) :
    (State.applyPlans k s).steady = s.steady := by
  simp only [State.applyPlans]
  repeat' split
  all_goals first | (simp; done) | (simp [foldl_steady, apply_ite State.steady]; done) | (simp; rfl) | rfl | (simp [State.steady]; done)

@[simp] theorem State.askJoin_steady (p : PointId) (b : Nat) (s : State) :
    (State.askJoin p b s).steady = s.steady := by
  simp only [State.askJoin]
  repeat' split
  all_goals first | (simp; done) | (simp [foldl_steady, apply_ite State.steady]; done) | (simp; rfl) | rfl | (simp [State.steady]; done)

@[simp] theorem State.beginFuel_steady (p : PointId) (e : QueueEntry) (st : SlotState) (s : State) :
    (State.beginFuel p e st s).steady = s.steady := by
  simp only [State.beginFuel]
  repeat' split
  all_goals first | (simp; done) | (simp [foldl_steady, apply_ite State.steady]; done) | (simp; rfl) | rfl | (simp [State.steady]; done)

@[simp] theorem State.beginWash_steady (p : PointId) (e : QueueEntry) (st : SlotState) (s : State) :
    (State.beginWash p e st s).steady = s.steady := by
  simp only [State.beginWash]
  repeat' split
  all_goals first | (simp; done) | (simp [foldl_steady, apply_ite State.steady]; done) | (simp; rfl) | rfl | (simp [State.steady]; done)

@[simp] theorem State.endFuel_steady (p : PointId) (outcome : FuelOutcome) (left : Bool) (s : State) :
    (State.endFuel p outcome left s).steady = s.steady := by
  simp only [State.endFuel]
  repeat' split
  all_goals first | (simp; done) | (simp [foldl_steady, apply_ite State.steady]; done) | (simp; rfl) | rfl | (simp [State.steady]; done)

@[simp] theorem State.leaveClearing_steady (p : PointId) (s : State) :
    (State.leaveClearing p s).steady = s.steady := by
  simp only [State.leaveClearing]
  repeat' split
  all_goals first | (simp; done) | (simp [foldl_steady, apply_ite State.steady]; done) | (simp; rfl) | rfl | (simp [State.steady]; done)

/-- The start tests keep the steady part. -/
@[simp] theorem State.startTests_steady (n : Nat) (p : PointId) : ∀ s : State,
    (State.startTests n p s).steady = s.steady := by
  induction n with
  | zero => intro s; rfl
  | succ n ih =>
    intro s
    simp only [State.startTests]
    repeat' split
    all_goals simp [ih]

@[simp] theorem State.startTest_steady (p : PointId) (s : State) :
    (State.startTest p s).steady = s.steady := by
  simp only [State.startTest]
  repeat' split
  all_goals first | (simp; done) | (simp [foldl_steady, apply_ite State.steady]; done) | (simp; rfl) | rfl | (simp [State.steady]; done)

@[simp] theorem State.clearingTest_steady (p : PointId) (s : State) :
    (State.clearingTest p s).steady = s.steady := by
  simp only [State.clearingTest]
  repeat' split
  all_goals first | (simp; done) | (simp [foldl_steady, apply_ite State.steady]; done) | (simp; rfl) | rfl | (simp [State.steady]; done)

@[simp] theorem State.countLeft_steady (p : PointId) (s : State) :
    (State.countLeft p s).steady = s.steady := by
  simp only [State.countLeft]
  repeat' split
  all_goals first | (simp; done) | (simp [foldl_steady, apply_ite State.steady]; done) | (simp; rfl) | rfl | (simp [State.steady]; done)

@[simp] theorem State.takeFromQueue_steady (p : PointId) (b : Nat) (s : State) :
    (State.takeFromQueue p b s).steady = s.steady := by
  simp only [State.takeFromQueue]
  repeat' split
  all_goals first | (simp; done) | (simp [foldl_steady, apply_ite State.steady]; done) | (simp; rfl) | rfl | (simp [State.steady]; done)

@[simp] theorem State.expireQueue_steady (p : PointId) (q : QueueEntry → Bool) (s : State) :
    (State.expireQueue p q s).steady = s.steady := by
  simp only [State.expireQueue]
  repeat' split
  all_goals first | (simp; done) | (simp [foldl_steady, apply_ite State.steady]; done) | (simp; rfl) | rfl | (simp [State.steady]; done)

@[simp] theorem State.retryJoins_steady (p : PointId) (s : State) :
    (State.retryJoins p s).steady = s.steady := by
  simp only [State.retryJoins]
  repeat' split
  all_goals first | (simp; done) | (simp [foldl_steady, apply_ite State.steady]; done) | (simp; rfl) | rfl | (simp [State.steady]; done)

@[simp] theorem State.testIfClosed_steady (before s : State) :
    (State.testIfClosed before s).steady = s.steady := by
  simp only [State.testIfClosed]
  repeat' split
  all_goals first | (simp; done) | (simp [foldl_steady, apply_ite State.steady]; done) | (simp; rfl) | rfl | (simp [State.steady]; done)

@[simp] theorem State.giveUpRecord_steady (b : Nat) (here : Resource) (s : State) :
    (State.giveUpRecord b here s).steady = s.steady := by
  simp only [State.giveUpRecord]
  repeat' split
  all_goals first | (simp; done) | (simp [foldl_steady, apply_ite State.steady]; done) | (simp; rfl) | rfl | (simp [State.steady]; done)

@[simp] theorem State.dropExpectedOf_steady (b : Nat) (here : Option Resource) (s : State) :
    (State.dropExpectedOf b here s).steady = s.steady := by
  simp only [State.dropExpectedOf]
  repeat' split
  all_goals first | (simp; done) | (simp [foldl_steady, apply_ite State.steady]; done) | (simp; rfl) | rfl | (simp [State.steady]; done)

@[simp] theorem State.clearForStray_steady (b : Nat) (here : Resource) (s : State) :
    (State.clearForStray b here s).steady = s.steady := by
  simp only [State.clearForStray]
  repeat' split
  all_goals first | (simp; done) | (simp [foldl_steady, apply_ite State.steady]; done) | (simp; rfl) | rfl | (simp [State.steady]; done)

@[simp] theorem State.announceStray_steady (b : Nat) (here : Resource) (awaited : Bool) (s : State) :
    (State.announceStray b here awaited s).steady = s.steady := by
  simp only [State.announceStray]
  repeat' split
  all_goals first | (simp; done) | (simp [foldl_steady, apply_ite State.steady]; done) | (simp; rfl) | rfl | (simp [State.steady]; done)

@[simp] theorem State.answerStray_steady (b source : Nat) (here : Resource) (s : State) :
    (State.answerStray b source here s).steady = s.steady := by
  simp only [State.answerStray]
  repeat' split
  all_goals first | (simp; done) | (simp [foldl_steady, apply_ite State.steady]; done) | (simp; rfl) | rfl | (simp [State.steady]; done)

@[simp] theorem State.onStray_steady (source b : Nat) (s : State) :
    (State.onStray source b s).steady = s.steady := by
  simp only [State.onStray]
  repeat' split
  all_goals first | (simp; done) | (simp [foldl_steady, apply_ite State.steady]; done) | (simp; rfl) | rfl | (simp [State.steady]; done)

@[simp] theorem State.classTest_steady (n b old : Nat) (s : State) :
    (State.classTest n b old s).steady = s.steady := by
  simp only [State.classTest]
  repeat' split
  all_goals first | (simp; done) | (simp [foldl_steady, apply_ite State.steady]; done) | (simp; rfl) | rfl | (simp [State.steady]; done)

@[simp] theorem State.parkExpected_steady (n : Nat) (e : LaneEntry) (s : State) :
    (State.parkExpected n e s).steady = s.steady := by
  simp only [State.parkExpected]
  repeat' split
  all_goals first | (simp; done) | (simp [foldl_steady, apply_ite State.steady]; done) | (simp; rfl) | rfl | (simp [State.steady]; done)

@[simp] theorem State.parkClaimed_steady (n : Nat) (t : TagFields) (e : LaneEntry) (s : State) :
    (State.parkClaimed n t e s).steady = s.steady := by
  simp only [State.parkClaimed]
  repeat' split
  all_goals first | (simp; done) | (simp [foldl_steady, apply_ite State.steady]; done) | (simp; rfl) | rfl | (simp [State.steady]; done)

@[simp] theorem State.makeLanePlace_steady (n : Nat) (s : State) :
    (State.makeLanePlace n s).steady = s.steady := by
  simp only [State.makeLanePlace]
  repeat' split
  all_goals first | (simp; done) | (simp [foldl_steady, apply_ite State.steady]; done) | (simp; rfl) | rfl | (simp [State.steady]; done)

@[simp] theorem State.strayIntoLane_steady (n : Nat) (t : TagFields) (s : State) :
    (State.strayIntoLane n t s).steady = s.steady := by
  simp only [State.strayIntoLane]
  repeat' split
  all_goals first | (simp; done) | (simp [foldl_steady, apply_ite State.steady]; done) | (simp; rfl) | rfl | (simp [State.steady]; done)

@[simp] theorem State.laneEntryRead_steady (n : Nat) (t : TagFields) (s : State) :
    (State.laneEntryRead n t s).steady = s.steady := by
  simp only [State.laneEntryRead]
  repeat' split
  all_goals first | (simp; done) | (simp [foldl_steady, apply_ite State.steady]; done) | (simp; rfl) | rfl | (simp [State.steady]; done)

@[simp] theorem State.sendGone_steady (n : Nat) (e : LaneEntry) (s : State) :
    (State.sendGone n e s).steady = s.steady := by
  simp only [State.sendGone]
  repeat' split
  all_goals first | (simp; done) | (simp [foldl_steady, apply_ite State.steady]; done) | (simp; rfl) | rfl | (simp [State.steady]; done)

@[simp] theorem State.laneExitRead_steady (n : Nat) (t : TagFields) (s : State) :
    (State.laneExitRead n t s).steady = s.steady := by
  simp only [State.laneExitRead]
  repeat' split
  all_goals first | (simp; done) | (simp [foldl_steady, apply_ite State.steady]; done) | (simp; rfl) | rfl | (simp [State.steady]; done)

@[simp] theorem State.laneClear_steady (n : Nat) (s : State) :
    (State.laneClear n s).steady = s.steady := by
  simp only [State.laneClear]
  repeat' split
  all_goals first | (simp; done) | (simp [foldl_steady, apply_ite State.steady]; done) | (simp; rfl) | rfl | (simp [State.steady]; done)

@[simp] theorem State.expireLanes_steady (q : LaneEntry → Bool) (s : State) :
    (State.expireLanes q s).steady = s.steady := by
  simp only [State.expireLanes]
  repeat' split
  all_goals first | (simp; done) | (simp [foldl_steady, apply_ite State.steady]; done) | (simp; rfl) | rfl | (simp [State.steady]; done)

@[simp] theorem State.closeLane_steady (n : Nat) (s : State) :
    (State.closeLane n s).steady = s.steady := by
  simp only [State.closeLane]
  repeat' split
  all_goals first | (simp; done) | (simp [foldl_steady, apply_ite State.steady]; done) | (simp; rfl) | rfl | (simp [State.steady]; done)

@[simp] theorem State.openLane_steady (n : Nat) (s : State) :
    (State.openLane n s).steady = s.steady := by
  simp only [State.openLane]
  repeat' split
  all_goals first | (simp; done) | (simp [foldl_steady, apply_ite State.steady]; done) | (simp; rfl) | rfl | (simp [State.steady]; done)

@[simp] theorem State.setClosed_steady (v : Bool) (p : PointId) (s : State) :
    (State.setClosed v p s).steady = s.steady := by
  simp only [State.setClosed]
  repeat' split
  all_goals first | (simp; done) | (simp [foldl_steady, apply_ite State.steady]; done) | (simp; rfl) | rfl | (simp [State.steady]; done)

@[simp] theorem State.clearPoint_steady (p : PointId) (s : State) :
    (State.clearPoint p s).steady = s.steady := by
  simp only [State.clearPoint]
  repeat' split
  all_goals first | (simp; done) | (simp [foldl_steady, apply_ite State.steady]; done) | (simp; rfl) | rfl | (simp [State.steady]; done)

end Sys2Proof.Machine
end

