-- ==== Sys2Proof/Laws/SteadyService.lean ====
section
/-! SUPPORT. The steady part of the node (Safety.lean) under the operations of the service points and the Pull-Out Controller. -/

set_option linter.all false
set_option linter.unusedSimpArgs false
set_option linter.unusedTactic false
set_option linter.unreachableTactic false

namespace Sys2Proof.Machine

open Sys2Proof

@[simp] theorem State.waitExpected_steady (p : PointId) (e : QueueEntry) (s : State) :
    (State.waitExpected p e s).steady = s.steady := by
  simp only [State.waitExpected]
  repeat' split
  all_goals first | (simp; done) | (simp [foldl_steady, apply_ite State.steady]; done) | (simp; rfl) | rfl | (simp [State.steady]; done)

@[simp] theorem State.waitClaimed_steady (p : PointId) (t : TagFields) (e : QueueEntry) (s : State) :
    (State.waitClaimed p t e s).steady = s.steady := by
  simp only [State.waitClaimed]
  repeat' split
  all_goals first | (simp; done) | (simp [foldl_steady, apply_ite State.steady]; done) | (simp; rfl) | rfl | (simp [State.steady]; done)

@[simp] theorem State.waitPending_steady (p : PointId) (t : TagFields) (e : QueueEntry) (s : State) :
    (State.waitPending p t e s).steady = s.steady := by
  simp only [State.waitPending]
  repeat' split
  all_goals first | (simp; done) | (simp [foldl_steady, apply_ite State.steady]; done) | (simp; rfl) | rfl | (simp [State.steady]; done)

@[simp] theorem State.makeQueuePlace_steady (p : PointId) (s : State) :
    (State.makeQueuePlace p s).steady = s.steady := by
  simp only [State.makeQueuePlace]
  repeat' split
  all_goals first | (simp; done) | (simp [foldl_steady, apply_ite State.steady]; done) | (simp; rfl) | rfl | (simp [State.steady]; done)

@[simp] theorem State.strayIntoQueue_steady (p : PointId) (t : TagFields) (s : State) :
    (State.strayIntoQueue p t s).steady = s.steady := by
  simp only [State.strayIntoQueue]
  repeat' split
  all_goals first | (simp; done) | (simp [foldl_steady, apply_ite State.steady]; done) | (simp; rfl) | rfl | (simp [State.steady]; done)

@[simp] theorem State.finishFaulted_steady (p : PointId) (b : Nat) (f : VisitRecord → VisitRecord) (s : State) :
    (State.finishFaulted p b f s).steady = s.steady := by
  simp only [State.finishFaulted]
  repeat' split
  all_goals first | (simp; done) | (simp [foldl_steady, apply_ite State.steady]; done) | (simp; rfl) | rfl | (simp [State.steady]; done)

@[simp] theorem State.passOn_steady (p : PointId) (b : Nat) (s : State) :
    (State.passOn p b s).steady = s.steady := by
  simp only [State.passOn]
  repeat' split
  all_goals first | (simp; done) | (simp [foldl_steady, apply_ite State.steady]; done) | (simp; rfl) | rfl | (simp [State.steady]; done)

@[simp] theorem State.afterEntry_steady (p : PointId) (b : Nat) (s : State) :
    (State.afterEntry p b s).steady = s.steady := by
  simp only [State.afterEntry]
  repeat' split
  all_goals first | (simp; done) | (simp [foldl_steady, apply_ite State.steady]; done) | (simp; rfl) | rfl | (simp [State.steady]; done)

@[simp] theorem State.pointEntryRead_steady (p : PointId) (t : TagFields) (s : State) :
    (State.pointEntryRead p t s).steady = s.steady := by
  simp only [State.pointEntryRead]
  repeat' split
  all_goals first | (simp; done) | (simp [foldl_steady, apply_ite State.steady]; done) | (simp; rfl) | rfl | (simp [State.steady]; done)

@[simp] theorem State.endFuelTested_steady (p : PointId) (outcome : FuelOutcome) (left : Bool) (s : State) :
    (State.endFuelTested p outcome left s).steady = s.steady := by
  simp only [State.endFuelTested]
  repeat' split
  all_goals first | (simp; done) | (simp [foldl_steady, apply_ite State.steady]; done) | (simp; rfl) | rfl | (simp [State.steady]; done)

@[simp] theorem State.onPulse_steady (p : PointId) (s : State) :
    (State.onPulse p s).steady = s.steady := by
  simp only [State.onPulse]
  repeat' split
  all_goals first | (simp; done) | (simp [foldl_steady, apply_ite State.steady]; done) | (simp; rfl) | rfl | (simp [State.steady]; done)

@[simp] theorem State.nozzleLifted_steady (p : PointId) (s : State) :
    (State.nozzleLifted p s).steady = s.steady := by
  simp only [State.nozzleLifted]
  repeat' split
  all_goals first | (simp; done) | (simp [foldl_steady, apply_ite State.steady]; done) | (simp; rfl) | rfl | (simp [State.steady]; done)

@[simp] theorem State.nozzleHung_steady (p : PointId) (s : State) :
    (State.nozzleHung p s).steady = s.steady := by
  simp only [State.nozzleHung]
  repeat' split
  all_goals first | (simp; done) | (simp [foldl_steady, apply_ite State.steady]; done) | (simp; rfl) | rfl | (simp [State.steady]; done)

@[simp] theorem State.nozzleTimeout_steady (p : PointId) (s : State) :
    (State.nozzleTimeout p s).steady = s.steady := by
  simp only [State.nozzleTimeout]
  repeat' split
  all_goals first | (simp; done) | (simp [foldl_steady, apply_ite State.steady]; done) | (simp; rfl) | rfl | (simp [State.steady]; done)

@[simp] theorem State.driveOff_steady (p : PointId) (s : State) :
    (State.driveOff p s).steady = s.steady := by
  simp only [State.driveOff]
  repeat' split
  all_goals first | (simp; done) | (simp [foldl_steady, apply_ite State.steady]; done) | (simp; rfl) | rfl | (simp [State.steady]; done)

@[simp] theorem State.leaveUnfuelled_steady (p : PointId) (b : Nat) (s : State) :
    (State.leaveUnfuelled p b s).steady = s.steady := by
  simp only [State.leaveUnfuelled]
  repeat' split
  all_goals first | (simp; done) | (simp [foldl_steady, apply_ite State.steady]; done) | (simp; rfl) | rfl | (simp [State.steady]; done)

@[simp] theorem State.countExit_steady (p : PointId) (b : Nat) (s : State) :
    (State.countExit p b s).steady = s.steady := by
  simp only [State.countExit]
  repeat' split
  all_goals first | (simp; done) | (simp [foldl_steady, apply_ite State.steady]; done) | (simp; rfl) | rfl | (simp [State.steady]; done)

@[simp] theorem State.fuelExitRead_steady (p : PointId) (t : TagFields) (s : State) :
    (State.fuelExitRead p t s).steady = s.steady := by
  simp only [State.fuelExitRead]
  repeat' split
  all_goals first | (simp; done) | (simp [foldl_steady, apply_ite State.steady]; done) | (simp; rfl) | rfl | (simp [State.steady]; done)

@[simp] theorem State.measureFlow_steady (p : PointId) (s : State) :
    (State.measureFlow p s).steady = s.steady := by
  simp only [State.measureFlow]
  repeat' split
  all_goals first | (simp; done) | (simp [foldl_steady, apply_ite State.steady]; done) | (simp; rfl) | rfl | (simp [State.steady]; done)

@[simp] theorem State.flowFault_steady (p : PointId) (s : State) :
    (State.flowFault p s).steady = s.steady := by
  simp only [State.flowFault]
  repeat' split
  all_goals first | (simp; done) | (simp [foldl_steady, apply_ite State.steady]; done) | (simp; rfl) | rfl | (simp [State.steady]; done)

@[simp] theorem State.beginInterval_steady (p : PointId) (s : State) :
    (State.beginInterval p s).steady = s.steady := by
  simp only [State.beginInterval]
  repeat' split
  all_goals first | (simp; done) | (simp [foldl_steady, apply_ite State.steady]; done) | (simp; rfl) | rfl | (simp [State.steady]; done)

@[simp] theorem State.finishWash_steady (p : PointId) (st : PointState) (outcome : VisitRecord → WashOutcome) (s :
    State) :
    (State.finishWash p st outcome s).steady = s.steady := by
  simp only [State.finishWash]
  repeat' split
  all_goals first | (simp; done) | (simp [foldl_steady, apply_ite State.steady]; done) | (simp; rfl) | rfl | (simp [State.steady]; done)

@[simp] theorem State.washDone_steady (p : PointId) (s : State) :
    (State.washDone p s).steady = s.steady := by
  simp only [State.washDone]
  repeat' split
  all_goals first | (simp; done) | (simp [foldl_steady, apply_ite State.steady]; done) | (simp; rfl) | rfl | (simp [State.steady]; done)

@[simp] theorem State.faultEntry_steady (p : PointId) (s : State) (e : QueueEntry) :
    (State.faultEntry p s e).steady = s.steady := by
  simp only [State.faultEntry]
  repeat' split
  all_goals first | (simp; done) | (simp [foldl_steady, apply_ite State.steady]; done) | (simp; rfl) | rfl | (simp [State.steady]; done)

@[simp] theorem State.emptyQueue_steady (p : PointId) (s : State) :
    (State.emptyQueue p s).steady = s.steady := by
  simp only [State.emptyQueue]
  repeat' split
  all_goals first | (simp; done) | (simp [foldl_steady, apply_ite State.steady]; done) | (simp; rfl) | rfl | (simp [State.steady]; done)

@[simp] theorem State.washFault_steady (p : PointId) (cause : WashFaultCause) (s : State) :
    (State.washFault p cause s).steady = s.steady := by
  simp only [State.washFault]
  repeat' split
  all_goals first | (simp; done) | (simp [foldl_steady, apply_ite State.steady]; done) | (simp; rfl) | rfl | (simp [State.steady]; done)

@[simp] theorem State.doneTimeout_steady (p : PointId) (s : State) :
    (State.doneTimeout p s).steady = s.steady := by
  simp only [State.doneTimeout]
  repeat' split
  all_goals first | (simp; done) | (simp [foldl_steady, apply_ite State.steady]; done) | (simp; rfl) | rfl | (simp [State.steady]; done)

@[simp] theorem State.leaveUnwashed_steady (p : PointId) (b : Nat) (s : State) :
    (State.leaveUnwashed p b s).steady = s.steady := by
  simp only [State.leaveUnwashed]
  repeat' split
  all_goals first | (simp; done) | (simp [foldl_steady, apply_ite State.steady]; done) | (simp; rfl) | rfl | (simp [State.steady]; done)

@[simp] theorem State.leaveArrived_steady (p : PointId) (b : Nat) (s : State) :
    (State.leaveArrived p b s).steady = s.steady := by
  simp only [State.leaveArrived]
  repeat' split
  all_goals first | (simp; done) | (simp [foldl_steady, apply_ite State.steady]; done) | (simp; rfl) | rfl | (simp [State.steady]; done)

@[simp] theorem State.washExitRead_steady (p : PointId) (t : TagFields) (s : State) :
    (State.washExitRead p t s).steady = s.steady := by
  simp only [State.washExitRead]
  repeat' split
  all_goals first | (simp; done) | (simp [foldl_steady, apply_ite State.steady]; done) | (simp; rfl) | rfl | (simp [State.steady]; done)

@[simp] theorem State.pointCleared_steady (p : PointId) (s : State) :
    (State.pointCleared p s).steady = s.steady := by
  simp only [State.pointCleared]
  repeat' split
  all_goals first | (simp; done) | (simp [foldl_steady, apply_ite State.steady]; done) | (simp; rfl) | rfl | (simp [State.steady]; done)

@[simp] theorem State.pointExitRead_steady (p : PointId) (t : TagFields) (s : State) :
    (State.pointExitRead p t s).steady = s.steady := by
  simp only [State.pointExitRead]
  repeat' split
  all_goals first | (simp; done) | (simp [foldl_steady, apply_ite State.steady]; done) | (simp; rfl) | rfl | (simp [State.steady]; done)

@[simp] theorem State.expireRecords_steady (p : PointId) (q : QueueEntry → Bool) (s : State) :
    (State.expireRecords p q s).steady = s.steady := by
  simp only [State.expireRecords]
  repeat' split
  all_goals first | (simp; done) | (simp [foldl_steady, apply_ite State.steady]; done) | (simp; rfl) | rfl | (simp [State.steady]; done)

@[simp] theorem State.pointMinute_steady (p : PointId) (completes : Bool) (s : State) :
    (State.pointMinute p completes s).steady = s.steady := by
  simp only [State.pointMinute]
  repeat' split
  all_goals first | (simp; done) | (simp [foldl_steady, apply_ite State.steady]; done) | (simp; rfl) | rfl | (simp [State.steady]; done)

@[simp] theorem State.setAsk_steady (n b : Nat) (a : AskState) (s : State) :
    (State.setAsk n b a s).steady = s.steady := by
  simp only [State.setAsk]
  repeat' split
  all_goals first | (simp; done) | (simp [foldl_steady, apply_ite State.steady]; done) | (simp; rfl) | rfl | (simp [State.steady]; done)

@[simp] theorem State.askSwap_steady (n : Nat) (e : LaneEntry) (ahead : List LaneEntry) (s : State) :
    (State.askSwap n e ahead s).steady = s.steady := by
  simp only [State.askSwap]
  repeat' split
  all_goals first | (simp; done) | (simp [foldl_steady, apply_ite State.steady]; done) | (simp; rfl) | rfl | (simp [State.steady]; done)

@[simp] theorem State.blockRun_steady (n : Nat) (e : LaneEntry) (cause : BlockedCause) (s : State) :
    (State.blockRun n e cause s).steady = s.steady := by
  simp only [State.blockRun]
  repeat' split
  all_goals first | (simp; done) | (simp [foldl_steady, apply_ite State.steady]; done) | (simp; rfl) | rfl | (simp [State.steady]; done)

@[simp] theorem State.dealDue_steady (n : Nat) (s : State) (b : Nat) :
    (State.dealDue n s b).steady = s.steady := by
  simp only [State.dealDue]
  repeat' split
  all_goals first | (simp; done) | (simp [foldl_steady, apply_ite State.steady]; done) | (simp; rfl) | rfl | (simp [State.steady]; done)

@[simp] theorem State.callLane_steady (s : State) (n : Nat) :
    (State.callLane s n).steady = s.steady := by
  simp only [State.callLane]
  repeat' split
  all_goals first | (simp; done) | (simp [foldl_steady, apply_ite State.steady]; done) | (simp; rfl) | rfl | (simp [State.steady]; done)

@[simp] theorem State.callTimes_steady (s : State) :
    (State.callTimes s).steady = s.steady := by
  simp only [State.callTimes]
  repeat' split
  all_goals first | (simp; done) | (simp [foldl_steady, apply_ite State.steady]; done) | (simp; rfl) | rfl | (simp [State.steady]; done)

@[simp] theorem State.reportLate_steady (s : State) (x : Standing) :
    (State.reportLate s x).steady = s.steady := by
  simp only [State.reportLate]
  repeat' split
  all_goals first | (simp; done) | (simp [foldl_steady, apply_ite State.steady]; done) | (simp; rfl) | rfl | (simp [State.steady]; done)

@[simp] theorem State.lateTest_steady (q : Standing → Bool) (s : State) :
    (State.lateTest q s).steady = s.steady := by
  simp only [State.lateTest]
  repeat' split
  all_goals first | (simp; done) | (simp [foldl_steady, apply_ite State.steady]; done) | (simp; rfl) | rfl | (simp [State.steady]; done)

@[simp] theorem State.lateCalled_steady (s : State) :
    (State.lateCalled s).steady = s.steady := by
  simp only [State.lateCalled]
  repeat' split
  all_goals first | (simp; done) | (simp [foldl_steady, apply_ite State.steady]; done) | (simp; rfl) | rfl | (simp [State.steady]; done)

@[simp] theorem State.modLaneBus_steady (b : Nat) (f : LaneEntry → LaneEntry) (s : State) :
    (State.modLaneBus b f s).steady = s.steady := by
  simp only [State.modLaneBus]
  repeat' split
  all_goals first | (simp; done) | (simp [foldl_steady, apply_ite State.steady]; done) | (simp; rfl) | rfl | (simp [State.steady]; done)

@[simp] theorem State.clearMark_steady (tag : Tag) (s : State) :
    (State.clearMark tag s).steady = s.steady := by
  simp only [State.clearMark]
  repeat' split
  all_goals first | (simp; done) | (simp [foldl_steady, apply_ite State.steady]; done) | (simp; rfl) | rfl | (simp [State.steady]; done)

@[simp] theorem State.bindTaken_steady (b : Nat) (k : TakeMark) (s : State) :
    (State.bindTaken b k s).steady = s.steady := by
  simp only [State.bindTaken]
  repeat' split
  all_goals first | (simp; done) | (simp [foldl_steady, apply_ite State.steady]; done) | (simp; rfl) | rfl | (simp [State.steady]; done)

@[simp] theorem State.bindMark_steady (tag : Tag) (s : State) :
    (State.bindMark tag s).steady = s.steady := by
  simp only [State.bindMark]
  repeat' split
  all_goals first | (simp; done) | (simp [foldl_steady, apply_ite State.steady]; done) | (simp; rfl) | rfl | (simp [State.steady]; done)

@[simp] theorem State.rebindAsker_steady (run : Nat) (h : HeadFields) (s : State) :
    (State.rebindAsker run h s).steady = s.steady := by
  simp only [State.rebindAsker]
  repeat' split
  all_goals first | (simp; done) | (simp [foldl_steady, apply_ite State.steady]; done) | (simp; rfl) | rfl | (simp [State.steady]; done)

@[simp] theorem State.refuseSwap_steady (run : Nat) (s : State) :
    (State.refuseSwap run s).steady = s.steady := by
  simp only [State.refuseSwap]
  repeat' split
  all_goals first | (simp; done) | (simp [foldl_steady, apply_ite State.steady]; done) | (simp; rfl) | rfl | (simp [State.steady]; done)

@[simp] theorem State.pullOutMinute_steady (s : State) :
    (State.pullOutMinute s).steady = s.steady := by
  simp only [State.pullOutMinute]
  repeat' split
  all_goals first | (simp; done) | (simp [foldl_steady, apply_ite State.steady]; done) | (simp; rfl) | rfl | (simp [State.steady]; done)

end Sys2Proof.Machine
end

