-- ==== Sys2Proof/Laws/SteadyHandover.lean ====
section
/-! SUPPORT. The steady part of the node (Safety.lean) under the operations of the Handover Controller and of the minute event. -/

set_option linter.all false
set_option linter.unusedSimpArgs false
set_option linter.unusedTactic false
set_option linter.unreachableTactic false

namespace Sys2Proof.Machine

open Sys2Proof

@[simp] theorem State.modBids_steady (f : BidEntry → BidEntry) (s : State) :
    (State.modBids f s).steady = s.steady := by
  simp only [State.modBids]
  repeat' split
  all_goals first | (simp; done) | (simp [foldl_steady, apply_ite State.steady]; done) | (simp; rfl) | rfl | (simp [State.steady]; done)

@[simp] theorem State.showTaker_steady (it : OutItem) (t : HeardTake) (s : State) :
    (State.showTaker it t s).steady = s.steady := by
  simp only [State.showTaker]
  repeat' split
  all_goals first | (simp; done) | (simp [foldl_steady, apply_ite State.steady]; done) | (simp; rfl) | rfl | (simp [State.steady]; done)

@[simp] theorem State.commit_steady (o : OpenOffer) (t : HeardTake) (s : State) :
    (State.commit o t s).steady = s.steady := by
  simp only [State.commit]
  repeat' split
  all_goals first | (simp; done) | (simp [foldl_steady, apply_ite State.steady]; done) | (simp; rfl) | rfl | (simp [State.steady]; done)

@[simp] theorem State.countJoin_steady (s : State) :
    (State.countJoin s).steady = s.steady := by
  simp only [State.countJoin]
  repeat' split
  all_goals first | (simp; done) | (simp [foldl_steady, apply_ite State.steady]; done) | (simp; rfl) | rfl | (simp [State.steady]; done)

@[simp] theorem State.skipItem_steady (k : ItemKey) (r : VisitRecord) (s : State) :
    (State.skipItem k r s).steady = s.steady := by
  simp only [State.skipItem]
  repeat' split
  all_goals first | (simp; done) | (simp [foldl_steady, apply_ite State.steady]; done) | (simp; rfl) | rfl | (simp [State.steady]; done)

@[simp] theorem State.strandItem_steady (it : OutItem) (r : VisitRecord) (s : State) :
    (State.strandItem it r s).steady = s.steady := by
  simp only [State.strandItem]
  repeat' split
  all_goals first | (simp; done) | (simp [foldl_steady, apply_ite State.steady]; done) | (simp; rfl) | rfl | (simp [State.steady]; done)

@[simp] theorem State.secondExpiry_steady (o : OpenOffer) (s : State) :
    (State.secondExpiry o s).steady = s.steady := by
  simp only [State.secondExpiry]
  repeat' split
  all_goals first | (simp; done) | (simp [foldl_steady, apply_ite State.steady]; done) | (simp; rfl) | rfl | (simp [State.steady]; done)

@[simp] theorem State.offerWindowEnd_steady (s : State) :
    (State.offerWindowEnd s).steady = s.steady := by
  simp only [State.offerWindowEnd]
  repeat' split
  all_goals first | (simp; done) | (simp [foldl_steady, apply_ite State.steady]; done) | (simp; rfl) | rfl | (simp [State.steady]; done)

@[simp] theorem State.takeWaitEnd_steady (s : State) :
    (State.takeWaitEnd s).steady = s.steady := by
  simp only [State.takeWaitEnd]
  repeat' split
  all_goals first | (simp; done) | (simp [foldl_steady, apply_ite State.steady]; done) | (simp; rfl) | rfl | (simp [State.steady]; done)

@[simp] theorem State.ownOfferHeard_steady (number : Nat) (s : State) :
    (State.ownOfferHeard number s).steady = s.steady := by
  simp only [State.ownOfferHeard]
  repeat' split
  all_goals first | (simp; done) | (simp [foldl_steady, apply_ite State.steady]; done) | (simp; rfl) | rfl | (simp [State.steady]; done)

@[simp] theorem State.ownOfferDiscarded_steady (number : Nat) (s : State) :
    (State.ownOfferDiscarded number s).steady = s.steady := by
  simp only [State.ownOfferDiscarded]
  repeat' split
  all_goals first | (simp; done) | (simp [foldl_steady, apply_ite State.steady]; done) | (simp; rfl) | rfl | (simp [State.steady]; done)

@[simp] theorem State.clearTag_steady (tag : Tag) (s : State) :
    (State.clearTag tag s).steady = s.steady := by
  simp only [State.clearTag]
  repeat' split
  all_goals first | (simp; done) | (simp [foldl_steady, apply_ite State.steady]; done) | (simp; rfl) | rfl | (simp [State.steady]; done)

@[simp] theorem State.supersede_steady (h : Nat) (f : OfferFields) (s : State) :
    (State.supersede h f s).steady = s.steady := by
  simp only [State.supersede]
  repeat' split
  all_goals first | (simp; done) | (simp [foldl_steady, apply_ite State.steady]; done) | (simp; rfl) | rfl | (simp [State.steady]; done)

@[simp] theorem State.placeTentative_steady (b : BidEntry) (s : State) :
    (State.placeTentative b s).steady = s.steady := by
  simp only [State.placeTentative]
  repeat' split
  all_goals first | (simp; done) | (simp [foldl_steady, apply_ite State.steady]; done) | (simp; rfl) | rfl | (simp [State.steady]; done)

@[simp] theorem State.makeBid_steady (b : BidEntry) (s : State) :
    (State.makeBid b s).steady = s.steady := by
  simp only [State.makeBid]
  repeat' split
  all_goals first | (simp; done) | (simp [foldl_steady, apply_ite State.steady]; done) | (simp; rfl) | rfl | (simp [State.steady]; done)

@[simp] theorem State.offerHeard_steady (h : Nat) (f : OfferFields) (s : State) :
    (State.offerHeard h f s).steady = s.steady := by
  simp only [State.offerHeard]
  repeat' split
  all_goals first | (simp; done) | (simp [foldl_steady, apply_ite State.steady]; done) | (simp; rfl) | rfl | (simp [State.steady]; done)

@[simp] theorem State.bidHeard_steady (source : Nat) (f : BidFields) (s : State) :
    (State.bidHeard source f s).steady = s.steady := by
  simp only [State.bidHeard]
  repeat' split
  all_goals first | (simp; done) | (simp [foldl_steady, apply_ite State.steady]; done) | (simp; rfl) | rfl | (simp [State.steady]; done)

@[simp] theorem State.ownBidHeard_steady (tag : Tag) (value : Nat) (s : State) :
    (State.ownBidHeard tag value s).steady = s.steady := by
  simp only [State.ownBidHeard]
  repeat' split
  all_goals first | (simp; done) | (simp [foldl_steady, apply_ite State.steady]; done) | (simp; rfl) | rfl | (simp [State.steady]; done)

@[simp] theorem State.expectTag_steady (tag : Tag) (s : State) :
    (State.expectTag tag s).steady = s.steady := by
  simp only [State.expectTag]
  repeat' split
  all_goals first | (simp; done) | (simp [foldl_steady, apply_ite State.steady]; done) | (simp; rfl) | rfl | (simp [State.steady]; done)

@[simp] theorem State.makeTake_steady (e : BidEntry) (s : State) :
    (State.makeTake e s).steady = s.steady := by
  simp only [State.makeTake]
  repeat' split
  all_goals first | (simp; done) | (simp [foldl_steady, apply_ite State.steady]; done) | (simp; rfl) | rfl | (simp [State.steady]; done)

@[simp] theorem State.bidWindowEnd_steady (tag : Tag) (s : State) :
    (State.bidWindowEnd tag s).steady = s.steady := by
  simp only [State.bidWindowEnd]
  repeat' split
  all_goals first | (simp; done) | (simp [foldl_steady, apply_ite State.steady]; done) | (simp; rfl) | rfl | (simp [State.steady]; done)

@[simp] theorem State.holderTake_steady (source : Nat) (f : TakeFields) (s : State) :
    (State.holderTake source f s).steady = s.steady := by
  simp only [State.holderTake]
  repeat' split
  all_goals first | (simp; done) | (simp [foldl_steady, apply_ite State.steady]; done) | (simp; rfl) | rfl | (simp [State.steady]; done)

@[simp] theorem State.takerTake_steady (source : Nat) (f : TakeFields) (s : State) :
    (State.takerTake source f s).steady = s.steady := by
  simp only [State.takerTake]
  repeat' split
  all_goals first | (simp; done) | (simp [foldl_steady, apply_ite State.steady]; done) | (simp; rfl) | rfl | (simp [State.steady]; done)

@[simp] theorem State.markTake_steady (source : Nat) (f : TakeFields) (s : State) :
    (State.markTake source f s).steady = s.steady := by
  simp only [State.markTake]
  repeat' split
  all_goals first | (simp; done) | (simp [foldl_steady, apply_ite State.steady]; done) | (simp; rfl) | rfl | (simp [State.steady]; done)

@[simp] theorem State.takeHeard_steady (source : Nat) (f : TakeFields) (s : State) :
    (State.takeHeard source f s).steady = s.steady := by
  simp only [State.takeHeard]
  repeat' split
  all_goals first | (simp; done) | (simp [foldl_steady, apply_ite State.steady]; done) | (simp; rfl) | rfl | (simp [State.steady]; done)

@[simp] theorem State.setMark_steady (e : BidEntry) (s : State) :
    (State.setMark e s).steady = s.steady := by
  simp only [State.setMark]
  repeat' split
  all_goals first | (simp; done) | (simp [foldl_steady, apply_ite State.steady]; done) | (simp; rfl) | rfl | (simp [State.steady]; done)

@[simp] theorem State.ownTakeHeard_steady (f : TakeFields) (s : State) :
    (State.ownTakeHeard f s).steady = s.steady := by
  simp only [State.ownTakeHeard]
  repeat' split
  all_goals first | (simp; done) | (simp [foldl_steady, apply_ite State.steady]; done) | (simp; rfl) | rfl | (simp [State.steady]; done)

@[simp] theorem State.takeMarkEnd_steady (tag : Tag) (s : State) :
    (State.takeMarkEnd tag s).steady = s.steady := by
  simp only [State.takeMarkEnd]
  repeat' split
  all_goals first | (simp; done) | (simp [foldl_steady, apply_ite State.steady]; done) | (simp; rfl) | rfl | (simp [State.steady]; done)

@[simp] theorem State.onDuty_steady (source : Nat) (payload : List Byte) (s : State) :
    (State.onDuty source payload s).steady = s.steady := by
  simp only [State.onDuty]
  repeat' split
  all_goals first | (simp; done) | (simp [foldl_steady, apply_ite State.steady]; done) | (simp; rfl) | rfl | (simp [State.steady]; done)

@[simp] theorem State.unbindOthers_steady (b run : Nat) (s : State) :
    (State.unbindOthers b run s).steady = s.steady := by
  simp only [State.unbindOthers]
  repeat' split
  all_goals first | (simp; done) | (simp [foldl_steady, apply_ite State.steady]; done) | (simp; rfl) | rfl | (simp [State.steady]; done)

@[simp] theorem State.laneTakesRecord_steady (n : Nat) (r : VisitRecord) (d : Duty) (s : State) :
    (State.laneTakesRecord n r d s).steady = s.steady := by
  simp only [State.laneTakesRecord]
  repeat' split
  all_goals first | (simp; done) | (simp [foldl_steady, apply_ite State.steady]; done) | (simp; rfl) | rfl | (simp [State.steady]; done)

@[simp] theorem State.queueTakesRecord_steady (p : PointId) (r : VisitRecord) (d : Duty) (s : State) :
    (State.queueTakesRecord p r d s).steady = s.steady := by
  simp only [State.queueTakesRecord]
  repeat' split
  all_goals first | (simp; done) | (simp [foldl_steady, apply_ite State.steady]; done) | (simp; rfl) | rfl | (simp [State.steady]; done)

@[simp] theorem State.onRecord_steady (r : VisitRecord) (s : State) :
    (State.onRecord r s).steady = s.steady := by
  simp only [State.onRecord]
  repeat' split
  all_goals first | (simp; done) | (simp [foldl_steady, apply_ite State.steady]; done) | (simp; rfl) | rfl | (simp [State.steady]; done)

@[simp] theorem State.expireLaneRecords_steady (q : LaneEntry → Bool) (s : State) :
    (State.expireLaneRecords q s).steady = s.steady := by
  simp only [State.expireLaneRecords]
  repeat' split
  all_goals first | (simp; done) | (simp [foldl_steady, apply_ite State.steady]; done) | (simp; rfl) | rfl | (simp [State.steady]; done)

@[simp] theorem State.expireDutyWait_steady (q : VisitRecord → Bool) (s : State) :
    (State.expireDutyWait q s).steady = s.steady := by
  simp only [State.expireDutyWait]
  repeat' split
  all_goals first | (simp; done) | (simp [foldl_steady, apply_ite State.steady]; done) | (simp; rfl) | rfl | (simp [State.steady]; done)

@[simp] theorem State.handoverMinute_steady (s : State) :
    (State.handoverMinute s).steady = s.steady := by
  simp only [State.handoverMinute]
  repeat' split
  all_goals first | (simp; done) | (simp [foldl_steady, apply_ite State.steady]; done) | (simp; rfl) | rfl | (simp [State.steady]; done)

@[simp] theorem State.lanesMinute_steady (s : State) :
    (State.lanesMinute s).steady = s.steady := by
  simp only [State.lanesMinute]
  repeat' split
  all_goals first | (simp; done) | (simp [foldl_steady, apply_ite State.steady]; done) | (simp; rfl) | rfl | (simp [State.steady]; done)

@[simp] theorem State.slotBoundary_steady (k : Nat) (s : State) :
    (State.slotBoundary k s).steady = s.steady := by
  simp only [State.slotBoundary]
  repeat' split
  all_goals first | (simp; done) | (simp [foldl_steady, apply_ite State.steady]; done) | (simp; rfl) | rfl | (simp [State.steady]; done)

@[simp] theorem State.ownerMinute_steady (boundary : Option Nat) (completes : Bool) (s : State) (o : Owner) :
    (State.ownerMinute boundary completes s o).steady = s.steady := by
  simp only [State.ownerMinute]
  repeat' split
  all_goals first | (simp; done) | (simp [foldl_steady, apply_ite State.steady]; done) | (simp; rfl) | rfl | (simp [State.steady]; done)

@[simp] theorem State.raiseMinute_steady (order : List Owner) (boundary : Option Nat) (completes : Bool) (s : State) :
    (State.raiseMinute order boundary completes s).steady = s.steady := by
  simp only [State.raiseMinute]
  repeat' split
  all_goals first | (simp; done) | (simp [foldl_steady, apply_ite State.steady]; done) | (simp; rfl) | rfl | (simp [State.steady]; done)

@[simp] theorem State.carryAll_steady (old : Nat) (s : State) :
    (State.carryAll old s).steady = s.steady := by
  simp only [State.carryAll]
  repeat' split
  all_goals first | (simp; done) | (simp [foldl_steady, apply_ite State.steady]; done) | (simp; rfl) | rfl | (simp [State.steady]; done)

@[simp] theorem State.clearAsks_steady (s : State) :
    (State.clearAsks s).steady = s.steady := by
  simp only [State.clearAsks]
  repeat' split
  all_goals first | (simp; done) | (simp [foldl_steady, apply_ite State.steady]; done) | (simp; rfl) | rfl | (simp [State.steady]; done)

@[simp] theorem State.clearBindings_steady (s : State) :
    (State.clearBindings s).steady = s.steady := by
  simp only [State.clearBindings]
  repeat' split
  all_goals first | (simp; done) | (simp [foldl_steady, apply_ite State.steady]; done) | (simp; rfl) | rfl | (simp [State.steady]; done)

@[simp] theorem State.clearLate_steady (s : State) :
    (State.clearLate s).steady = s.steady := by
  simp only [State.clearLate]
  repeat' split
  all_goals first | (simp; done) | (simp [foldl_steady, apply_ite State.steady]; done) | (simp; rfl) | rfl | (simp [State.steady]; done)

@[simp] theorem State.unbindAll_steady (s : State) :
    (State.unbindAll s).steady = s.steady := by
  simp only [State.unbindAll]
  repeat' split
  all_goals first | (simp; done) | (simp [foldl_steady, apply_ite State.steady]; done) | (simp; rfl) | rfl | (simp [State.steady]; done)

@[simp] theorem State.reconvertAll_steady (s : State) :
    (State.reconvertAll s).steady = s.steady := by
  simp only [State.reconvertAll]
  repeat' split
  all_goals first | (simp; done) | (simp [foldl_steady, apply_ite State.steady]; done) | (simp; rfl) | rfl | (simp [State.steady]; done)

end Sys2Proof.Machine
end

