-- ==== Sys2Proof/Laws/SteadyIO.lean ====
section
/-! SUPPORT. The steady part of the node (Safety.lean) under the operations of the Field Interface, the Line Interface and the soft restart. -/

set_option linter.all false
set_option linter.unusedSimpArgs false
set_option linter.unusedTactic false
set_option linter.unreachableTactic false

namespace Sys2Proof.Machine

open Sys2Proof

@[simp] theorem State.letIn_steady (t : TagFields) (s : State) :
    (State.letIn t s).steady = s.steady := by
  simp only [State.letIn]
  repeat' split
  all_goals first | (simp; done) | (simp [foldl_steady, apply_ite State.steady]; done) | (simp; rfl) | rfl | (simp [State.steady]; done)

@[simp] theorem State.gateRead_steady (t : TagFields) (s : State) :
    (State.gateRead t s).steady = s.steady := by
  simp only [State.gateRead]
  repeat' split
  all_goals first | (simp; done) | (simp [foldl_steady, apply_ite State.steady]; done) | (simp; rfl) | rfl | (simp [State.steady]; done)

@[simp] theorem State.handRead_steady (role : ReaderRole) (t : TagFields) (s : State) :
    (State.handRead role t s).steady = s.steady := by
  simp only [State.handRead]
  repeat' split
  all_goals first | (simp; done) | (simp [foldl_steady, apply_ite State.steady]; done) | (simp; rfl) | rfl | (simp [State.steady]; done)

@[simp] theorem State.tagReport_steady (t : TagOctets) (now : Nat) (s : State) :
    (State.tagReport t now s).steady = s.steady := by
  simp only [State.tagReport]
  repeat' split
  all_goals first | (simp; done) | (simp [foldl_steady, apply_ite State.steady]; done) | (simp; rfl) | rfl | (simp [State.steady]; done)

@[simp] theorem State.abandonReport_steady (s : State) :
    (State.abandonReport s).steady = s.steady := by
  simp only [State.abandonReport]
  repeat' split
  all_goals first | (simp; done) | (simp [foldl_steady, apply_ite State.steady]; done) | (simp; rfl) | rfl | (simp [State.steady]; done)

@[simp] theorem State.levelChange_steady (pin : Pin) (level : Bool) (s : State) :
    (State.levelChange pin level s).steady = s.steady := by
  simp only [State.levelChange]
  repeat' split
  all_goals first | (simp; done) | (simp [foldl_steady, apply_ite State.steady]; done) | (simp; rfl) | rfl | (simp [State.steady]; done)

@[simp] theorem State.raiseChange_steady (pin : Pin) (level : Bool) (s : State) :
    (State.raiseChange pin level s).steady = s.steady := by
  simp only [State.raiseChange]
  repeat' split
  all_goals first | (simp; done) | (simp [foldl_steady, apply_ite State.steady]; done) | (simp; rfl) | rfl | (simp [State.steady]; done)

@[simp] theorem State.debounced_steady (pin : Pin) (s : State) :
    (State.debounced pin s).steady = s.steady := by
  simp only [State.debounced]
  repeat' split
  all_goals first | (simp; done) | (simp [foldl_steady, apply_ite State.steady]; done) | (simp; rfl) | rfl | (simp [State.steady]; done)

@[simp] theorem State.pulse_steady (p : PointId) (s : State) :
    (State.pulse p s).steady = s.steady := by
  simp only [State.pulse]
  repeat' split
  all_goals first | (simp; done) | (simp [foldl_steady, apply_ite State.steady]; done) | (simp; rfl) | rfl | (simp [State.steady]; done)

@[simp] theorem State.transferEnd_steady (s : State) :
    (State.transferEnd s).steady = s.steady := by
  simp only [State.transferEnd]
  repeat' split
  all_goals first | (simp; done) | (simp [foldl_steady, apply_ite State.steady]; done) | (simp; rfl) | rfl | (simp [State.steady]; done)

@[simp] theorem State.charBegin_steady (s : State) :
    (State.charBegin s).steady = s.steady := by
  simp only [State.charBegin]
  repeat' split
  all_goals first | (simp; done) | (simp [foldl_steady, apply_ite State.steady]; done) | (simp; rfl) | rfl | (simp [State.steady]; done)

@[simp] theorem State.lineQuiet_steady (s : State) :
    (State.lineQuiet s).steady = s.steady := by
  simp only [State.lineQuiet]
  repeat' split
  all_goals first | (simp; done) | (simp [foldl_steady, apply_ite State.steady]; done) | (simp; rfl) | rfl | (simp [State.steady]; done)

@[simp] theorem State.lineJam_steady (s : State) :
    (State.lineJam s).steady = s.steady := by
  simp only [State.lineJam]
  repeat' split
  all_goals first | (simp; done) | (simp [foldl_steady, apply_ite State.steady]; done) | (simp; rfl) | rfl | (simp [State.steady]; done)

@[simp] theorem State.roundEnd_steady (s : State) :
    (State.roundEnd s).steady = s.steady := by
  simp only [State.roundEnd]
  repeat' split
  all_goals first | (simp; done) | (simp [foldl_steady, apply_ite State.steady]; done) | (simp; rfl) | rfl | (simp [State.steady]; done)

@[simp] theorem State.ignoreLine_steady (s : State) :
    (State.ignoreLine s).steady = s.steady := by
  exact State.charBegin_steady s

@[simp] theorem State.markSending_steady (f : TxFrame) (s : State) :
    (State.markSending f s).steady = s.steady := by
  simp only [State.markSending]
  repeat' split
  all_goals first | (simp; done) | (simp [foldl_steady, apply_ite State.steady]; done) | (simp; rfl) | rfl | (simp [State.steady]; done)

@[simp] theorem State.transmitStart_steady (c : Nat) (s : State) :
    (State.transmitStart c s).steady = s.steady := by
  simp only [State.transmitStart]
  repeat' split
  all_goals first | (simp; done) | (simp [foldl_steady, apply_ite State.steady]; done) | (simp; rfl) | rfl | (simp [State.steady]; done)

@[simp] theorem State.hearOwn_steady (body : FrameBody) (s : State) :
    (State.hearOwn body s).steady = s.steady := by
  simp only [State.hearOwn]
  repeat' split
  all_goals first | (simp; done) | (simp [foldl_steady, apply_ite State.steady]; done) | (simp; rfl) | rfl | (simp [State.steady]; done)

@[simp] theorem State.tellDiscard_steady (body : FrameBody) (s : State) :
    (State.tellDiscard body s).steady = s.steady := by
  simp only [State.tellDiscard]
  repeat' split
  all_goals first | (simp; done) | (simp [foldl_steady, apply_ite State.steady]; done) | (simp; rfl) | rfl | (simp [State.steady]; done)

@[simp] theorem State.frameOut_steady (f : TxFrame) (s : State) :
    (State.frameOut f s).steady = s.steady := by
  simp only [State.frameOut]
  repeat' split
  all_goals first | (simp; done) | (simp [foldl_steady, apply_ite State.steady]; done) | (simp; rfl) | rfl | (simp [State.steady]; done)

@[simp] theorem State.retryReoffer_steady (s : State) :
    (State.retryReoffer s).steady = s.steady := by
  simp only [State.retryReoffer]
  repeat' split
  all_goals first | (simp; done) | (simp [foldl_steady, apply_ite State.steady]; done) | (simp; rfl) | rfl | (simp [State.steady]; done)

@[simp] theorem State.frameHeard_steady (s : State) :
    (State.frameHeard s).steady = s.steady := by
  simp only [State.frameHeard]
  repeat' split
  all_goals first | (simp; done) | (simp [foldl_steady, apply_ite State.steady]; done) | (simp; rfl) | rfl | (simp [State.steady]; done)

@[simp] theorem State.flagConflict_steady (kind destination : Nat) (cause : ConflictCause) (s : State) :
    (State.flagConflict kind destination cause s).steady = s.steady := by
  simp only [State.flagConflict]
  repeat' split
  all_goals first | (simp; done) | (simp [foldl_steady, apply_ite State.steady]; done) | (simp; rfl) | rfl | (simp [State.steady]; done)

@[simp] theorem State.discardSent_steady (f : TxFrame) (s : State) : (State.discardSent f s).steady = s.steady := by
  simp [State.discardSent]

@[simp] theorem State.mismatch_steady (s : State) :
    (State.mismatch s).steady = s.steady := by
  simp only [State.mismatch]
  repeat' split
  all_goals first | (simp; done) | (simp [foldl_steady, apply_ite State.steady]; done) | (simp; rfl) | rfl | (simp [State.steady]; done)

@[simp] theorem State.onOffer_steady (payload : List Byte) (source : Nat) (s : State) :
    (State.onOffer payload source s).steady = s.steady := by
  simp only [State.onOffer]
  repeat' split
  all_goals first | (simp; done) | (simp [foldl_steady, apply_ite State.steady]; done) | (simp; rfl) | rfl | (simp [State.steady]; done)

@[simp] theorem State.onBid_steady (payload : List Byte) (source : Nat) (s : State) :
    (State.onBid payload source s).steady = s.steady := by
  simp only [State.onBid]
  repeat' split
  all_goals first | (simp; done) | (simp [foldl_steady, apply_ite State.steady]; done) | (simp; rfl) | rfl | (simp [State.steady]; done)

@[simp] theorem State.onTake_steady (payload : List Byte) (source : Nat) (s : State) :
    (State.onTake payload source s).steady = s.steady := by
  simp only [State.onTake]
  repeat' split
  all_goals first | (simp; done) | (simp [foldl_steady, apply_ite State.steady]; done) | (simp; rfl) | rfl | (simp [State.steady]; done)

@[simp] theorem State.onRecordFrame_steady (payload : List Byte) (s : State) :
    (State.onRecordFrame payload s).steady = s.steady := by
  simp only [State.onRecordFrame]
  repeat' split
  all_goals first | (simp; done) | (simp [foldl_steady, apply_ite State.steady]; done) | (simp; rfl) | rfl | (simp [State.steady]; done)

@[simp] theorem State.startDebouncers_steady (s : State) :
    (State.startDebouncers s).steady = s.steady := by
  simp only [State.startDebouncers]
  repeat' split
  all_goals first | (simp; done) | (simp [foldl_steady, apply_ite State.steady]; done) | (simp; rfl) | rfl | (simp [State.steady]; done)

@[simp] theorem State.emptyQueues_steady (s : State) :
    (State.emptyQueues s).steady = s.steady := by
  simp only [State.emptyQueues]
  repeat' split
  all_goals first | (simp; done) | (simp [foldl_steady, apply_ite State.steady]; done) | (simp; rfl) | rfl | (simp [State.steady]; done)

@[simp] theorem State.restartHandover_steady (s : State) :
    (State.restartHandover s).steady = s.steady := by
  have h : (State.removeQueueEntries (fun e => decide (e.state = .tentative))
      (s.removeLaneEntries (fun _ e => decide (e.state = .tentative)))).steady = s.steady := by simp
  exact h

@[simp] theorem State.bindMarks_steady (s : State) :
    (State.bindMarks s).steady = s.steady := by
  simp only [State.bindMarks]
  repeat' split
  all_goals first | (simp; done) | (simp [foldl_steady, apply_ite State.steady]; done) | (simp; rfl) | rfl | (simp [State.steady]; done)

@[simp] theorem State.freeFault_steady (p : PointId) (s : State) :
    (State.freeFault p s).steady = s.steady := by
  simp only [State.freeFault]
  repeat' split
  all_goals first | (simp; done) | (simp [foldl_steady, apply_ite State.steady]; done) | (simp; rfl) | rfl | (simp [State.steady]; done)

@[simp] theorem State.testFreed_steady (before : State) (p : PointId) (s : State) :
    (State.testFreed before p s).steady = s.steady := by
  simp only [State.testFreed]
  repeat' split
  all_goals first | (simp; done) | (simp [foldl_steady, apply_ite State.steady]; done) | (simp; rfl) | rfl | (simp [State.steady]; done)

@[simp] theorem State.softRestart_steady (s : State) :
    (State.softRestart s).steady = s.steady := by
  simp only [State.softRestart]
  repeat' split
  all_goals first | (simp; done) | (simp [foldl_steady, apply_ite State.steady]; done) | (simp; rfl) | rfl | (simp [State.steady]; done)

@[simp] theorem State.onRestart_steady (destination source : Nat) (s : State) :
    (State.onRestart destination source s).steady = s.steady := by
  simp only [State.onRestart]
  repeat' split
  all_goals first | (simp; done) | (simp [foldl_steady, apply_ite State.steady]; done) | (simp; rfl) | rfl | (simp [State.steady]; done)

@[simp] theorem State.onPoll_steady (source : Nat) (s : State) :
    (State.onPoll source s).steady = s.steady := by
  simp only [State.onPoll]
  repeat' split
  all_goals first | (simp; done) | (simp [foldl_steady, apply_ite State.steady]; done) | (simp; rfl) | rfl | (simp [State.steady]; done)

@[simp] theorem State.expireBus_steady (bus : Nat) (s : State) :
    (State.expireBus bus s).steady = s.steady := by
  simp only [State.expireBus]
  repeat' split
  all_goals first | (simp; done) | (simp [foldl_steady, apply_ite State.steady]; done) | (simp; rfl) | rfl | (simp [State.steady]; done)

@[simp] theorem State.expireRecordsOf_steady (bus : Nat) (s : State) :
    (State.expireRecordsOf bus s).steady = s.steady := by
  simp only [State.expireRecordsOf]
  repeat' split
  all_goals first | (simp; done) | (simp [foldl_steady, apply_ite State.steady]; done) | (simp; rfl) | rfl | (simp [State.steady]; done)

end Sys2Proof.Machine
end

