-- ==== Sys2Proof/Laws/StillOps.lean ====
section
/-! SUPPORT. The still part of the node (Safety.lean) under the operations of Machine/Ops.lean. -/

set_option linter.all false
set_option linter.unusedSimpArgs false
set_option linter.unusedTactic false
set_option linter.unreachableTactic false

namespace Sys2Proof.Machine

open Sys2Proof

/-- A fold of steps that keep the still part keeps it. -/
theorem foldl_still {α : Type} (f : State → α → State) (h : ∀ t x, (f t x).still = t.still) (l : List α) :
    ∀ s : State, (l.foldl f s).still = s.still := by
  induction l with
  | nil => intro s; rfl
  | cons x xs ih => intro s; rw [List.foldl_cons, ih, h]

@[simp] theorem State.setLanes_still (l : List Lane) (s : State) : (State.setLanes l s).still = s.still := rfl

@[simp] theorem State.setPoint_still (p : PointId) (v : Point) (s : State) :
    (State.setPoint p v s).still = s.still := by
  simp only [State.setPoint]
  repeat' split
  all_goals first | (simp; done) | (simp [foldl_still, apply_ite State.still]; done) | (simp; rfl) | rfl | (simp [State.still]; done)

@[simp] theorem State.modPoint_still (p : PointId) (f : Point → Point) (s : State) :
    (State.modPoint p f s).still = s.still := by
  simp only [State.modPoint]
  repeat' split
  all_goals first | (simp; done) | (simp [foldl_still, apply_ite State.still]; done) | (simp; rfl) | rfl | (simp [State.still]; done)

@[simp] theorem State.enqueue_still (body : FrameBody) (destination : Nat) (s : State) :
    (State.enqueue body destination s).still = s.still := by
  simp only [State.enqueue]
  repeat' split
  all_goals first | (simp; done) | (simp [foldl_still, apply_ite State.still]; done) | (simp; rfl) | rfl | (simp [State.still]; done)

@[simp] theorem State.setRetry_still (v : Bool) (s : State) :
    (State.setRetry v s).still = s.still := by
  simp only [State.setRetry]
  repeat' split
  all_goals first | (simp; done) | (simp [foldl_still, apply_ite State.still]; done) | (simp; rfl) | rfl | (simp [State.still]; done)

@[simp] theorem State.displace_still (s : State) :
    (State.displace s).still = s.still := by
  simp only [State.displace]
  repeat' split
  all_goals first | (simp; done) | (simp [foldl_still, apply_ite State.still]; done) | (simp; rfl) | rfl | (simp [State.still]; done)

@[simp] theorem State.place_still (body : FrameBody) (destination : Nat) (s : State) :
    (State.place body destination s).still = s.still := by
  simp only [State.place]
  repeat' split
  all_goals first | (simp; done) | (simp [foldl_still, apply_ite State.still]; done) | (simp; rfl) | rfl | (simp [State.still]; done)

@[simp] theorem State.send_still (body : FrameBody) (s : State) :
    (State.send body s).still = s.still := by
  simp only [State.send]
  repeat' split
  all_goals first | (simp; done) | (simp [foldl_still, apply_ite State.still]; done) | (simp; rfl) | rfl | (simp [State.still]; done)

@[simp] theorem State.dropFrames_still (p : FrameBody → Bool) (s : State) :
    (State.dropFrames p s).still = s.still := by
  simp only [State.dropFrames]
  repeat' split
  all_goals first | (simp; done) | (simp [foldl_still, apply_ite State.still]; done) | (simp; rfl) | rfl | (simp [State.still]; done)

@[simp] theorem State.placeHeadReport_still (s : State) :
    (State.placeHeadReport s).still = s.still := by
  simp only [State.placeHeadReport]
  repeat' split
  all_goals first | (simp; done) | (simp [foldl_still, apply_ite State.still]; done) | (simp; rfl) | rfl | (simp [State.still]; done)

@[simp] theorem State.setReports_still (l : List Report) (s : State) :
    (State.setReports l s).still = s.still := by
  simp only [State.setReports]
  repeat' split
  all_goals first | (simp; done) | (simp [foldl_still, apply_ite State.still]; done) | (simp; rfl) | rfl | (simp [State.still]; done)

@[simp] theorem State.countReport_still (s : State) :
    (State.countReport s).still = s.still := by
  simp only [State.countReport]
  repeat' split
  all_goals first | (simp; done) | (simp [foldl_still, apply_ite State.still]; done) | (simp; rfl) | rfl | (simp [State.still]; done)

@[simp] theorem State.report_still (b : ReportBody) (s : State) :
    (State.report b s).still = s.still := by
  simp only [State.report]
  repeat' split
  all_goals first | (simp; done) | (simp [foldl_still, apply_ite State.still]; done) | (simp; rfl) | rfl | (simp [State.still]; done)

@[simp] theorem State.popReport_still (s : State) :
    (State.popReport s).still = s.still := by
  simp only [State.popReport]
  repeat' split
  all_goals first | (simp; done) | (simp [foldl_still, apply_ite State.still]; done) | (simp; rfl) | rfl | (simp [State.still]; done)

@[simp] theorem State.startTransfer_still (s : State) :
    (State.startTransfer s).still = s.still := by
  simp only [State.startTransfer]
  repeat' split
  all_goals first | (simp; done) | (simp [foldl_still, apply_ite State.still]; done) | (simp; rfl) | rfl | (simp [State.still]; done)

@[simp] theorem State.setGuide_still (place : GuidePlace) (code : Guide) (bus : Option Nat) (s : State) :
    (State.setGuide place code bus s).still = s.still := by
  simp only [State.setGuide]
  repeat' split
  all_goals first | (simp; done) | (simp [foldl_still, apply_ite State.still]; done) | (simp; rfl) | rfl | (simp [State.still]; done)

@[simp] theorem State.modLane_still (n : Nat) (f : Lane → Lane) (s : State) :
    (State.modLane n f s).still = s.still := by
  simp only [State.modLane]
  repeat' split
  all_goals first | (simp; done) | (simp [foldl_still, apply_ite State.still]; done) | (simp; rfl) | rfl | (simp [State.still]; done)

@[simp] theorem State.removeLaneEntries_still (p : Nat → LaneEntry → Bool) (s : State) :
    (State.removeLaneEntries p s).still = s.still := by
  simp only [State.removeLaneEntries]
  repeat' split
  all_goals first | (simp; done) | (simp [foldl_still, apply_ite State.still]; done) | (simp; rfl) | rfl | (simp [State.still]; done)

@[simp] theorem State.overfullTest_still (n b : Nat) (s : State) :
    (State.overfullTest n b s).still = s.still := by
  simp only [State.overfullTest]
  repeat' split
  all_goals first | (simp; done) | (simp [foldl_still, apply_ite State.still]; done) | (simp; rfl) | rfl | (simp [State.still]; done)

@[simp] theorem State.mapVisits_still (f : VisitRecord → VisitRecord) (s : State) :
    (State.mapVisits f s).still = s.still := by
  simp only [State.mapVisits]
  repeat' split
  all_goals first | (simp; done) | (simp [foldl_still, apply_ite State.still]; done) | (simp; rfl) | rfl | (simp [State.still]; done)

@[simp] theorem State.modItem_still (k : ItemKey) (f : OutItem → OutItem) (s : State) :
    (State.modItem k f s).still = s.still := by
  simp only [State.modItem]
  repeat' split
  all_goals first | (simp; done) | (simp [foldl_still, apply_ite State.still]; done) | (simp; rfl) | rfl | (simp [State.still]; done)

@[simp] theorem State.removeItem_still (k : ItemKey) (s : State) :
    (State.removeItem k s).still = s.still := by
  simp only [State.removeItem]
  repeat' split
  all_goals first | (simp; done) | (simp [foldl_still, apply_ite State.still]; done) | (simp; rfl) | rfl | (simp [State.still]; done)

@[simp] theorem State.takeNumber_still (s : State) :
    (State.takeNumber s).still = s.still := by
  simp only [State.takeNumber]
  repeat' split
  all_goals first | (simp; done) | (simp [foldl_still, apply_ite State.still]; done) | (simp; rfl) | rfl | (simp [State.still]; done)

@[simp] theorem State.setOffer_still (o : Option OpenOffer) (s : State) :
    (State.setOffer o s).still = s.still := by
  simp only [State.setOffer]
  repeat' split
  all_goals first | (simp; done) | (simp [foldl_still, apply_ite State.still]; done) | (simp; rfl) | rfl | (simp [State.still]; done)

@[simp] theorem State.startOffer_still (it : OutItem) (s : State) :
    (State.startOffer it s).still = s.still := by
  simp only [State.startOffer]
  repeat' split
  all_goals first | (simp; done) | (simp [foldl_still, apply_ite State.still]; done) | (simp; rfl) | rfl | (simp [State.still]; done)

@[simp] theorem State.placeReoffer_still (o : OpenOffer) (s : State) :
    (State.placeReoffer o s).still = s.still := by
  simp only [State.placeReoffer]
  repeat' split
  all_goals first | (simp; done) | (simp [foldl_still, apply_ite State.still]; done) | (simp; rfl) | rfl | (simp [State.still]; done)

@[simp] theorem State.offerTest_still (s : State) :
    (State.offerTest s).still = s.still := by
  simp only [State.offerTest]
  repeat' split
  all_goals first | (simp; done) | (simp [foldl_still, apply_ite State.still]; done) | (simp; rfl) | rfl | (simp [State.still]; done)

@[simp] theorem State.join_still (cargo : Cargo) (place : Option GuidePlace) (s : State) :
    (State.join cargo place s).still = s.still := by
  simp only [State.join]
  repeat' split
  all_goals first | (simp; done) | (simp [foldl_still, apply_ite State.still]; done) | (simp; rfl) | rfl | (simp [State.still]; done)

@[simp] theorem State.cancelOffer_still (k : ItemKey) (s : State) :
    (State.cancelOffer k s).still = s.still := by
  simp only [State.cancelOffer]
  repeat' split
  all_goals first | (simp; done) | (simp [foldl_still, apply_ite State.still]; done) | (simp; rfl) | rfl | (simp [State.still]; done)

@[simp] theorem State.withdrawSwaps_still (s : State) :
    (State.withdrawSwaps s).still = s.still := by
  simp only [State.withdrawSwaps]
  repeat' split
  all_goals first | (simp; done) | (simp [foldl_still, apply_ite State.still]; done) | (simp; rfl) | rfl | (simp [State.still]; done)

@[simp] theorem State.callEntry_still (n : Nat) (e : LaneEntry) (s : State) :
    (State.callEntry n e s).still = s.still := by
  simp only [State.callEntry]
  repeat' split
  all_goals first | (simp; done) | (simp [foldl_still, apply_ite State.still]; done) | (simp; rfl) | rfl | (simp [State.still]; done)

@[simp] theorem State.headTest_still (n : Nat) (s : State) :
    (State.headTest n s).still = s.still := by
  simp only [State.headTest]
  repeat' split
  all_goals first | (simp; done) | (simp [foldl_still, apply_ite State.still]; done) | (simp; rfl) | rfl | (simp [State.still]; done)

@[simp] theorem State.removeBid_still (tag : Tag) (s : State) :
    (State.removeBid tag s).still = s.still := by
  simp only [State.removeBid]
  repeat' split
  all_goals first | (simp; done) | (simp [foldl_still, apply_ite State.still]; done) | (simp; rfl) | rfl | (simp [State.still]; done)

@[simp] theorem State.removeQueueEntries_still (p : QueueEntry → Bool) (s : State) :
    (State.removeQueueEntries p s).still = s.still := by
  simp only [State.removeQueueEntries]
  repeat' split
  all_goals first | (simp; done) | (simp [foldl_still, apply_ite State.still]; done) | (simp; rfl) | rfl | (simp [State.still]; done)

@[simp] theorem State.removeTentative_still (tag : Tag) (s : State) :
    (State.removeTentative tag s).still = s.still := by
  simp only [State.removeTentative]
  repeat' split
  all_goals first | (simp; done) | (simp [foldl_still, apply_ite State.still]; done) | (simp; rfl) | rfl | (simp [State.still]; done)

@[simp] theorem State.removeExpected_still (tag : Tag) (s : State) :
    (State.removeExpected tag s).still = s.still := by
  simp only [State.removeExpected]
  repeat' split
  all_goals first | (simp; done) | (simp [foldl_still, apply_ite State.still]; done) | (simp; rfl) | rfl | (simp [State.still]; done)

@[simp] theorem State.dropBid_still (tag : Tag) (s : State) :
    (State.dropBid tag s).still = s.still := by
  simp only [State.dropBid]
  repeat' split
  all_goals first | (simp; done) | (simp [foldl_still, apply_ite State.still]; done) | (simp; rfl) | rfl | (simp [State.still]; done)

@[simp] theorem State.dropClaim_still (tag : Tag) (s : State) :
    (State.dropClaim tag s).still = s.still := by
  simp only [State.dropClaim]
  repeat' split
  all_goals first | (simp; done) | (simp [foldl_still, apply_ite State.still]; done) | (simp; rfl) | rfl | (simp [State.still]; done)

@[simp] theorem State.dropBidsOf_still (b : Nat) (s : State) :
    (State.dropBidsOf b s).still = s.still := by
  simp only [State.dropBidsOf]
  repeat' split
  all_goals first | (simp; done) | (simp [foldl_still, apply_ite State.still]; done) | (simp; rfl) | rfl | (simp [State.still]; done)

@[simp] theorem State.dropLostHeads_still (s : State) :
    (State.dropLostHeads s).still = s.still := by
  simp only [State.dropLostHeads]
  repeat' split
  all_goals first | (simp; done) | (simp [foldl_still, apply_ite State.still]; done) | (simp; rfl) | rfl | (simp [State.still]; done)

@[simp] theorem State.settle_still (before s : State) :
    (State.settle before s).still = s.still := by
  simp only [State.settle]
  rw [foldl_still]
  · simp
  · intro t n
    split <;> simp

@[simp] theorem State.reportAdjusted_still (bus run wall : Nat) (s : State) :
    (State.reportAdjusted bus run wall s).still = s.still := by
  simp only [State.reportAdjusted]
  repeat' split
  all_goals first | (simp; done) | (simp [foldl_still, apply_ite State.still]; done) | (simp; rfl) | rfl | (simp [State.still]; done)

@[simp] theorem State.dropChangedHeads_still (before s : State) :
    (State.dropChangedHeads before s).still = s.still := by
  simp only [State.dropChangedHeads]
  repeat' split
  all_goals first | (simp; done) | (simp [foldl_still, apply_ite State.still]; done) | (simp; rfl) | rfl | (simp [State.still]; done)

@[simp] theorem State.bindBus_still (bus run wall : Nat) (pinned substituted : Bool) (s : State) :
    (State.bindBus bus run wall pinned substituted s).still = s.still := by
  simp only [State.bindBus]
  repeat' split
  all_goals first | (simp; done) | (simp [foldl_still, apply_ite State.still]; done) | (simp; rfl) | rfl | (simp [State.still]; done)

@[simp] theorem State.unbindBus_still (bus : Nat) (s : State) :
    (State.unbindBus bus s).still = s.still := by
  simp only [State.unbindBus]
  repeat' split
  all_goals first | (simp; done) | (simp [foldl_still, apply_ite State.still]; done) | (simp; rfl) | rfl | (simp [State.still]; done)

end Sys2Proof.Machine
end

