-- ==== Sys2Proof/Laws/StillYard.lean ====
section
/-! SUPPORT. The still part of the node (Safety.lean) under the operations of the Service Timeline, the points, strays and the lanes. -/

set_option linter.all false
set_option linter.unusedSimpArgs false
set_option linter.unusedTactic false
set_option linter.unreachableTactic false

namespace Sys2Proof.Machine

open Sys2Proof

@[simp] theorem State.askJoin_still (p : PointId) (b : Nat) (s : State) :
    (State.askJoin p b s).still = s.still := by
  simp only [State.askJoin]
  repeat' split
  all_goals first | (simp; done) | (simp [foldl_still, apply_ite State.still]; done) | (simp; rfl) | rfl | (simp [State.still]; done)

@[simp] theorem State.beginFuel_still (p : PointId) (e : QueueEntry) (st : SlotState) (s : State) :
    (State.beginFuel p e st s).still = s.still := by
  simp only [State.beginFuel]
  repeat' split
  all_goals first | (simp; done) | (simp [foldl_still, apply_ite State.still]; done) | (simp; rfl) | rfl | (simp [State.still]; done)

@[simp] theorem State.beginWash_still (p : PointId) (e : QueueEntry) (st : SlotState) (s : State) :
    (State.beginWash p e st s).still = s.still := by
  simp only [State.beginWash]
  repeat' split
  all_goals first | (simp; done) | (simp [foldl_still, apply_ite State.still]; done) | (simp; rfl) | rfl | (simp [State.still]; done)

@[simp] theorem State.endFuel_still (p : PointId) (outcome : FuelOutcome) (left : Bool) (s : State) :
    (State.endFuel p outcome left s).still = s.still := by
  simp only [State.endFuel]
  repeat' split
  all_goals first | (simp; done) | (simp [foldl_still, apply_ite State.still]; done) | (simp; rfl) | rfl | (simp [State.still]; done)

@[simp] theorem State.leaveClearing_still (p : PointId) (s : State) :
    (State.leaveClearing p s).still = s.still := by
  simp only [State.leaveClearing]
  repeat' split
  all_goals first | (simp; done) | (simp [foldl_still, apply_ite State.still]; done) | (simp; rfl) | rfl | (simp [State.still]; done)

/-- The start tests keep the still part. -/
@[simp] theorem State.startTests_still (n : Nat) (p : PointId) : ∀ s : State,
    (State.startTests n p s).still = s.still := by
  induction n with
  | zero => intro s; rfl
  | succ n ih =>
    intro s
    simp only [State.startTests]
    repeat' split
    all_goals simp [ih]

@[simp] theorem State.startTest_still (p : PointId) (s : State) :
    (State.startTest p s).still = s.still := by
  simp only [State.startTest]
  repeat' split
  all_goals first | (simp; done) | (simp [foldl_still, apply_ite State.still]; done) | (simp; rfl) | rfl | (simp [State.still]; done)

@[simp] theorem State.clearingTest_still (p : PointId) (s : State) :
    (State.clearingTest p s).still = s.still := by
  simp only [State.clearingTest]
  repeat' split
  all_goals first | (simp; done) | (simp [foldl_still, apply_ite State.still]; done) | (simp; rfl) | rfl | (simp [State.still]; done)

@[simp] theorem State.countLeft_still (p : PointId) (s : State) :
    (State.countLeft p s).still = s.still := by
  simp only [State.countLeft]
  repeat' split
  all_goals first | (simp; done) | (simp [foldl_still, apply_ite State.still]; done) | (simp; rfl) | rfl | (simp [State.still]; done)

@[simp] theorem State.takeFromQueue_still (p : PointId) (b : Nat) (s : State) :
    (State.takeFromQueue p b s).still = s.still := by
  simp only [State.takeFromQueue]
  repeat' split
  all_goals first | (simp; done) | (simp [foldl_still, apply_ite State.still]; done) | (simp; rfl) | rfl | (simp [State.still]; done)

@[simp] theorem State.expireQueue_still (p : PointId) (q : QueueEntry → Bool) (s : State) :
    (State.expireQueue p q s).still = s.still := by
  simp only [State.expireQueue]
  repeat' split
  all_goals first | (simp; done) | (simp [foldl_still, apply_ite State.still]; done) | (simp; rfl) | rfl | (simp [State.still]; done)

@[simp] theorem State.retryJoins_still (p : PointId) (s : State) :
    (State.retryJoins p s).still = s.still := by
  simp only [State.retryJoins]
  repeat' split
  all_goals first | (simp; done) | (simp [foldl_still, apply_ite State.still]; done) | (simp; rfl) | rfl | (simp [State.still]; done)

@[simp] theorem State.testIfClosed_still (before s : State) :
    (State.testIfClosed before s).still = s.still := by
  simp only [State.testIfClosed]
  repeat' split
  all_goals first | (simp; done) | (simp [foldl_still, apply_ite State.still]; done) | (simp; rfl) | rfl | (simp [State.still]; done)

@[simp] theorem State.giveUpRecord_still (b : Nat) (here : Resource) (s : State) :
    (State.giveUpRecord b here s).still = s.still := by
  simp only [State.giveUpRecord]
  repeat' split
  all_goals first | (simp; done) | (simp [foldl_still, apply_ite State.still]; done) | (simp; rfl) | rfl | (simp [State.still]; done)

@[simp] theorem State.dropExpectedOf_still (b : Nat) (here : Option Resource) (s : State) :
    (State.dropExpectedOf b here s).still = s.still := by
  simp only [State.dropExpectedOf]
  repeat' split
  all_goals first | (simp; done) | (simp [foldl_still, apply_ite State.still]; done) | (simp; rfl) | rfl | (simp [State.still]; done)

@[simp] theorem State.clearForStray_still (b : Nat) (here : Resource) (s : State) :
    (State.clearForStray b here s).still = s.still := by
  simp only [State.clearForStray]
  repeat' split
  all_goals first | (simp; done) | (simp [foldl_still, apply_ite State.still]; done) | (simp; rfl) | rfl | (simp [State.still]; done)

@[simp] theorem State.announceStray_still (b : Nat) (here : Resource) (awaited : Bool) (s : State) :
    (State.announceStray b here awaited s).still = s.still := by
  simp only [State.announceStray]
  repeat' split
  all_goals first | (simp; done) | (simp [foldl_still, apply_ite State.still]; done) | (simp; rfl) | rfl | (simp [State.still]; done)

@[simp] theorem State.answerStray_still (b source : Nat) (here : Resource) (s : State) :
    (State.answerStray b source here s).still = s.still := by
  simp only [State.answerStray]
  repeat' split
  all_goals first | (simp; done) | (simp [foldl_still, apply_ite State.still]; done) | (simp; rfl) | rfl | (simp [State.still]; done)

@[simp] theorem State.onStray_still (source b : Nat) (s : State) :
    (State.onStray source b s).still = s.still := by
  simp only [State.onStray]
  repeat' split
  all_goals first | (simp; done) | (simp [foldl_still, apply_ite State.still]; done) | (simp; rfl) | rfl | (simp [State.still]; done)

@[simp] theorem State.classTest_still (n b old : Nat) (s : State) :
    (State.classTest n b old s).still = s.still := by
  simp only [State.classTest]
  repeat' split
  all_goals first | (simp; done) | (simp [foldl_still, apply_ite State.still]; done) | (simp; rfl) | rfl | (simp [State.still]; done)

@[simp] theorem State.parkExpected_still (n : Nat) (e : LaneEntry) (s : State) :
    (State.parkExpected n e s).still = s.still := by
  simp only [State.parkExpected]
  repeat' split
  all_goals first | (simp; done) | (simp [foldl_still, apply_ite State.still]; done) | (simp; rfl) | rfl | (simp [State.still]; done)

@[simp] theorem State.parkClaimed_still (n : Nat) (t : TagFields) (e : LaneEntry) (s : State) :
    (State.parkClaimed n t e s).still = s.still := by
  simp only [State.parkClaimed]
  repeat' split
  all_goals first | (simp; done) | (simp [foldl_still, apply_ite State.still]; done) | (simp; rfl) | rfl | (simp [State.still]; done)

@[simp] theorem State.makeLanePlace_still (n : Nat) (s : State) :
    (State.makeLanePlace n s).still = s.still := by
  simp only [State.makeLanePlace]
  repeat' split
  all_goals first | (simp; done) | (simp [foldl_still, apply_ite State.still]; done) | (simp; rfl) | rfl | (simp [State.still]; done)

@[simp] theorem State.strayIntoLane_still (n : Nat) (t : TagFields) (s : State) :
    (State.strayIntoLane n t s).still = s.still := by
  simp only [State.strayIntoLane]
  repeat' split
  all_goals first | (simp; done) | (simp [foldl_still, apply_ite State.still]; done) | (simp; rfl) | rfl | (simp [State.still]; done)

@[simp] theorem State.laneEntryRead_still (n : Nat) (t : TagFields) (s : State) :
    (State.laneEntryRead n t s).still = s.still := by
  simp only [State.laneEntryRead]
  repeat' split
  all_goals first | (simp; done) | (simp [foldl_still, apply_ite State.still]; done) | (simp; rfl) | rfl | (simp [State.still]; done)

@[simp] theorem State.sendGone_still (n : Nat) (e : LaneEntry) (s : State) :
    (State.sendGone n e s).still = s.still := by
  simp only [State.sendGone]
  repeat' split
  all_goals first | (simp; done) | (simp [foldl_still, apply_ite State.still]; done) | (simp; rfl) | rfl | (simp [State.still]; done)

@[simp] theorem State.laneExitRead_still (n : Nat) (t : TagFields) (s : State) :
    (State.laneExitRead n t s).still = s.still := by
  simp only [State.laneExitRead]
  repeat' split
  all_goals first | (simp; done) | (simp [foldl_still, apply_ite State.still]; done) | (simp; rfl) | rfl | (simp [State.still]; done)

@[simp] theorem State.laneClear_still (n : Nat) (s : State) :
    (State.laneClear n s).still = s.still := by
  simp only [State.laneClear]
  repeat' split
  all_goals first | (simp; done) | (simp [foldl_still, apply_ite State.still]; done) | (simp; rfl) | rfl | (simp [State.still]; done)

@[simp] theorem State.expireLanes_still (q : LaneEntry → Bool) (s : State) :
    (State.expireLanes q s).still = s.still := by
  simp only [State.expireLanes]
  repeat' split
  all_goals first | (simp; done) | (simp [foldl_still, apply_ite State.still]; done) | (simp; rfl) | rfl | (simp [State.still]; done)

@[simp] theorem State.closeLane_still (n : Nat) (s : State) :
    (State.closeLane n s).still = s.still := by
  simp only [State.closeLane]
  repeat' split
  all_goals first | (simp; done) | (simp [foldl_still, apply_ite State.still]; done) | (simp; rfl) | rfl | (simp [State.still]; done)

@[simp] theorem State.openLane_still (n : Nat) (s : State) :
    (State.openLane n s).still = s.still := by
  simp only [State.openLane]
  repeat' split
  all_goals first | (simp; done) | (simp [foldl_still, apply_ite State.still]; done) | (simp; rfl) | rfl | (simp [State.still]; done)

@[simp] theorem State.setClosed_still (v : Bool) (p : PointId) (s : State) :
    (State.setClosed v p s).still = s.still := by
  simp only [State.setClosed]
  repeat' split
  all_goals first | (simp; done) | (simp [foldl_still, apply_ite State.still]; done) | (simp; rfl) | rfl | (simp [State.still]; done)

@[simp] theorem State.clearPoint_still (p : PointId) (s : State) :
    (State.clearPoint p s).still = s.still := by
  simp only [State.clearPoint]
  repeat' split
  all_goals first | (simp; done) | (simp [foldl_still, apply_ite State.still]; done) | (simp; rfl) | rfl | (simp [State.still]; done)

end Sys2Proof.Machine
end

