-- ==== Sys2Proof/Laws/StillService.lean ====
section
/-! SUPPORT. The still part of the node (Safety.lean) under the operations of the service points and the Pull-Out Controller. -/

set_option linter.all false
set_option linter.unusedSimpArgs false
set_option linter.unusedTactic false
set_option linter.unreachableTactic false

namespace Sys2Proof.Machine

open Sys2Proof

@[simp] theorem State.waitExpected_still (p : PointId) (e : QueueEntry) (s : State) :
    (State.waitExpected p e s).still = s.still := by
  simp only [State.waitExpected]
  repeat' split
  all_goals first | (simp; done) | (simp [foldl_still, apply_ite State.still]; done) | (simp; rfl) | rfl | (simp [State.still]; done)

@[simp] theorem State.waitClaimed_still (p : PointId) (t : TagFields) (e : QueueEntry) (s : State) :
    (State.waitClaimed p t e s).still = s.still := by
  simp only [State.waitClaimed]
  repeat' split
  all_goals first | (simp; done) | (simp [foldl_still, apply_ite State.still]; done) | (simp; rfl) | rfl | (simp [State.still]; done)

@[simp] theorem State.waitPending_still (p : PointId) (t : TagFields) (e : QueueEntry) (s : State) :
    (State.waitPending p t e s).still = s.still := by
  simp only [State.waitPending]
  repeat' split
  all_goals first | (simp; done) | (simp [foldl_still, apply_ite State.still]; done) | (simp; rfl) | rfl | (simp [State.still]; done)

@[simp] theorem State.makeQueuePlace_still (p : PointId) (s : State) :
    (State.makeQueuePlace p s).still = s.still := by
  simp only [State.makeQueuePlace]
  repeat' split
  all_goals first | (simp; done) | (simp [foldl_still, apply_ite State.still]; done) | (simp; rfl) | rfl | (simp [State.still]; done)

@[simp] theorem State.strayIntoQueue_still (p : PointId) (t : TagFields) (s : State) :
    (State.strayIntoQueue p t s).still = s.still := by
  simp only [State.strayIntoQueue]
  repeat' split
  all_goals first | (simp; done) | (simp [foldl_still, apply_ite State.still]; done) | (simp; rfl) | rfl | (simp [State.still]; done)

@[simp] theorem State.finishFaulted_still (p : PointId) (b : Nat) (f : VisitRecord → VisitRecord) (s : State) :
    (State.finishFaulted p b f s).still = s.still := by
  simp only [State.finishFaulted]
  repeat' split
  all_goals first | (simp; done) | (simp [foldl_still, apply_ite State.still]; done) | (simp; rfl) | rfl | (simp [State.still]; done)

@[simp] theorem State.passOn_still (p : PointId) (b : Nat) (s : State) :
    (State.passOn p b s).still = s.still := by
  simp only [State.passOn]
  repeat' split
  all_goals first | (simp; done) | (simp [foldl_still, apply_ite State.still]; done) | (simp; rfl) | rfl | (simp [State.still]; done)

@[simp] theorem State.afterEntry_still (p : PointId) (b : Nat) (s : State) :
    (State.afterEntry p b s).still = s.still := by
  simp only [State.afterEntry]
  repeat' split
  all_goals first | (simp; done) | (simp [foldl_still, apply_ite State.still]; done) | (simp; rfl) | rfl | (simp [State.still]; done)

@[simp] theorem State.pointEntryRead_still (p : PointId) (t : TagFields) (s : State) :
    (State.pointEntryRead p t s).still = s.still := by
  simp only [State.pointEntryRead]
  repeat' split
  all_goals first | (simp; done) | (simp [foldl_still, apply_ite State.still]; done) | (simp; rfl) | rfl | (simp [State.still]; done)

@[simp] theorem State.endFuelTested_still (p : PointId) (outcome : FuelOutcome) (left : Bool) (s : State) :
    (State.endFuelTested p outcome left s).still = s.still := by
  simp only [State.endFuelTested]
  repeat' split
  all_goals first | (simp; done) | (simp [foldl_still, apply_ite State.still]; done) | (simp; rfl) | rfl | (simp [State.still]; done)

@[simp] theorem State.onPulse_still (p : PointId) (s : State) :
    (State.onPulse p s).still = s.still := by
  simp only [State.onPulse]
  repeat' split
  all_goals first | (simp; done) | (simp [foldl_still, apply_ite State.still]; done) | (simp; rfl) | rfl | (simp [State.still]; done)

@[simp] theorem State.nozzleLifted_still (p : PointId) (s : State) :
    (State.nozzleLifted p s).still = s.still := by
  simp only [State.nozzleLifted]
  repeat' split
  all_goals first | (simp; done) | (simp [foldl_still, apply_ite State.still]; done) | (simp; rfl) | rfl | (simp [State.still]; done)

@[simp] theorem State.nozzleHung_still (p : PointId) (s : State) :
    (State.nozzleHung p s).still = s.still := by
  simp only [State.nozzleHung]
  repeat' split
  all_goals first | (simp; done) | (simp [foldl_still, apply_ite State.still]; done) | (simp; rfl) | rfl | (simp [State.still]; done)

@[simp] theorem State.nozzleTimeout_still (p : PointId) (s : State) :
    (State.nozzleTimeout p s).still = s.still := by
  simp only [State.nozzleTimeout]
  repeat' split
  all_goals first | (simp; done) | (simp [foldl_still, apply_ite State.still]; done) | (simp; rfl) | rfl | (simp [State.still]; done)

@[simp] theorem State.driveOff_still (p : PointId) (s : State) :
    (State.driveOff p s).still = s.still := by
  simp only [State.driveOff]
  repeat' split
  all_goals first | (simp; done) | (simp [foldl_still, apply_ite State.still]; done) | (simp; rfl) | rfl | (simp [State.still]; done)

@[simp] theorem State.leaveUnfuelled_still (p : PointId) (b : Nat) (s : State) :
    (State.leaveUnfuelled p b s).still = s.still := by
  simp only [State.leaveUnfuelled]
  repeat' split
  all_goals first | (simp; done) | (simp [foldl_still, apply_ite State.still]; done) | (simp; rfl) | rfl | (simp [State.still]; done)

@[simp] theorem State.countExit_still (p : PointId) (b : Nat) (s : State) :
    (State.countExit p b s).still = s.still := by
  simp only [State.countExit]
  repeat' split
  all_goals first | (simp; done) | (simp [foldl_still, apply_ite State.still]; done) | (simp; rfl) | rfl | (simp [State.still]; done)

@[simp] theorem State.fuelExitRead_still (p : PointId) (t : TagFields) (s : State) :
    (State.fuelExitRead p t s).still = s.still := by
  simp only [State.fuelExitRead]
  repeat' split
  all_goals first | (simp; done) | (simp [foldl_still, apply_ite State.still]; done) | (simp; rfl) | rfl | (simp [State.still]; done)

@[simp] theorem State.measureFlow_still (p : PointId) (s : State) :
    (State.measureFlow p s).still = s.still := by
  simp only [State.measureFlow]
  repeat' split
  all_goals first | (simp; done) | (simp [foldl_still, apply_ite State.still]; done) | (simp; rfl) | rfl | (simp [State.still]; done)

@[simp] theorem State.flowFault_still (p : PointId) (s : State) :
    (State.flowFault p s).still = s.still := by
  simp only [State.flowFault]
  repeat' split
  all_goals first | (simp; done) | (simp [foldl_still, apply_ite State.still]; done) | (simp; rfl) | rfl | (simp [State.still]; done)

@[simp] theorem State.beginInterval_still (p : PointId) (s : State) :
    (State.beginInterval p s).still = s.still := by
  simp only [State.beginInterval]
  repeat' split
  all_goals first | (simp; done) | (simp [foldl_still, apply_ite State.still]; done) | (simp; rfl) | rfl | (simp [State.still]; done)

@[simp] theorem State.finishWash_still (p : PointId) (st : PointState) (outcome : VisitRecord → WashOutcome) (s :
    State) :
    (State.finishWash p st outcome s).still = s.still := by
  simp only [State.finishWash]
  repeat' split
  all_goals first | (simp; done) | (simp [foldl_still, apply_ite State.still]; done) | (simp; rfl) | rfl | (simp [State.still]; done)

@[simp] theorem State.washDone_still (p : PointId) (s : State) :
    (State.washDone p s).still = s.still := by
  simp only [State.washDone]
  repeat' split
  all_goals first | (simp; done) | (simp [foldl_still, apply_ite State.still]; done) | (simp; rfl) | rfl | (simp [State.still]; done)

@[simp] theorem State.faultEntry_still (p : PointId) (s : State) (e : QueueEntry) :
    (State.faultEntry p s e).still = s.still := by
  simp only [State.faultEntry]
  repeat' split
  all_goals first | (simp; done) | (simp [foldl_still, apply_ite State.still]; done) | (simp; rfl) | rfl | (simp [State.still]; done)

@[simp] theorem State.emptyQueue_still (p : PointId) (s : State) :
    (State.emptyQueue p s).still = s.still := by
  simp only [State.emptyQueue]
  repeat' split
  all_goals first | (simp; done) | (simp [foldl_still, apply_ite State.still]; done) | (simp; rfl) | rfl | (simp [State.still]; done)

@[simp] theorem State.washFault_still (p : PointId) (cause : WashFaultCause) (s : State) :
    (State.washFault p cause s).still = s.still := by
  simp only [State.washFault]
  repeat' split
  all_goals first | (simp; done) | (simp [foldl_still, apply_ite State.still]; done) | (simp; rfl) | rfl | (simp [State.still]; done)

@[simp] theorem State.doneTimeout_still (p : PointId) (s : State) :
    (State.doneTimeout p s).still = s.still := by
  simp only [State.doneTimeout]
  repeat' split
  all_goals first | (simp; done) | (simp [foldl_still, apply_ite State.still]; done) | (simp; rfl) | rfl | (simp [State.still]; done)

@[simp] theorem State.leaveUnwashed_still (p : PointId) (b : Nat) (s : State) :
    (State.leaveUnwashed p b s).still = s.still := by
  simp only [State.leaveUnwashed]
  repeat' split
  all_goals first | (simp; done) | (simp [foldl_still, apply_ite State.still]; done) | (simp; rfl) | rfl | (simp [State.still]; done)

@[simp] theorem State.leaveArrived_still (p : PointId) (b : Nat) (s : State) :
    (State.leaveArrived p b s).still = s.still := by
  simp only [State.leaveArrived]
  repeat' split
  all_goals first | (simp; done) | (simp [foldl_still, apply_ite State.still]; done) | (simp; rfl) | rfl | (simp [State.still]; done)

@[simp] theorem State.washExitRead_still (p : PointId) (t : TagFields) (s : State) :
    (State.washExitRead p t s).still = s.still := by
  simp only [State.washExitRead]
  repeat' split
  all_goals first | (simp; done) | (simp [foldl_still, apply_ite State.still]; done) | (simp; rfl) | rfl | (simp [State.still]; done)

@[simp] theorem State.pointCleared_still (p : PointId) (s : State) :
    (State.pointCleared p s).still = s.still := by
  simp only [State.pointCleared]
  repeat' split
  all_goals first | (simp; done) | (simp [foldl_still, apply_ite State.still]; done) | (simp; rfl) | rfl | (simp [State.still]; done)

@[simp] theorem State.pointExitRead_still (p : PointId) (t : TagFields) (s : State) :
    (State.pointExitRead p t s).still = s.still := by
  simp only [State.pointExitRead]
  repeat' split
  all_goals first | (simp; done) | (simp [foldl_still, apply_ite State.still]; done) | (simp; rfl) | rfl | (simp [State.still]; done)

@[simp] theorem State.expireRecords_still (p : PointId) (q : QueueEntry → Bool) (s : State) :
    (State.expireRecords p q s).still = s.still := by
  simp only [State.expireRecords]
  repeat' split
  all_goals first | (simp; done) | (simp [foldl_still, apply_ite State.still]; done) | (simp; rfl) | rfl | (simp [State.still]; done)

@[simp] theorem State.pointMinute_still (p : PointId) (completes : Bool) (s : State) :
    (State.pointMinute p completes s).still = s.still := by
  simp only [State.pointMinute]
  repeat' split
  all_goals first | (simp; done) | (simp [foldl_still, apply_ite State.still]; done) | (simp; rfl) | rfl | (simp [State.still]; done)

@[simp] theorem State.setAsk_still (n b : Nat) (a : AskState) (s : State) :
    (State.setAsk n b a s).still = s.still := by
  simp only [State.setAsk]
  repeat' split
  all_goals first | (simp; done) | (simp [foldl_still, apply_ite State.still]; done) | (simp; rfl) | rfl | (simp [State.still]; done)

@[simp] theorem State.askSwap_still (n : Nat) (e : LaneEntry) (ahead : List LaneEntry) (s : State) :
    (State.askSwap n e ahead s).still = s.still := by
  simp only [State.askSwap]
  repeat' split
  all_goals first | (simp; done) | (simp [foldl_still, apply_ite State.still]; done) | (simp; rfl) | rfl | (simp [State.still]; done)

@[simp] theorem State.blockRun_still (n : Nat) (e : LaneEntry) (cause : BlockedCause) (s : State) :
    (State.blockRun n e cause s).still = s.still := by
  simp only [State.blockRun]
  repeat' split
  all_goals first | (simp; done) | (simp [foldl_still, apply_ite State.still]; done) | (simp; rfl) | rfl | (simp [State.still]; done)

@[simp] theorem State.dealDue_still (n : Nat) (s : State) (b : Nat) :
    (State.dealDue n s b).still = s.still := by
  simp only [State.dealDue]
  repeat' split
  all_goals first | (simp; done) | (simp [foldl_still, apply_ite State.still]; done) | (simp; rfl) | rfl | (simp [State.still]; done)

@[simp] theorem State.callLane_still (s : State) (n : Nat) :
    (State.callLane s n).still = s.still := by
  simp only [State.callLane]
  repeat' split
  all_goals first | (simp; done) | (simp [foldl_still, apply_ite State.still]; done) | (simp; rfl) | rfl | (simp [State.still]; done)

@[simp] theorem State.callTimes_still (s : State) :
    (State.callTimes s).still = s.still := by
  simp only [State.callTimes]
  repeat' split
  all_goals first | (simp; done) | (simp [foldl_still, apply_ite State.still]; done) | (simp; rfl) | rfl | (simp [State.still]; done)

@[simp] theorem State.modLaneBus_still (b : Nat) (f : LaneEntry → LaneEntry) (s : State) :
    (State.modLaneBus b f s).still = s.still := by
  simp only [State.modLaneBus]
  repeat' split
  all_goals first | (simp; done) | (simp [foldl_still, apply_ite State.still]; done) | (simp; rfl) | rfl | (simp [State.still]; done)

@[simp] theorem State.clearMark_still (tag : Tag) (s : State) :
    (State.clearMark tag s).still = s.still := by
  simp only [State.clearMark]
  repeat' split
  all_goals first | (simp; done) | (simp [foldl_still, apply_ite State.still]; done) | (simp; rfl) | rfl | (simp [State.still]; done)

@[simp] theorem State.bindTaken_still (b : Nat) (k : TakeMark) (s : State) :
    (State.bindTaken b k s).still = s.still := by
  simp only [State.bindTaken]
  repeat' split
  all_goals first | (simp; done) | (simp [foldl_still, apply_ite State.still]; done) | (simp; rfl) | rfl | (simp [State.still]; done)

@[simp] theorem State.bindMark_still (tag : Tag) (s : State) :
    (State.bindMark tag s).still = s.still := by
  simp only [State.bindMark]
  repeat' split
  all_goals first | (simp; done) | (simp [foldl_still, apply_ite State.still]; done) | (simp; rfl) | rfl | (simp [State.still]; done)

@[simp] theorem State.rebindAsker_still (run : Nat) (h : HeadFields) (s : State) :
    (State.rebindAsker run h s).still = s.still := by
  simp only [State.rebindAsker]
  repeat' split
  all_goals first | (simp; done) | (simp [foldl_still, apply_ite State.still]; done) | (simp; rfl) | rfl | (simp [State.still]; done)

@[simp] theorem State.refuseSwap_still (run : Nat) (s : State) :
    (State.refuseSwap run s).still = s.still := by
  simp only [State.refuseSwap]
  repeat' split
  all_goals first | (simp; done) | (simp [foldl_still, apply_ite State.still]; done) | (simp; rfl) | rfl | (simp [State.still]; done)

end Sys2Proof.Machine
end

