-- ==== Sys2Proof/Laws/StillHandover.lean ====
section
/-! SUPPORT. The still part of the node (Safety.lean) under the operations of the Handover Controller and of the minute event. -/

set_option linter.all false
set_option linter.unusedSimpArgs false
set_option linter.unusedTactic false
set_option linter.unreachableTactic false

namespace Sys2Proof.Machine

open Sys2Proof

@[simp] theorem State.modBids_still (f : BidEntry → BidEntry) (s : State) :
    (State.modBids f s).still = s.still := by
  simp only [State.modBids]
  repeat' split
  all_goals first | (simp; done) | (simp [foldl_still, apply_ite State.still]; done) | (simp; rfl) | rfl | (simp [State.still]; done)

@[simp] theorem State.showTaker_still (it : OutItem) (t : HeardTake) (s : State) :
    (State.showTaker it t s).still = s.still := by
  simp only [State.showTaker]
  repeat' split
  all_goals first | (simp; done) | (simp [foldl_still, apply_ite State.still]; done) | (simp; rfl) | rfl | (simp [State.still]; done)

@[simp] theorem State.commit_still (o : OpenOffer) (t : HeardTake) (s : State) :
    (State.commit o t s).still = s.still := by
  simp only [State.commit]
  repeat' split
  all_goals first | (simp; done) | (simp [foldl_still, apply_ite State.still]; done) | (simp; rfl) | rfl | (simp [State.still]; done)

@[simp] theorem State.countJoin_still (s : State) :
    (State.countJoin s).still = s.still := by
  simp only [State.countJoin]
  repeat' split
  all_goals first | (simp; done) | (simp [foldl_still, apply_ite State.still]; done) | (simp; rfl) | rfl | (simp [State.still]; done)

@[simp] theorem State.skipItem_still (k : ItemKey) (r : VisitRecord) (s : State) :
    (State.skipItem k r s).still = s.still := by
  simp only [State.skipItem]
  repeat' split
  all_goals first | (simp; done) | (simp [foldl_still, apply_ite State.still]; done) | (simp; rfl) | rfl | (simp [State.still]; done)

@[simp] theorem State.strandItem_still (it : OutItem) (r : VisitRecord) (s : State) :
    (State.strandItem it r s).still = s.still := by
  simp only [State.strandItem]
  repeat' split
  all_goals first | (simp; done) | (simp [foldl_still, apply_ite State.still]; done) | (simp; rfl) | rfl | (simp [State.still]; done)

@[simp] theorem State.secondExpiry_still (o : OpenOffer) (s : State) :
    (State.secondExpiry o s).still = s.still := by
  simp only [State.secondExpiry]
  repeat' split
  all_goals first | (simp; done) | (simp [foldl_still, apply_ite State.still]; done) | (simp; rfl) | rfl | (simp [State.still]; done)

@[simp] theorem State.offerWindowEnd_still (s : State) :
    (State.offerWindowEnd s).still = s.still := by
  simp only [State.offerWindowEnd]
  repeat' split
  all_goals first | (simp; done) | (simp [foldl_still, apply_ite State.still]; done) | (simp; rfl) | rfl | (simp [State.still]; done)

@[simp] theorem State.takeWaitEnd_still (s : State) :
    (State.takeWaitEnd s).still = s.still := by
  simp only [State.takeWaitEnd]
  repeat' split
  all_goals first | (simp; done) | (simp [foldl_still, apply_ite State.still]; done) | (simp; rfl) | rfl | (simp [State.still]; done)

@[simp] theorem State.ownOfferHeard_still (number : Nat) (s : State) :
    (State.ownOfferHeard number s).still = s.still := by
  simp only [State.ownOfferHeard]
  repeat' split
  all_goals first | (simp; done) | (simp [foldl_still, apply_ite State.still]; done) | (simp; rfl) | rfl | (simp [State.still]; done)

@[simp] theorem State.ownOfferDiscarded_still (number : Nat) (s : State) :
    (State.ownOfferDiscarded number s).still = s.still := by
  simp only [State.ownOfferDiscarded]
  repeat' split
  all_goals first | (simp; done) | (simp [foldl_still, apply_ite State.still]; done) | (simp; rfl) | rfl | (simp [State.still]; done)

@[simp] theorem State.clearTag_still (tag : Tag) (s : State) :
    (State.clearTag tag s).still = s.still := by
  simp only [State.clearTag]
  repeat' split
  all_goals first | (simp; done) | (simp [foldl_still, apply_ite State.still]; done) | (simp; rfl) | rfl | (simp [State.still]; done)

@[simp] theorem State.supersede_still (h : Nat) (f : OfferFields) (s : State) :
    (State.supersede h f s).still = s.still := by
  simp only [State.supersede]
  repeat' split
  all_goals first | (simp; done) | (simp [foldl_still, apply_ite State.still]; done) | (simp; rfl) | rfl | (simp [State.still]; done)

@[simp] theorem State.placeTentative_still (b : BidEntry) (s : State) :
    (State.placeTentative b s).still = s.still := by
  simp only [State.placeTentative]
  repeat' split
  all_goals first | (simp; done) | (simp [foldl_still, apply_ite State.still]; done) | (simp; rfl) | rfl | (simp [State.still]; done)

@[simp] theorem State.makeBid_still (b : BidEntry) (s : State) :
    (State.makeBid b s).still = s.still := by
  simp only [State.makeBid]
  repeat' split
  all_goals first | (simp; done) | (simp [foldl_still, apply_ite State.still]; done) | (simp; rfl) | rfl | (simp [State.still]; done)

@[simp] theorem State.offerHeard_still (h : Nat) (f : OfferFields) (s : State) :
    (State.offerHeard h f s).still = s.still := by
  simp only [State.offerHeard]
  repeat' split
  all_goals first | (simp; done) | (simp [foldl_still, apply_ite State.still]; done) | (simp; rfl) | rfl | (simp [State.still]; done)

@[simp] theorem State.bidHeard_still (source : Nat) (f : BidFields) (s : State) :
    (State.bidHeard source f s).still = s.still := by
  simp only [State.bidHeard]
  repeat' split
  all_goals first | (simp; done) | (simp [foldl_still, apply_ite State.still]; done) | (simp; rfl) | rfl | (simp [State.still]; done)

@[simp] theorem State.ownBidHeard_still (tag : Tag) (value : Nat) (s : State) :
    (State.ownBidHeard tag value s).still = s.still := by
  simp only [State.ownBidHeard]
  repeat' split
  all_goals first | (simp; done) | (simp [foldl_still, apply_ite State.still]; done) | (simp; rfl) | rfl | (simp [State.still]; done)

@[simp] theorem State.expectTag_still (tag : Tag) (s : State) :
    (State.expectTag tag s).still = s.still := by
  simp only [State.expectTag]
  repeat' split
  all_goals first | (simp; done) | (simp [foldl_still, apply_ite State.still]; done) | (simp; rfl) | rfl | (simp [State.still]; done)

@[simp] theorem State.makeTake_still (e : BidEntry) (s : State) :
    (State.makeTake e s).still = s.still := by
  simp only [State.makeTake]
  repeat' split
  all_goals first | (simp; done) | (simp [foldl_still, apply_ite State.still]; done) | (simp; rfl) | rfl | (simp [State.still]; done)

@[simp] theorem State.bidWindowEnd_still (tag : Tag) (s : State) :
    (State.bidWindowEnd tag s).still = s.still := by
  simp only [State.bidWindowEnd]
  repeat' split
  all_goals first | (simp; done) | (simp [foldl_still, apply_ite State.still]; done) | (simp; rfl) | rfl | (simp [State.still]; done)

@[simp] theorem State.holderTake_still (source : Nat) (f : TakeFields) (s : State) :
    (State.holderTake source f s).still = s.still := by
  simp only [State.holderTake]
  repeat' split
  all_goals first | (simp; done) | (simp [foldl_still, apply_ite State.still]; done) | (simp; rfl) | rfl | (simp [State.still]; done)

@[simp] theorem State.takerTake_still (source : Nat) (f : TakeFields) (s : State) :
    (State.takerTake source f s).still = s.still := by
  simp only [State.takerTake]
  repeat' split
  all_goals first | (simp; done) | (simp [foldl_still, apply_ite State.still]; done) | (simp; rfl) | rfl | (simp [State.still]; done)

@[simp] theorem State.markTake_still (source : Nat) (f : TakeFields) (s : State) :
    (State.markTake source f s).still = s.still := by
  simp only [State.markTake]
  repeat' split
  all_goals first | (simp; done) | (simp [foldl_still, apply_ite State.still]; done) | (simp; rfl) | rfl | (simp [State.still]; done)

@[simp] theorem State.takeHeard_still (source : Nat) (f : TakeFields) (s : State) :
    (State.takeHeard source f s).still = s.still := by
  simp only [State.takeHeard]
  repeat' split
  all_goals first | (simp; done) | (simp [foldl_still, apply_ite State.still]; done) | (simp; rfl) | rfl | (simp [State.still]; done)

@[simp] theorem State.setMark_still (e : BidEntry) (s : State) :
    (State.setMark e s).still = s.still := by
  simp only [State.setMark]
  repeat' split
  all_goals first | (simp; done) | (simp [foldl_still, apply_ite State.still]; done) | (simp; rfl) | rfl | (simp [State.still]; done)

@[simp] theorem State.ownTakeHeard_still (f : TakeFields) (s : State) :
    (State.ownTakeHeard f s).still = s.still := by
  simp only [State.ownTakeHeard]
  repeat' split
  all_goals first | (simp; done) | (simp [foldl_still, apply_ite State.still]; done) | (simp; rfl) | rfl | (simp [State.still]; done)

@[simp] theorem State.takeMarkEnd_still (tag : Tag) (s : State) :
    (State.takeMarkEnd tag s).still = s.still := by
  simp only [State.takeMarkEnd]
  repeat' split
  all_goals first | (simp; done) | (simp [foldl_still, apply_ite State.still]; done) | (simp; rfl) | rfl | (simp [State.still]; done)

@[simp] theorem State.onDuty_still (source : Nat) (payload : List Byte) (s : State) :
    (State.onDuty source payload s).still = s.still := by
  simp only [State.onDuty]
  repeat' split
  all_goals first | (simp; done) | (simp [foldl_still, apply_ite State.still]; done) | (simp; rfl) | rfl | (simp [State.still]; done)

@[simp] theorem State.unbindOthers_still (b run : Nat) (s : State) :
    (State.unbindOthers b run s).still = s.still := by
  simp only [State.unbindOthers]
  repeat' split
  all_goals first | (simp; done) | (simp [foldl_still, apply_ite State.still]; done) | (simp; rfl) | rfl | (simp [State.still]; done)

@[simp] theorem State.laneTakesRecord_still (n : Nat) (r : VisitRecord) (d : Duty) (s : State) :
    (State.laneTakesRecord n r d s).still = s.still := by
  simp only [State.laneTakesRecord]
  repeat' split
  all_goals first | (simp; done) | (simp [foldl_still, apply_ite State.still]; done) | (simp; rfl) | rfl | (simp [State.still]; done)

@[simp] theorem State.queueTakesRecord_still (p : PointId) (r : VisitRecord) (d : Duty) (s : State) :
    (State.queueTakesRecord p r d s).still = s.still := by
  simp only [State.queueTakesRecord]
  repeat' split
  all_goals first | (simp; done) | (simp [foldl_still, apply_ite State.still]; done) | (simp; rfl) | rfl | (simp [State.still]; done)

@[simp] theorem State.onRecord_still (r : VisitRecord) (s : State) :
    (State.onRecord r s).still = s.still := by
  simp only [State.onRecord]
  repeat' split
  all_goals first | (simp; done) | (simp [foldl_still, apply_ite State.still]; done) | (simp; rfl) | rfl | (simp [State.still]; done)

@[simp] theorem State.expireLaneRecords_still (q : LaneEntry → Bool) (s : State) :
    (State.expireLaneRecords q s).still = s.still := by
  simp only [State.expireLaneRecords]
  repeat' split
  all_goals first | (simp; done) | (simp [foldl_still, apply_ite State.still]; done) | (simp; rfl) | rfl | (simp [State.still]; done)

@[simp] theorem State.expireDutyWait_still (q : VisitRecord → Bool) (s : State) :
    (State.expireDutyWait q s).still = s.still := by
  simp only [State.expireDutyWait]
  repeat' split
  all_goals first | (simp; done) | (simp [foldl_still, apply_ite State.still]; done) | (simp; rfl) | rfl | (simp [State.still]; done)

@[simp] theorem State.handoverMinute_still (s : State) :
    (State.handoverMinute s).still = s.still := by
  simp only [State.handoverMinute]
  repeat' split
  all_goals first | (simp; done) | (simp [foldl_still, apply_ite State.still]; done) | (simp; rfl) | rfl | (simp [State.still]; done)

@[simp] theorem State.lanesMinute_still (s : State) :
    (State.lanesMinute s).still = s.still := by
  simp only [State.lanesMinute]
  repeat' split
  all_goals first | (simp; done) | (simp [foldl_still, apply_ite State.still]; done) | (simp; rfl) | rfl | (simp [State.still]; done)

@[simp] theorem State.carryAll_still (old : Nat) (s : State) :
    (State.carryAll old s).still = s.still := by
  simp only [State.carryAll]
  repeat' split
  all_goals first | (simp; done) | (simp [foldl_still, apply_ite State.still]; done) | (simp; rfl) | rfl | (simp [State.still]; done)

@[simp] theorem State.clearAsks_still (s : State) :
    (State.clearAsks s).still = s.still := by
  simp only [State.clearAsks]
  repeat' split
  all_goals first | (simp; done) | (simp [foldl_still, apply_ite State.still]; done) | (simp; rfl) | rfl | (simp [State.still]; done)

@[simp] theorem State.clearBindings_still (s : State) :
    (State.clearBindings s).still = s.still := by
  simp only [State.clearBindings]
  repeat' split
  all_goals first | (simp; done) | (simp [foldl_still, apply_ite State.still]; done) | (simp; rfl) | rfl | (simp [State.still]; done)

@[simp] theorem State.reconvertAll_still (s : State) :
    (State.reconvertAll s).still = s.still := by
  simp only [State.reconvertAll]
  repeat' split
  all_goals first | (simp; done) | (simp [foldl_still, apply_ite State.still]; done) | (simp; rfl) | rfl | (simp [State.still]; done)

end Sys2Proof.Machine
end

