-- ==== Sys2Proof/Laws/StillIO.lean ====
section
/-! SUPPORT. The still part of the node (Safety.lean) under the operations of the Field Interface, the Line Interface and the soft restart. -/

set_option linter.all false
set_option linter.unusedSimpArgs false
set_option linter.unusedTactic false
set_option linter.unreachableTactic false

namespace Sys2Proof.Machine

open Sys2Proof

@[simp] theorem State.letIn_still (t : TagFields) (s : State) :
    (State.letIn t s).still = s.still := by
  simp only [State.letIn]
  repeat' split
  all_goals first | (simp; done) | (simp [foldl_still, apply_ite State.still]; done) | (simp; rfl) | rfl | (simp [State.still]; done)

@[simp] theorem State.gateRead_still (t : TagFields) (s : State) :
    (State.gateRead t s).still = s.still := by
  simp only [State.gateRead]
  repeat' split
  all_goals first | (simp; done) | (simp [foldl_still, apply_ite State.still]; done) | (simp; rfl) | rfl | (simp [State.still]; done)

@[simp] theorem State.handRead_still (role : ReaderRole) (t : TagFields) (s : State) :
    (State.handRead role t s).still = s.still := by
  simp only [State.handRead]
  repeat' split
  all_goals first | (simp; done) | (simp [foldl_still, apply_ite State.still]; done) | (simp; rfl) | rfl | (simp [State.still]; done)

@[simp] theorem State.raiseChange_still (pin : Pin) (level : Bool) (s : State) :
    (State.raiseChange pin level s).still = s.still := by
  simp only [State.raiseChange]
  repeat' split
  all_goals first | (simp; done) | (simp [foldl_still, apply_ite State.still]; done) | (simp; rfl) | rfl | (simp [State.still]; done)

@[simp] theorem State.pulse_still (p : PointId) (s : State) :
    (State.pulse p s).still = s.still := by
  simp only [State.pulse]
  repeat' split
  all_goals first | (simp; done) | (simp [foldl_still, apply_ite State.still]; done) | (simp; rfl) | rfl | (simp [State.still]; done)

@[simp] theorem State.hearOwn_still (body : FrameBody) (s : State) :
    (State.hearOwn body s).still = s.still := by
  simp only [State.hearOwn]
  repeat' split
  all_goals first | (simp; done) | (simp [foldl_still, apply_ite State.still]; done) | (simp; rfl) | rfl | (simp [State.still]; done)

@[simp] theorem State.tellDiscard_still (body : FrameBody) (s : State) :
    (State.tellDiscard body s).still = s.still := by
  simp only [State.tellDiscard]
  repeat' split
  all_goals first | (simp; done) | (simp [foldl_still, apply_ite State.still]; done) | (simp; rfl) | rfl | (simp [State.still]; done)

@[simp] theorem State.retryReoffer_still (s : State) :
    (State.retryReoffer s).still = s.still := by
  simp only [State.retryReoffer]
  repeat' split
  all_goals first | (simp; done) | (simp [foldl_still, apply_ite State.still]; done) | (simp; rfl) | rfl | (simp [State.still]; done)

@[simp] theorem State.onOffer_still (payload : List Byte) (source : Nat) (s : State) :
    (State.onOffer payload source s).still = s.still := by
  simp only [State.onOffer]
  repeat' split
  all_goals first | (simp; done) | (simp [foldl_still, apply_ite State.still]; done) | (simp; rfl) | rfl | (simp [State.still]; done)

@[simp] theorem State.onBid_still (payload : List Byte) (source : Nat) (s : State) :
    (State.onBid payload source s).still = s.still := by
  simp only [State.onBid]
  repeat' split
  all_goals first | (simp; done) | (simp [foldl_still, apply_ite State.still]; done) | (simp; rfl) | rfl | (simp [State.still]; done)

@[simp] theorem State.onTake_still (payload : List Byte) (source : Nat) (s : State) :
    (State.onTake payload source s).still = s.still := by
  simp only [State.onTake]
  repeat' split
  all_goals first | (simp; done) | (simp [foldl_still, apply_ite State.still]; done) | (simp; rfl) | rfl | (simp [State.still]; done)

@[simp] theorem State.onRecordFrame_still (payload : List Byte) (s : State) :
    (State.onRecordFrame payload s).still = s.still := by
  simp only [State.onRecordFrame]
  repeat' split
  all_goals first | (simp; done) | (simp [foldl_still, apply_ite State.still]; done) | (simp; rfl) | rfl | (simp [State.still]; done)

@[simp] theorem State.restartHandover_still (s : State) :
    (State.restartHandover s).still = s.still := by
  have h : (State.removeQueueEntries (fun e => decide (e.state = .tentative))
      (s.removeLaneEntries (fun _ e => decide (e.state = .tentative)))).still = s.still := by simp
  exact h

@[simp] theorem State.bindMarks_still (s : State) :
    (State.bindMarks s).still = s.still := by
  simp only [State.bindMarks]
  repeat' split
  all_goals first | (simp; done) | (simp [foldl_still, apply_ite State.still]; done) | (simp; rfl) | rfl | (simp [State.still]; done)

@[simp] theorem State.freeFault_still (p : PointId) (s : State) :
    (State.freeFault p s).still = s.still := by
  simp only [State.freeFault]
  repeat' split
  all_goals first | (simp; done) | (simp [foldl_still, apply_ite State.still]; done) | (simp; rfl) | rfl | (simp [State.still]; done)

@[simp] theorem State.testFreed_still (before : State) (p : PointId) (s : State) :
    (State.testFreed before p s).still = s.still := by
  simp only [State.testFreed]
  repeat' split
  all_goals first | (simp; done) | (simp [foldl_still, apply_ite State.still]; done) | (simp; rfl) | rfl | (simp [State.still]; done)

@[simp] theorem State.onPoll_still (source : Nat) (s : State) :
    (State.onPoll source s).still = s.still := by
  simp only [State.onPoll]
  repeat' split
  all_goals first | (simp; done) | (simp [foldl_still, apply_ite State.still]; done) | (simp; rfl) | rfl | (simp [State.still]; done)

@[simp] theorem State.expireBus_still (bus : Nat) (s : State) :
    (State.expireBus bus s).still = s.still := by
  simp only [State.expireBus]
  repeat' split
  all_goals first | (simp; done) | (simp [foldl_still, apply_ite State.still]; done) | (simp; rfl) | rfl | (simp [State.still]; done)

@[simp] theorem State.expireRecordsOf_still (bus : Nat) (s : State) :
    (State.expireRecordsOf bus s).still = s.still := by
  simp only [State.expireRecordsOf]
  repeat' split
  all_goals first | (simp; done) | (simp [foldl_still, apply_ite State.still]; done) | (simp; rfl) | rfl | (simp [State.still]; done)

end Sys2Proof.Machine
end

