-- ==== Sys2Proof/Laws/LampsOps.lean ====
section
/-! SUPPORT. The lamps in step with the lanes (R136) under the operations of Machine/Ops.lean. -/

set_option linter.all false
set_option linter.unusedSimpArgs false
set_option linter.unusedTactic false
set_option linter.unreachableTactic false

namespace Sys2Proof.Machine

open Sys2Proof

/-- A fold of steps that keep the lamps in step keeps them so. -/
theorem foldl_lamps {α : Type} (f : State → α → State)
    (h : ∀ (t : State) x, t.field.lamps = lampsOf t.lanes → (f t x).field.lamps = lampsOf (f t x).lanes) (l : List α) :
    ∀ s : State, s.field.lamps = lampsOf s.lanes → (l.foldl f s).field.lamps = lampsOf (l.foldl f s).lanes := by
  induction l with
  | nil => intro s hs; exact hs
  | cons x xs ih => intro s hs; exact ih _ (h s x hs)

@[simp] theorem State.setPoint_lamps (p : PointId) (v : Point) (s : State) (hl : s.field.lamps = lampsOf s.lanes) :
    (State.setPoint p v s).field.lamps = lampsOf (State.setPoint p v s).lanes := by
  simp only [State.setPoint]
  repeat' split
  all_goals first | (simp (maxDischargeDepth := 20) -implicitDefEqProofs [hl]; done) | (simp (maxDischargeDepth := 20) +contextual -implicitDefEqProofs [foldl_lamps, hl]; done) | (apply foldl_lamps <;> intros <;> (try split) <;> simp (maxDischargeDepth := 20) -implicitDefEqProofs [*]; done)

@[simp] theorem State.modPoint_lamps (p : PointId) (f : Point → Point) (s : State) (hl : s.field.lamps = lampsOf
    s.lanes) :
    (State.modPoint p f s).field.lamps = lampsOf (State.modPoint p f s).lanes := by
  simp only [State.modPoint]
  repeat' split
  all_goals first | (simp (maxDischargeDepth := 20) -implicitDefEqProofs [hl]; done) | (simp (maxDischargeDepth := 20) +contextual -implicitDefEqProofs [foldl_lamps, hl]; done) | (apply foldl_lamps <;> intros <;> (try split) <;> simp (maxDischargeDepth := 20) -implicitDefEqProofs [*]; done)

@[simp] theorem State.setDetector_lamps (pin : Pin) (d : Detector) (s : State) (hl : s.field.lamps = lampsOf s.lanes)
    :
    (State.setDetector pin d s).field.lamps = lampsOf (State.setDetector pin d s).lanes := by
  simp only [State.setDetector]
  repeat' split
  all_goals first | (simp (maxDischargeDepth := 20) -implicitDefEqProofs [hl]; done) | (simp (maxDischargeDepth := 20) +contextual -implicitDefEqProofs [foldl_lamps, hl]; done) | (apply foldl_lamps <;> intros <;> (try split) <;> simp (maxDischargeDepth := 20) -implicitDefEqProofs [*]; done)

@[simp] theorem State.enqueue_lamps (body : FrameBody) (destination : Nat) (s : State) (hl : s.field.lamps = lampsOf
    s.lanes) :
    (State.enqueue body destination s).field.lamps = lampsOf (State.enqueue body destination s).lanes := by
  simp only [State.enqueue]
  repeat' split
  all_goals first | (simp (maxDischargeDepth := 20) -implicitDefEqProofs [hl]; done) | (simp (maxDischargeDepth := 20) +contextual -implicitDefEqProofs [foldl_lamps, hl]; done) | (apply foldl_lamps <;> intros <;> (try split) <;> simp (maxDischargeDepth := 20) -implicitDefEqProofs [*]; done)

@[simp] theorem State.setRetry_lamps (v : Bool) (s : State) (hl : s.field.lamps = lampsOf s.lanes) :
    (State.setRetry v s).field.lamps = lampsOf (State.setRetry v s).lanes := by
  simp only [State.setRetry]
  repeat' split
  all_goals first | (simp (maxDischargeDepth := 20) -implicitDefEqProofs [hl]; done) | (simp (maxDischargeDepth := 20) +contextual -implicitDefEqProofs [foldl_lamps, hl]; done) | (apply foldl_lamps <;> intros <;> (try split) <;> simp (maxDischargeDepth := 20) -implicitDefEqProofs [*]; done)

@[simp] theorem State.displace_lamps (s : State) (hl : s.field.lamps = lampsOf s.lanes) :
    (State.displace s).field.lamps = lampsOf (State.displace s).lanes := by
  simp only [State.displace]
  repeat' split
  all_goals first | (simp (maxDischargeDepth := 20) -implicitDefEqProofs [hl]; done) | (simp (maxDischargeDepth := 20) +contextual -implicitDefEqProofs [foldl_lamps, hl]; done) | (apply foldl_lamps <;> intros <;> (try split) <;> simp (maxDischargeDepth := 20) -implicitDefEqProofs [*]; done)

@[simp] theorem State.place_lamps (body : FrameBody) (destination : Nat) (s : State) (hl : s.field.lamps = lampsOf
    s.lanes) :
    (State.place body destination s).field.lamps = lampsOf (State.place body destination s).lanes := by
  simp only [State.place]
  repeat' split
  all_goals first | (simp (maxDischargeDepth := 20) -implicitDefEqProofs [hl]; done) | (simp (maxDischargeDepth := 20) +contextual -implicitDefEqProofs [foldl_lamps, hl]; done) | (apply foldl_lamps <;> intros <;> (try split) <;> simp (maxDischargeDepth := 20) -implicitDefEqProofs [*]; done)

@[simp] theorem State.send_lamps (body : FrameBody) (s : State) (hl : s.field.lamps = lampsOf s.lanes) :
    (State.send body s).field.lamps = lampsOf (State.send body s).lanes := by
  simp only [State.send]
  repeat' split
  all_goals first | (simp (maxDischargeDepth := 20) -implicitDefEqProofs [hl]; done) | (simp (maxDischargeDepth := 20) +contextual -implicitDefEqProofs [foldl_lamps, hl]; done) | (apply foldl_lamps <;> intros <;> (try split) <;> simp (maxDischargeDepth := 20) -implicitDefEqProofs [*]; done)

@[simp] theorem State.dropFrames_lamps (p : FrameBody → Bool) (s : State) (hl : s.field.lamps = lampsOf s.lanes) :
    (State.dropFrames p s).field.lamps = lampsOf (State.dropFrames p s).lanes := by
  simp only [State.dropFrames]
  repeat' split
  all_goals first | (simp (maxDischargeDepth := 20) -implicitDefEqProofs [hl]; done) | (simp (maxDischargeDepth := 20) +contextual -implicitDefEqProofs [foldl_lamps, hl]; done) | (apply foldl_lamps <;> intros <;> (try split) <;> simp (maxDischargeDepth := 20) -implicitDefEqProofs [*]; done)

@[simp] theorem State.placeHeadReport_lamps (s : State) (hl : s.field.lamps = lampsOf s.lanes) :
    (State.placeHeadReport s).field.lamps = lampsOf (State.placeHeadReport s).lanes := by
  simp only [State.placeHeadReport]
  repeat' split
  all_goals first | (simp (maxDischargeDepth := 20) -implicitDefEqProofs [hl]; done) | (simp (maxDischargeDepth := 20) +contextual -implicitDefEqProofs [foldl_lamps, hl]; done) | (apply foldl_lamps <;> intros <;> (try split) <;> simp (maxDischargeDepth := 20) -implicitDefEqProofs [*]; done)

@[simp] theorem State.setReports_lamps (l : List Report) (s : State) (hl : s.field.lamps = lampsOf s.lanes) :
    (State.setReports l s).field.lamps = lampsOf (State.setReports l s).lanes := by
  simp only [State.setReports]
  repeat' split
  all_goals first | (simp (maxDischargeDepth := 20) -implicitDefEqProofs [hl]; done) | (simp (maxDischargeDepth := 20) +contextual -implicitDefEqProofs [foldl_lamps, hl]; done) | (apply foldl_lamps <;> intros <;> (try split) <;> simp (maxDischargeDepth := 20) -implicitDefEqProofs [*]; done)

@[simp] theorem State.countReport_lamps (s : State) (hl : s.field.lamps = lampsOf s.lanes) :
    (State.countReport s).field.lamps = lampsOf (State.countReport s).lanes := by
  simp only [State.countReport]
  repeat' split
  all_goals first | (simp (maxDischargeDepth := 20) -implicitDefEqProofs [hl]; done) | (simp (maxDischargeDepth := 20) +contextual -implicitDefEqProofs [foldl_lamps, hl]; done) | (apply foldl_lamps <;> intros <;> (try split) <;> simp (maxDischargeDepth := 20) -implicitDefEqProofs [*]; done)

@[simp] theorem State.report_lamps (b : ReportBody) (s : State) (hl : s.field.lamps = lampsOf s.lanes) :
    (State.report b s).field.lamps = lampsOf (State.report b s).lanes := by
  simp only [State.report]
  repeat' split
  all_goals first | (simp (maxDischargeDepth := 20) -implicitDefEqProofs [hl]; done) | (simp (maxDischargeDepth := 20) +contextual -implicitDefEqProofs [foldl_lamps, hl]; done) | (apply foldl_lamps <;> intros <;> (try split) <;> simp (maxDischargeDepth := 20) -implicitDefEqProofs [*]; done)

@[simp] theorem State.popReport_lamps (s : State) (hl : s.field.lamps = lampsOf s.lanes) :
    (State.popReport s).field.lamps = lampsOf (State.popReport s).lanes := by
  simp only [State.popReport]
  repeat' split
  all_goals first | (simp (maxDischargeDepth := 20) -implicitDefEqProofs [hl]; done) | (simp (maxDischargeDepth := 20) +contextual -implicitDefEqProofs [foldl_lamps, hl]; done) | (apply foldl_lamps <;> intros <;> (try split) <;> simp (maxDischargeDepth := 20) -implicitDefEqProofs [*]; done)

@[simp] theorem State.startTransfer_lamps (s : State) (hl : s.field.lamps = lampsOf s.lanes) :
    (State.startTransfer s).field.lamps = lampsOf (State.startTransfer s).lanes := by
  simp only [State.startTransfer]
  repeat' split
  all_goals first | (simp (maxDischargeDepth := 20) -implicitDefEqProofs [hl]; done) | (simp (maxDischargeDepth := 20) +contextual -implicitDefEqProofs [foldl_lamps, hl]; done) | (apply foldl_lamps <;> intros <;> (try split) <;> simp (maxDischargeDepth := 20) -implicitDefEqProofs [*]; done)

@[simp] theorem State.setGuide_lamps (place : GuidePlace) (code : Guide) (bus : Option Nat) (s : State) (hl :
    s.field.lamps = lampsOf s.lanes) :
    (State.setGuide place code bus s).field.lamps = lampsOf (State.setGuide place code bus s).lanes := by
  simp only [State.setGuide]
  repeat' split
  all_goals first | (simp (maxDischargeDepth := 20) -implicitDefEqProofs [hl]; done) | (simp (maxDischargeDepth := 20) +contextual -implicitDefEqProofs [foldl_lamps, hl]; done) | (apply foldl_lamps <;> intros <;> (try split) <;> simp (maxDischargeDepth := 20) -implicitDefEqProofs [*]; done)

@[simp] theorem State.modLane_lamps (n : Nat) (f : Lane → Lane) (s : State) (hl : s.field.lamps = lampsOf s.lanes) :
    (State.modLane n f s).field.lamps = lampsOf (State.modLane n f s).lanes := by
  simp only [State.modLane]
  repeat' split
  all_goals first | (simp (maxDischargeDepth := 20) -implicitDefEqProofs [hl]; done) | (simp (maxDischargeDepth := 20) +contextual -implicitDefEqProofs [foldl_lamps, hl]; done) | (apply foldl_lamps <;> intros <;> (try split) <;> simp (maxDischargeDepth := 20) -implicitDefEqProofs [*]; done)

@[simp] theorem State.removeLaneEntries_lamps (p : Nat → LaneEntry → Bool) (s : State) (hl : s.field.lamps = lampsOf
    s.lanes) :
    (State.removeLaneEntries p s).field.lamps = lampsOf (State.removeLaneEntries p s).lanes := by
  simp only [State.removeLaneEntries]
  repeat' split
  all_goals first | (simp (maxDischargeDepth := 20) -implicitDefEqProofs [hl]; done) | (simp (maxDischargeDepth := 20) +contextual -implicitDefEqProofs [foldl_lamps, hl]; done) | (apply foldl_lamps <;> intros <;> (try split) <;> simp (maxDischargeDepth := 20) -implicitDefEqProofs [*]; done)

@[simp] theorem State.overfullTest_lamps (n b : Nat) (s : State) (hl : s.field.lamps = lampsOf s.lanes) :
    (State.overfullTest n b s).field.lamps = lampsOf (State.overfullTest n b s).lanes := by
  simp only [State.overfullTest]
  repeat' split
  all_goals first | (simp (maxDischargeDepth := 20) -implicitDefEqProofs [hl]; done) | (simp (maxDischargeDepth := 20) +contextual -implicitDefEqProofs [foldl_lamps, hl]; done) | (apply foldl_lamps <;> intros <;> (try split) <;> simp (maxDischargeDepth := 20) -implicitDefEqProofs [*]; done)

@[simp] theorem State.mapVisits_lamps (f : VisitRecord → VisitRecord) (s : State) (hl : s.field.lamps = lampsOf
    s.lanes) :
    (State.mapVisits f s).field.lamps = lampsOf (State.mapVisits f s).lanes := by
  simp only [State.mapVisits]
  repeat' split
  all_goals first | (simp (maxDischargeDepth := 20) -implicitDefEqProofs [hl]; done) | (simp (maxDischargeDepth := 20) +contextual -implicitDefEqProofs [foldl_lamps, hl]; done) | (apply foldl_lamps <;> intros <;> (try split) <;> simp (maxDischargeDepth := 20) -implicitDefEqProofs [*]; done)

@[simp] theorem State.modItem_lamps (k : ItemKey) (f : OutItem → OutItem) (s : State) (hl : s.field.lamps = lampsOf
    s.lanes) :
    (State.modItem k f s).field.lamps = lampsOf (State.modItem k f s).lanes := by
  simp only [State.modItem]
  repeat' split
  all_goals first | (simp (maxDischargeDepth := 20) -implicitDefEqProofs [hl]; done) | (simp (maxDischargeDepth := 20) +contextual -implicitDefEqProofs [foldl_lamps, hl]; done) | (apply foldl_lamps <;> intros <;> (try split) <;> simp (maxDischargeDepth := 20) -implicitDefEqProofs [*]; done)

@[simp] theorem State.removeItem_lamps (k : ItemKey) (s : State) (hl : s.field.lamps = lampsOf s.lanes) :
    (State.removeItem k s).field.lamps = lampsOf (State.removeItem k s).lanes := by
  simp only [State.removeItem]
  repeat' split
  all_goals first | (simp (maxDischargeDepth := 20) -implicitDefEqProofs [hl]; done) | (simp (maxDischargeDepth := 20) +contextual -implicitDefEqProofs [foldl_lamps, hl]; done) | (apply foldl_lamps <;> intros <;> (try split) <;> simp (maxDischargeDepth := 20) -implicitDefEqProofs [*]; done)

@[simp] theorem State.takeNumber_lamps (s : State) (hl : s.field.lamps = lampsOf s.lanes) :
    (State.takeNumber s).field.lamps = lampsOf (State.takeNumber s).lanes := by
  simp only [State.takeNumber]
  repeat' split
  all_goals first | (simp (maxDischargeDepth := 20) -implicitDefEqProofs [hl]; done) | (simp (maxDischargeDepth := 20) +contextual -implicitDefEqProofs [foldl_lamps, hl]; done) | (apply foldl_lamps <;> intros <;> (try split) <;> simp (maxDischargeDepth := 20) -implicitDefEqProofs [*]; done)

@[simp] theorem State.setOffer_lamps (o : Option OpenOffer) (s : State) (hl : s.field.lamps = lampsOf s.lanes) :
    (State.setOffer o s).field.lamps = lampsOf (State.setOffer o s).lanes := by
  simp only [State.setOffer]
  repeat' split
  all_goals first | (simp (maxDischargeDepth := 20) -implicitDefEqProofs [hl]; done) | (simp (maxDischargeDepth := 20) +contextual -implicitDefEqProofs [foldl_lamps, hl]; done) | (apply foldl_lamps <;> intros <;> (try split) <;> simp (maxDischargeDepth := 20) -implicitDefEqProofs [*]; done)

@[simp] theorem State.startOffer_lamps (it : OutItem) (s : State) (hl : s.field.lamps = lampsOf s.lanes) :
    (State.startOffer it s).field.lamps = lampsOf (State.startOffer it s).lanes := by
  simp only [State.startOffer]
  repeat' split
  all_goals first | (simp (maxDischargeDepth := 20) -implicitDefEqProofs [hl]; done) | (simp (maxDischargeDepth := 20) +contextual -implicitDefEqProofs [foldl_lamps, hl]; done) | (apply foldl_lamps <;> intros <;> (try split) <;> simp (maxDischargeDepth := 20) -implicitDefEqProofs [*]; done)

@[simp] theorem State.placeReoffer_lamps (o : OpenOffer) (s : State) (hl : s.field.lamps = lampsOf s.lanes) :
    (State.placeReoffer o s).field.lamps = lampsOf (State.placeReoffer o s).lanes := by
  simp only [State.placeReoffer]
  repeat' split
  all_goals first | (simp (maxDischargeDepth := 20) -implicitDefEqProofs [hl]; done) | (simp (maxDischargeDepth := 20) +contextual -implicitDefEqProofs [foldl_lamps, hl]; done) | (apply foldl_lamps <;> intros <;> (try split) <;> simp (maxDischargeDepth := 20) -implicitDefEqProofs [*]; done)

@[simp] theorem State.offerTest_lamps (s : State) (hl : s.field.lamps = lampsOf s.lanes) :
    (State.offerTest s).field.lamps = lampsOf (State.offerTest s).lanes := by
  simp only [State.offerTest]
  repeat' split
  all_goals first | (simp (maxDischargeDepth := 20) -implicitDefEqProofs [hl]; done) | (simp (maxDischargeDepth := 20) +contextual -implicitDefEqProofs [foldl_lamps, hl]; done) | (apply foldl_lamps <;> intros <;> (try split) <;> simp (maxDischargeDepth := 20) -implicitDefEqProofs [*]; done)

@[simp] theorem State.join_lamps (cargo : Cargo) (place : Option GuidePlace) (s : State) (hl : s.field.lamps = lampsOf
    s.lanes) :
    (State.join cargo place s).field.lamps = lampsOf (State.join cargo place s).lanes := by
  simp only [State.join]
  repeat' split
  all_goals first | (simp (maxDischargeDepth := 20) -implicitDefEqProofs [hl]; done) | (simp (maxDischargeDepth := 20) +contextual -implicitDefEqProofs [foldl_lamps, hl]; done) | (apply foldl_lamps <;> intros <;> (try split) <;> simp (maxDischargeDepth := 20) -implicitDefEqProofs [*]; done)

@[simp] theorem State.cancelOffer_lamps (k : ItemKey) (s : State) (hl : s.field.lamps = lampsOf s.lanes) :
    (State.cancelOffer k s).field.lamps = lampsOf (State.cancelOffer k s).lanes := by
  simp only [State.cancelOffer]
  repeat' split
  all_goals first | (simp (maxDischargeDepth := 20) -implicitDefEqProofs [hl]; done) | (simp (maxDischargeDepth := 20) +contextual -implicitDefEqProofs [foldl_lamps, hl]; done) | (apply foldl_lamps <;> intros <;> (try split) <;> simp (maxDischargeDepth := 20) -implicitDefEqProofs [*]; done)

@[simp] theorem State.withdrawSwaps_lamps (s : State) (hl : s.field.lamps = lampsOf s.lanes) :
    (State.withdrawSwaps s).field.lamps = lampsOf (State.withdrawSwaps s).lanes := by
  simp only [State.withdrawSwaps]
  repeat' split
  all_goals first | (simp (maxDischargeDepth := 20) -implicitDefEqProofs [hl]; done) | (simp (maxDischargeDepth := 20) +contextual -implicitDefEqProofs [foldl_lamps, hl]; done) | (apply foldl_lamps <;> intros <;> (try split) <;> simp (maxDischargeDepth := 20) -implicitDefEqProofs [*]; done)

@[simp] theorem State.callEntry_lamps (n : Nat) (e : LaneEntry) (s : State) (hl : s.field.lamps = lampsOf s.lanes) :
    (State.callEntry n e s).field.lamps = lampsOf (State.callEntry n e s).lanes := by
  simp only [State.callEntry]
  repeat' split
  all_goals first | (simp (maxDischargeDepth := 20) -implicitDefEqProofs [hl]; done) | (simp (maxDischargeDepth := 20) +contextual -implicitDefEqProofs [foldl_lamps, hl]; done) | (apply foldl_lamps <;> intros <;> (try split) <;> simp (maxDischargeDepth := 20) -implicitDefEqProofs [*]; done)

@[simp] theorem State.headTest_lamps (n : Nat) (s : State) (hl : s.field.lamps = lampsOf s.lanes) :
    (State.headTest n s).field.lamps = lampsOf (State.headTest n s).lanes := by
  simp only [State.headTest]
  repeat' split
  all_goals first | (simp (maxDischargeDepth := 20) -implicitDefEqProofs [hl]; done) | (simp (maxDischargeDepth := 20) +contextual -implicitDefEqProofs [foldl_lamps, hl]; done) | (apply foldl_lamps <;> intros <;> (try split) <;> simp (maxDischargeDepth := 20) -implicitDefEqProofs [*]; done)

@[simp] theorem State.removeBid_lamps (tag : Tag) (s : State) (hl : s.field.lamps = lampsOf s.lanes) :
    (State.removeBid tag s).field.lamps = lampsOf (State.removeBid tag s).lanes := by
  simp only [State.removeBid]
  repeat' split
  all_goals first | (simp (maxDischargeDepth := 20) -implicitDefEqProofs [hl]; done) | (simp (maxDischargeDepth := 20) +contextual -implicitDefEqProofs [foldl_lamps, hl]; done) | (apply foldl_lamps <;> intros <;> (try split) <;> simp (maxDischargeDepth := 20) -implicitDefEqProofs [*]; done)

@[simp] theorem State.removeQueueEntries_lamps (p : QueueEntry → Bool) (s : State) (hl : s.field.lamps = lampsOf
    s.lanes) :
    (State.removeQueueEntries p s).field.lamps = lampsOf (State.removeQueueEntries p s).lanes := by
  simp only [State.removeQueueEntries]
  repeat' split
  all_goals first | (simp (maxDischargeDepth := 20) -implicitDefEqProofs [hl]; done) | (simp (maxDischargeDepth := 20) +contextual -implicitDefEqProofs [foldl_lamps, hl]; done) | (apply foldl_lamps <;> intros <;> (try split) <;> simp (maxDischargeDepth := 20) -implicitDefEqProofs [*]; done)

@[simp] theorem State.removeTentative_lamps (tag : Tag) (s : State) (hl : s.field.lamps = lampsOf s.lanes) :
    (State.removeTentative tag s).field.lamps = lampsOf (State.removeTentative tag s).lanes := by
  simp only [State.removeTentative]
  repeat' split
  all_goals first | (simp (maxDischargeDepth := 20) -implicitDefEqProofs [hl]; done) | (simp (maxDischargeDepth := 20) +contextual -implicitDefEqProofs [foldl_lamps, hl]; done) | (apply foldl_lamps <;> intros <;> (try split) <;> simp (maxDischargeDepth := 20) -implicitDefEqProofs [*]; done)

@[simp] theorem State.removeExpected_lamps (tag : Tag) (s : State) (hl : s.field.lamps = lampsOf s.lanes) :
    (State.removeExpected tag s).field.lamps = lampsOf (State.removeExpected tag s).lanes := by
  simp only [State.removeExpected]
  repeat' split
  all_goals first | (simp (maxDischargeDepth := 20) -implicitDefEqProofs [hl]; done) | (simp (maxDischargeDepth := 20) +contextual -implicitDefEqProofs [foldl_lamps, hl]; done) | (apply foldl_lamps <;> intros <;> (try split) <;> simp (maxDischargeDepth := 20) -implicitDefEqProofs [*]; done)

@[simp] theorem State.dropBid_lamps (tag : Tag) (s : State) (hl : s.field.lamps = lampsOf s.lanes) :
    (State.dropBid tag s).field.lamps = lampsOf (State.dropBid tag s).lanes := by
  simp only [State.dropBid]
  repeat' split
  all_goals first | (simp (maxDischargeDepth := 20) -implicitDefEqProofs [hl]; done) | (simp (maxDischargeDepth := 20) +contextual -implicitDefEqProofs [foldl_lamps, hl]; done) | (apply foldl_lamps <;> intros <;> (try split) <;> simp (maxDischargeDepth := 20) -implicitDefEqProofs [*]; done)

@[simp] theorem State.dropClaim_lamps (tag : Tag) (s : State) (hl : s.field.lamps = lampsOf s.lanes) :
    (State.dropClaim tag s).field.lamps = lampsOf (State.dropClaim tag s).lanes := by
  simp only [State.dropClaim]
  repeat' split
  all_goals first | (simp (maxDischargeDepth := 20) -implicitDefEqProofs [hl]; done) | (simp (maxDischargeDepth := 20) +contextual -implicitDefEqProofs [foldl_lamps, hl]; done) | (apply foldl_lamps <;> intros <;> (try split) <;> simp (maxDischargeDepth := 20) -implicitDefEqProofs [*]; done)

@[simp] theorem State.dropBidsOf_lamps (b : Nat) (s : State) (hl : s.field.lamps = lampsOf s.lanes) :
    (State.dropBidsOf b s).field.lamps = lampsOf (State.dropBidsOf b s).lanes := by
  simp only [State.dropBidsOf]
  repeat' split
  all_goals first | (simp (maxDischargeDepth := 20) -implicitDefEqProofs [hl]; done) | (simp (maxDischargeDepth := 20) +contextual -implicitDefEqProofs [foldl_lamps, hl]; done) | (apply foldl_lamps <;> intros <;> (try split) <;> simp (maxDischargeDepth := 20) -implicitDefEqProofs [*]; done)

@[simp] theorem State.dropLostHeads_lamps (s : State) (hl : s.field.lamps = lampsOf s.lanes) :
    (State.dropLostHeads s).field.lamps = lampsOf (State.dropLostHeads s).lanes := by
  simp only [State.dropLostHeads]
  repeat' split
  all_goals first | (simp (maxDischargeDepth := 20) -implicitDefEqProofs [hl]; done) | (simp (maxDischargeDepth := 20) +contextual -implicitDefEqProofs [foldl_lamps, hl]; done) | (apply foldl_lamps <;> intros <;> (try split) <;> simp (maxDischargeDepth := 20) -implicitDefEqProofs [*]; done)

@[simp] theorem State.settle_lamps (before s : State) (hl : s.field.lamps = lampsOf s.lanes) :
    (State.settle before s).field.lamps = lampsOf (State.settle before s).lanes := by
  simp only [State.settle]
  apply foldl_lamps
  · intro t n ht
    split <;> simp [ht]
  · simp [hl]

@[simp] theorem State.reportAdjusted_lamps (bus run wall : Nat) (s : State) (hl : s.field.lamps = lampsOf s.lanes) :
    (State.reportAdjusted bus run wall s).field.lamps = lampsOf (State.reportAdjusted bus run wall s).lanes := by
  simp only [State.reportAdjusted]
  repeat' split
  all_goals first | (simp (maxDischargeDepth := 20) -implicitDefEqProofs [hl]; done) | (simp (maxDischargeDepth := 20) +contextual -implicitDefEqProofs [foldl_lamps, hl]; done) | (apply foldl_lamps <;> intros <;> (try split) <;> simp (maxDischargeDepth := 20) -implicitDefEqProofs [*]; done)

@[simp] theorem State.dropChangedHeads_lamps (before s : State) (hl : s.field.lamps = lampsOf s.lanes) :
    (State.dropChangedHeads before s).field.lamps = lampsOf (State.dropChangedHeads before s).lanes := by
  simp only [State.dropChangedHeads]
  repeat' split
  all_goals first | (simp (maxDischargeDepth := 20) -implicitDefEqProofs [hl]; done) | (simp (maxDischargeDepth := 20) +contextual -implicitDefEqProofs [foldl_lamps, hl]; done) | (apply foldl_lamps <;> intros <;> (try split) <;> simp (maxDischargeDepth := 20) -implicitDefEqProofs [*]; done)

@[simp] theorem State.bindBus_lamps (bus run wall : Nat) (pinned substituted : Bool) (s : State) (hl : s.field.lamps =
    lampsOf s.lanes) :
    (State.bindBus bus run wall pinned substituted s).field.lamps = lampsOf (State.bindBus bus run wall pinned substituted s).lanes := by
  simp only [State.bindBus]
  repeat' split
  all_goals first | (simp (maxDischargeDepth := 20) -implicitDefEqProofs [hl]; done) | (simp (maxDischargeDepth := 20) +contextual -implicitDefEqProofs [foldl_lamps, hl]; done) | (apply foldl_lamps <;> intros <;> (try split) <;> simp (maxDischargeDepth := 20) -implicitDefEqProofs [*]; done)

@[simp] theorem State.unbindBus_lamps (bus : Nat) (s : State) (hl : s.field.lamps = lampsOf s.lanes) :
    (State.unbindBus bus s).field.lamps = lampsOf (State.unbindBus bus s).lanes := by
  simp only [State.unbindBus]
  repeat' split
  all_goals first | (simp (maxDischargeDepth := 20) -implicitDefEqProofs [hl]; done) | (simp (maxDischargeDepth := 20) +contextual -implicitDefEqProofs [foldl_lamps, hl]; done) | (apply foldl_lamps <;> intros <;> (try split) <;> simp (maxDischargeDepth := 20) -implicitDefEqProofs [*]; done)

end Sys2Proof.Machine
end

