-- ==== Sys2Proof/Laws/LampsYard.lean ====
section
/-! SUPPORT. The lamps in step with the lanes (R136) under the operations of the Service Timeline, the points, strays and the lanes. -/

set_option linter.all false
set_option linter.unusedSimpArgs false
set_option linter.unusedTactic false
set_option linter.unreachableTactic false

namespace Sys2Proof.Machine

open Sys2Proof

@[simp] theorem State.setTable_lamps (p : PointId) (t : SlotTable) (s : State) (hl : s.field.lamps = lampsOf s.lanes)
    :
    (State.setTable p t s).field.lamps = lampsOf (State.setTable p t s).lanes := by
  simp only [State.setTable]
  repeat' split
  all_goals first | (simp (maxDischargeDepth := 20) -implicitDefEqProofs [hl]; done) | (simp (maxDischargeDepth := 20) +contextual -implicitDefEqProofs [foldl_lamps, hl]; done) | (apply foldl_lamps <;> intros <;> (try split) <;> simp (maxDischargeDepth := 20) -implicitDefEqProofs [*]; done)

@[simp] theorem State.acceptPlan_lamps (p : PointId) (f : PlanFields) (s : State) (hl : s.field.lamps = lampsOf
    s.lanes) :
    (State.acceptPlan p f s).field.lamps = lampsOf (State.acceptPlan p f s).lanes := by
  simp only [State.acceptPlan]
  repeat' split
  all_goals first | (simp (maxDischargeDepth := 20) -implicitDefEqProofs [hl]; done) | (simp (maxDischargeDepth := 20) +contextual -implicitDefEqProofs [foldl_lamps, hl]; done) | (apply foldl_lamps <;> intros <;> (try split) <;> simp (maxDischargeDepth := 20) -implicitDefEqProofs [*]; done)

@[simp] theorem State.onPlan_lamps (source : Nat) (payload : List Byte) (s : State) (hl : s.field.lamps = lampsOf
    s.lanes) :
    (State.onPlan source payload s).field.lamps = lampsOf (State.onPlan source payload s).lanes := by
  simp only [State.onPlan]
  repeat' split
  all_goals first | (simp (maxDischargeDepth := 20) -implicitDefEqProofs [hl]; done) | (simp (maxDischargeDepth := 20) +contextual -implicitDefEqProofs [foldl_lamps, hl]; done) | (apply foldl_lamps <;> intros <;> (try split) <;> simp (maxDischargeDepth := 20) -implicitDefEqProofs [*]; done)

@[simp] theorem State.applyPlans_lamps (k : Nat) (s : State) (hl : s.field.lamps = lampsOf s.lanes) :
    (State.applyPlans k s).field.lamps = lampsOf (State.applyPlans k s).lanes := by
  simp only [State.applyPlans]
  repeat' split
  all_goals first | (simp (maxDischargeDepth := 20) -implicitDefEqProofs [hl]; done) | (simp (maxDischargeDepth := 20) +contextual -implicitDefEqProofs [foldl_lamps, hl]; done) | (apply foldl_lamps <;> intros <;> (try split) <;> simp (maxDischargeDepth := 20) -implicitDefEqProofs [*]; done)

@[simp] theorem State.askJoin_lamps (p : PointId) (b : Nat) (s : State) (hl : s.field.lamps = lampsOf s.lanes) :
    (State.askJoin p b s).field.lamps = lampsOf (State.askJoin p b s).lanes := by
  simp only [State.askJoin]
  repeat' split
  all_goals first | (simp (maxDischargeDepth := 20) -implicitDefEqProofs [hl]; done) | (simp (maxDischargeDepth := 20) +contextual -implicitDefEqProofs [foldl_lamps, hl]; done) | (apply foldl_lamps <;> intros <;> (try split) <;> simp (maxDischargeDepth := 20) -implicitDefEqProofs [*]; done)

@[simp] theorem State.beginFuel_lamps (p : PointId) (e : QueueEntry) (st : SlotState) (s : State) (hl : s.field.lamps
    = lampsOf s.lanes) :
    (State.beginFuel p e st s).field.lamps = lampsOf (State.beginFuel p e st s).lanes := by
  simp only [State.beginFuel]
  repeat' split
  all_goals first | (simp (maxDischargeDepth := 20) -implicitDefEqProofs [hl]; done) | (simp (maxDischargeDepth := 20) +contextual -implicitDefEqProofs [foldl_lamps, hl]; done) | (apply foldl_lamps <;> intros <;> (try split) <;> simp (maxDischargeDepth := 20) -implicitDefEqProofs [*]; done)

@[simp] theorem State.beginWash_lamps (p : PointId) (e : QueueEntry) (st : SlotState) (s : State) (hl : s.field.lamps
    = lampsOf s.lanes) :
    (State.beginWash p e st s).field.lamps = lampsOf (State.beginWash p e st s).lanes := by
  simp only [State.beginWash]
  repeat' split
  all_goals first | (simp (maxDischargeDepth := 20) -implicitDefEqProofs [hl]; done) | (simp (maxDischargeDepth := 20) +contextual -implicitDefEqProofs [foldl_lamps, hl]; done) | (apply foldl_lamps <;> intros <;> (try split) <;> simp (maxDischargeDepth := 20) -implicitDefEqProofs [*]; done)

@[simp] theorem State.endFuel_lamps (p : PointId) (outcome : FuelOutcome) (left : Bool) (s : State) (hl :
    s.field.lamps = lampsOf s.lanes) :
    (State.endFuel p outcome left s).field.lamps = lampsOf (State.endFuel p outcome left s).lanes := by
  simp only [State.endFuel]
  repeat' split
  all_goals first | (simp (maxDischargeDepth := 20) -implicitDefEqProofs [hl]; done) | (simp (maxDischargeDepth := 20) +contextual -implicitDefEqProofs [foldl_lamps, hl]; done) | (apply foldl_lamps <;> intros <;> (try split) <;> simp (maxDischargeDepth := 20) -implicitDefEqProofs [*]; done)

@[simp] theorem State.leaveClearing_lamps (p : PointId) (s : State) (hl : s.field.lamps = lampsOf s.lanes) :
    (State.leaveClearing p s).field.lamps = lampsOf (State.leaveClearing p s).lanes := by
  simp only [State.leaveClearing]
  repeat' split
  all_goals first | (simp (maxDischargeDepth := 20) -implicitDefEqProofs [hl]; done) | (simp (maxDischargeDepth := 20) +contextual -implicitDefEqProofs [foldl_lamps, hl]; done) | (apply foldl_lamps <;> intros <;> (try split) <;> simp (maxDischargeDepth := 20) -implicitDefEqProofs [*]; done)

/-- The start tests keep the lamps in step. -/
@[simp] theorem State.startTests_lamps (n : Nat) (p : PointId) : ∀ s : State, s.field.lamps = lampsOf s.lanes →
    (State.startTests n p s).field.lamps = lampsOf (State.startTests n p s).lanes := by
  induction n with
  | zero => intro s hl; exact hl
  | succ n ih =>
    intro s hl
    simp only [State.startTests]
    repeat' split
    all_goals first | exact hl | (apply ih; simp (maxDischargeDepth := 20) -implicitDefEqProofs [hl]; done) | simp (maxDischargeDepth := 20) -implicitDefEqProofs [hl]

@[simp] theorem State.startTest_lamps (p : PointId) (s : State) (hl : s.field.lamps = lampsOf s.lanes) :
    (State.startTest p s).field.lamps = lampsOf (State.startTest p s).lanes := by
  simp only [State.startTest]
  repeat' split
  all_goals first | (simp (maxDischargeDepth := 20) -implicitDefEqProofs [hl]; done) | (simp (maxDischargeDepth := 20) +contextual -implicitDefEqProofs [foldl_lamps, hl]; done) | (apply foldl_lamps <;> intros <;> (try split) <;> simp (maxDischargeDepth := 20) -implicitDefEqProofs [*]; done)

@[simp] theorem State.clearingTest_lamps (p : PointId) (s : State) (hl : s.field.lamps = lampsOf s.lanes) :
    (State.clearingTest p s).field.lamps = lampsOf (State.clearingTest p s).lanes := by
  simp only [State.clearingTest]
  repeat' split
  all_goals first | (simp (maxDischargeDepth := 20) -implicitDefEqProofs [hl]; done) | (simp (maxDischargeDepth := 20) +contextual -implicitDefEqProofs [foldl_lamps, hl]; done) | (apply foldl_lamps <;> intros <;> (try split) <;> simp (maxDischargeDepth := 20) -implicitDefEqProofs [*]; done)

@[simp] theorem State.countLeft_lamps (p : PointId) (s : State) (hl : s.field.lamps = lampsOf s.lanes) :
    (State.countLeft p s).field.lamps = lampsOf (State.countLeft p s).lanes := by
  simp only [State.countLeft]
  repeat' split
  all_goals first | (simp (maxDischargeDepth := 20) -implicitDefEqProofs [hl]; done) | (simp (maxDischargeDepth := 20) +contextual -implicitDefEqProofs [foldl_lamps, hl]; done) | (apply foldl_lamps <;> intros <;> (try split) <;> simp (maxDischargeDepth := 20) -implicitDefEqProofs [*]; done)

@[simp] theorem State.takeFromQueue_lamps (p : PointId) (b : Nat) (s : State) (hl : s.field.lamps = lampsOf s.lanes) :
    (State.takeFromQueue p b s).field.lamps = lampsOf (State.takeFromQueue p b s).lanes := by
  simp only [State.takeFromQueue]
  repeat' split
  all_goals first | (simp (maxDischargeDepth := 20) -implicitDefEqProofs [hl]; done) | (simp (maxDischargeDepth := 20) +contextual -implicitDefEqProofs [foldl_lamps, hl]; done) | (apply foldl_lamps <;> intros <;> (try split) <;> simp (maxDischargeDepth := 20) -implicitDefEqProofs [*]; done)

@[simp] theorem State.expireQueue_lamps (p : PointId) (q : QueueEntry → Bool) (s : State) (hl : s.field.lamps =
    lampsOf s.lanes) :
    (State.expireQueue p q s).field.lamps = lampsOf (State.expireQueue p q s).lanes := by
  simp only [State.expireQueue]
  repeat' split
  all_goals first | (simp (maxDischargeDepth := 20) -implicitDefEqProofs [hl]; done) | (simp (maxDischargeDepth := 20) +contextual -implicitDefEqProofs [foldl_lamps, hl]; done) | (apply foldl_lamps <;> intros <;> (try split) <;> simp (maxDischargeDepth := 20) -implicitDefEqProofs [*]; done)

@[simp] theorem State.retryJoins_lamps (p : PointId) (s : State) (hl : s.field.lamps = lampsOf s.lanes) :
    (State.retryJoins p s).field.lamps = lampsOf (State.retryJoins p s).lanes := by
  simp only [State.retryJoins]
  repeat' split
  all_goals first | (simp (maxDischargeDepth := 20) -implicitDefEqProofs [hl]; done) | (simp (maxDischargeDepth := 20) +contextual -implicitDefEqProofs [foldl_lamps, hl]; done) | (apply foldl_lamps <;> intros <;> (try split) <;> simp (maxDischargeDepth := 20) -implicitDefEqProofs [*]; done)

@[simp] theorem State.testIfClosed_lamps (before s : State) (hl : s.field.lamps = lampsOf s.lanes) :
    (State.testIfClosed before s).field.lamps = lampsOf (State.testIfClosed before s).lanes := by
  simp only [State.testIfClosed]
  repeat' split
  all_goals first | (simp (maxDischargeDepth := 20) -implicitDefEqProofs [hl]; done) | (simp (maxDischargeDepth := 20) +contextual -implicitDefEqProofs [foldl_lamps, hl]; done) | (apply foldl_lamps <;> intros <;> (try split) <;> simp (maxDischargeDepth := 20) -implicitDefEqProofs [*]; done)

@[simp] theorem State.giveUpRecord_lamps (b : Nat) (here : Resource) (s : State) (hl : s.field.lamps = lampsOf
    s.lanes) :
    (State.giveUpRecord b here s).field.lamps = lampsOf (State.giveUpRecord b here s).lanes := by
  simp only [State.giveUpRecord]
  repeat' split
  all_goals first | (simp (maxDischargeDepth := 20) -implicitDefEqProofs [hl]; done) | (simp (maxDischargeDepth := 20) +contextual -implicitDefEqProofs [foldl_lamps, hl]; done) | (apply foldl_lamps <;> intros <;> (try split) <;> simp (maxDischargeDepth := 20) -implicitDefEqProofs [*]; done)

@[simp] theorem State.dropExpectedOf_lamps (b : Nat) (here : Option Resource) (s : State) (hl : s.field.lamps =
    lampsOf s.lanes) :
    (State.dropExpectedOf b here s).field.lamps = lampsOf (State.dropExpectedOf b here s).lanes := by
  simp only [State.dropExpectedOf]
  repeat' split
  all_goals first | (simp (maxDischargeDepth := 20) -implicitDefEqProofs [hl]; done) | (simp (maxDischargeDepth := 20) +contextual -implicitDefEqProofs [foldl_lamps, hl]; done) | (apply foldl_lamps <;> intros <;> (try split) <;> simp (maxDischargeDepth := 20) -implicitDefEqProofs [*]; done)

@[simp] theorem State.clearForStray_lamps (b : Nat) (here : Resource) (s : State) (hl : s.field.lamps = lampsOf
    s.lanes) :
    (State.clearForStray b here s).field.lamps = lampsOf (State.clearForStray b here s).lanes := by
  simp only [State.clearForStray]
  repeat' split
  all_goals first | (simp (maxDischargeDepth := 20) -implicitDefEqProofs [hl]; done) | (simp (maxDischargeDepth := 20) +contextual -implicitDefEqProofs [foldl_lamps, hl]; done) | (apply foldl_lamps <;> intros <;> (try split) <;> simp (maxDischargeDepth := 20) -implicitDefEqProofs [*]; done)

@[simp] theorem State.announceStray_lamps (b : Nat) (here : Resource) (awaited : Bool) (s : State) (hl : s.field.lamps
    = lampsOf s.lanes) :
    (State.announceStray b here awaited s).field.lamps = lampsOf (State.announceStray b here awaited s).lanes := by
  simp only [State.announceStray]
  repeat' split
  all_goals first | (simp (maxDischargeDepth := 20) -implicitDefEqProofs [hl]; done) | (simp (maxDischargeDepth := 20) +contextual -implicitDefEqProofs [foldl_lamps, hl]; done) | (apply foldl_lamps <;> intros <;> (try split) <;> simp (maxDischargeDepth := 20) -implicitDefEqProofs [*]; done)

@[simp] theorem State.answerStray_lamps (b source : Nat) (here : Resource) (s : State) (hl : s.field.lamps = lampsOf
    s.lanes) :
    (State.answerStray b source here s).field.lamps = lampsOf (State.answerStray b source here s).lanes := by
  simp only [State.answerStray]
  repeat' split
  all_goals first | (simp (maxDischargeDepth := 20) -implicitDefEqProofs [hl]; done) | (simp (maxDischargeDepth := 20) +contextual -implicitDefEqProofs [foldl_lamps, hl]; done) | (apply foldl_lamps <;> intros <;> (try split) <;> simp (maxDischargeDepth := 20) -implicitDefEqProofs [*]; done)

@[simp] theorem State.onStray_lamps (source b : Nat) (s : State) (hl : s.field.lamps = lampsOf s.lanes) :
    (State.onStray source b s).field.lamps = lampsOf (State.onStray source b s).lanes := by
  simp only [State.onStray]
  repeat' split
  all_goals first | (simp (maxDischargeDepth := 20) -implicitDefEqProofs [hl]; done) | (simp (maxDischargeDepth := 20) +contextual -implicitDefEqProofs [foldl_lamps, hl]; done) | (apply foldl_lamps <;> intros <;> (try split) <;> simp (maxDischargeDepth := 20) -implicitDefEqProofs [*]; done)

@[simp] theorem State.classTest_lamps (n b old : Nat) (s : State) (hl : s.field.lamps = lampsOf s.lanes) :
    (State.classTest n b old s).field.lamps = lampsOf (State.classTest n b old s).lanes := by
  simp only [State.classTest]
  repeat' split
  all_goals first | (simp (maxDischargeDepth := 20) -implicitDefEqProofs [hl]; done) | (simp (maxDischargeDepth := 20) +contextual -implicitDefEqProofs [foldl_lamps, hl]; done) | (apply foldl_lamps <;> intros <;> (try split) <;> simp (maxDischargeDepth := 20) -implicitDefEqProofs [*]; done)

@[simp] theorem State.parkExpected_lamps (n : Nat) (e : LaneEntry) (s : State) (hl : s.field.lamps = lampsOf s.lanes)
    :
    (State.parkExpected n e s).field.lamps = lampsOf (State.parkExpected n e s).lanes := by
  simp only [State.parkExpected]
  repeat' split
  all_goals first | (simp (maxDischargeDepth := 20) -implicitDefEqProofs [hl]; done) | (simp (maxDischargeDepth := 20) +contextual -implicitDefEqProofs [foldl_lamps, hl]; done) | (apply foldl_lamps <;> intros <;> (try split) <;> simp (maxDischargeDepth := 20) -implicitDefEqProofs [*]; done)

@[simp] theorem State.parkClaimed_lamps (n : Nat) (t : TagFields) (e : LaneEntry) (s : State) (hl : s.field.lamps = lampsOf s.lanes) :
    (State.parkClaimed n t e s).field.lamps = lampsOf (State.parkClaimed n t e s).lanes := by
  simp only [State.parkClaimed]
  repeat' split
  all_goals first | (simp (maxDischargeDepth := 20) -implicitDefEqProofs [hl]; done) | (simp (maxDischargeDepth := 20) +contextual -implicitDefEqProofs [foldl_lamps, hl]; done) | (apply foldl_lamps <;> intros <;> (try split) <;> simp (maxDischargeDepth := 20) -implicitDefEqProofs [*]; done)

@[simp] theorem State.makeLanePlace_lamps (n : Nat) (s : State) (hl : s.field.lamps = lampsOf s.lanes) :
    (State.makeLanePlace n s).field.lamps = lampsOf (State.makeLanePlace n s).lanes := by
  simp only [State.makeLanePlace]
  repeat' split
  all_goals first | (simp (maxDischargeDepth := 20) -implicitDefEqProofs [hl]; done) | (simp (maxDischargeDepth := 20) +contextual -implicitDefEqProofs [foldl_lamps, hl]; done) | (apply foldl_lamps <;> intros <;> (try split) <;> simp (maxDischargeDepth := 20) -implicitDefEqProofs [*]; done)

@[simp] theorem State.strayIntoLane_lamps (n : Nat) (t : TagFields) (s : State) (hl : s.field.lamps = lampsOf s.lanes)
    :
    (State.strayIntoLane n t s).field.lamps = lampsOf (State.strayIntoLane n t s).lanes := by
  simp only [State.strayIntoLane]
  repeat' split
  all_goals first | (simp (maxDischargeDepth := 20) -implicitDefEqProofs [hl]; done) | (simp (maxDischargeDepth := 20) +contextual -implicitDefEqProofs [foldl_lamps, hl]; done) | (apply foldl_lamps <;> intros <;> (try split) <;> simp (maxDischargeDepth := 20) -implicitDefEqProofs [*]; done)

@[simp] theorem State.laneEntryRead_lamps (n : Nat) (t : TagFields) (s : State) (hl : s.field.lamps = lampsOf s.lanes)
    :
    (State.laneEntryRead n t s).field.lamps = lampsOf (State.laneEntryRead n t s).lanes := by
  simp only [State.laneEntryRead]
  repeat' split
  all_goals first | (simp (maxDischargeDepth := 20) -implicitDefEqProofs [hl]; done) | (simp (maxDischargeDepth := 20) +contextual -implicitDefEqProofs [foldl_lamps, hl]; done) | (apply foldl_lamps <;> intros <;> (try split) <;> simp (maxDischargeDepth := 20) -implicitDefEqProofs [*]; done)

@[simp] theorem State.sendGone_lamps (n : Nat) (e : LaneEntry) (s : State) (hl : s.field.lamps = lampsOf s.lanes) :
    (State.sendGone n e s).field.lamps = lampsOf (State.sendGone n e s).lanes := by
  simp only [State.sendGone]
  repeat' split
  all_goals first | (simp (maxDischargeDepth := 20) -implicitDefEqProofs [hl]; done) | (simp (maxDischargeDepth := 20) +contextual -implicitDefEqProofs [foldl_lamps, hl]; done) | (apply foldl_lamps <;> intros <;> (try split) <;> simp (maxDischargeDepth := 20) -implicitDefEqProofs [*]; done)

@[simp] theorem State.laneExitRead_lamps (n : Nat) (t : TagFields) (s : State) (hl : s.field.lamps = lampsOf s.lanes)
    :
    (State.laneExitRead n t s).field.lamps = lampsOf (State.laneExitRead n t s).lanes := by
  simp only [State.laneExitRead]
  repeat' split
  all_goals first | (simp (maxDischargeDepth := 20) -implicitDefEqProofs [hl]; done) | (simp (maxDischargeDepth := 20) +contextual -implicitDefEqProofs [foldl_lamps, hl]; done) | (apply foldl_lamps <;> intros <;> (try split) <;> simp (maxDischargeDepth := 20) -implicitDefEqProofs [*]; done)

@[simp] theorem State.laneClear_lamps (n : Nat) (s : State) (hl : s.field.lamps = lampsOf s.lanes) :
    (State.laneClear n s).field.lamps = lampsOf (State.laneClear n s).lanes := by
  simp only [State.laneClear]
  repeat' split
  · exact hl
  · simp (maxDischargeDepth := 20) -implicitDefEqProofs [hl]
  · apply State.settle_lamps
    apply foldl_lamps
    · intro t e ht
      split <;> simp (maxDischargeDepth := 20) -implicitDefEqProofs [ht]
    · simp (maxDischargeDepth := 20) -implicitDefEqProofs [hl]

@[simp] theorem State.expireLanes_lamps (q : LaneEntry → Bool) (s : State) (hl : s.field.lamps = lampsOf s.lanes) :
    (State.expireLanes q s).field.lamps = lampsOf (State.expireLanes q s).lanes := by
  simp only [State.expireLanes]
  repeat' split
  all_goals first | (simp (maxDischargeDepth := 20) -implicitDefEqProofs [hl]; done) | (simp (maxDischargeDepth := 20) +contextual -implicitDefEqProofs [foldl_lamps, hl]; done) | (apply foldl_lamps <;> intros <;> (try split) <;> simp (maxDischargeDepth := 20) -implicitDefEqProofs [*]; done)

@[simp] theorem State.closeLane_lamps (n : Nat) (s : State) (hl : s.field.lamps = lampsOf s.lanes) :
    (State.closeLane n s).field.lamps = lampsOf (State.closeLane n s).lanes := by
  simp only [State.closeLane]
  repeat' split
  all_goals first | (simp (maxDischargeDepth := 20) -implicitDefEqProofs [hl]; done) | (simp (maxDischargeDepth := 20) +contextual -implicitDefEqProofs [foldl_lamps, hl]; done) | (apply foldl_lamps <;> intros <;> (try split) <;> simp (maxDischargeDepth := 20) -implicitDefEqProofs [*]; done)

@[simp] theorem State.openLane_lamps (n : Nat) (s : State) (hl : s.field.lamps = lampsOf s.lanes) :
    (State.openLane n s).field.lamps = lampsOf (State.openLane n s).lanes := by
  simp only [State.openLane]
  repeat' split
  all_goals first | (simp (maxDischargeDepth := 20) -implicitDefEqProofs [hl]; done) | (simp (maxDischargeDepth := 20) +contextual -implicitDefEqProofs [foldl_lamps, hl]; done) | (apply foldl_lamps <;> intros <;> (try split) <;> simp (maxDischargeDepth := 20) -implicitDefEqProofs [*]; done)

@[simp] theorem State.setClosed_lamps (v : Bool) (p : PointId) (s : State) (hl : s.field.lamps = lampsOf s.lanes) :
    (State.setClosed v p s).field.lamps = lampsOf (State.setClosed v p s).lanes := by
  simp only [State.setClosed]
  repeat' split
  all_goals first | (simp (maxDischargeDepth := 20) -implicitDefEqProofs [hl]; done) | (simp (maxDischargeDepth := 20) +contextual -implicitDefEqProofs [foldl_lamps, hl]; done) | (apply foldl_lamps <;> intros <;> (try split) <;> simp (maxDischargeDepth := 20) -implicitDefEqProofs [*]; done)

@[simp] theorem State.clearPoint_lamps (p : PointId) (s : State) (hl : s.field.lamps = lampsOf s.lanes) :
    (State.clearPoint p s).field.lamps = lampsOf (State.clearPoint p s).lanes := by
  simp only [State.clearPoint]
  repeat' split
  all_goals first | (simp (maxDischargeDepth := 20) -implicitDefEqProofs [hl]; done) | (simp (maxDischargeDepth := 20) +contextual -implicitDefEqProofs [foldl_lamps, hl]; done) | (apply foldl_lamps <;> intros <;> (try split) <;> simp (maxDischargeDepth := 20) -implicitDefEqProofs [*]; done)

end Sys2Proof.Machine
end

