-- ==== Sys2Proof/Laws/LampsService.lean ====
section
/-! SUPPORT. The lamps in step with the lanes (R136) under the operations of the service points and the Pull-Out Controller. -/

set_option linter.all false
set_option linter.unusedSimpArgs false
set_option linter.unusedTactic false
set_option linter.unreachableTactic false

namespace Sys2Proof.Machine

open Sys2Proof

@[simp] theorem State.waitExpected_lamps (p : PointId) (e : QueueEntry) (s : State) (hl : s.field.lamps = lampsOf
    s.lanes) :
    (State.waitExpected p e s).field.lamps = lampsOf (State.waitExpected p e s).lanes := by
  simp only [State.waitExpected]
  repeat' split
  all_goals first | (simp (maxDischargeDepth := 20) -implicitDefEqProofs [hl]; done) | (simp (maxDischargeDepth := 20) +contextual -implicitDefEqProofs [foldl_lamps, hl]; done) | (apply foldl_lamps <;> intros <;> (try split) <;> simp (maxDischargeDepth := 20) -implicitDefEqProofs [*]; done)

@[simp] theorem State.waitClaimed_lamps (p : PointId) (t : TagFields) (e : QueueEntry) (s : State) (hl : s.field.lamps = lampsOf
    s.lanes) :
    (State.waitClaimed p t e s).field.lamps = lampsOf (State.waitClaimed p t e s).lanes := by
  simp only [State.waitClaimed]
  repeat' split
  all_goals first | (simp (maxDischargeDepth := 20) -implicitDefEqProofs [hl]; done) | (simp (maxDischargeDepth := 20) +contextual -implicitDefEqProofs [foldl_lamps, hl]; done) | (apply foldl_lamps <;> intros <;> (try split) <;> simp (maxDischargeDepth := 20) -implicitDefEqProofs [*]; done)

@[simp] theorem State.waitPending_lamps (p : PointId) (t : TagFields) (e : QueueEntry) (s : State) (hl : s.field.lamps = lampsOf
    s.lanes) :
    (State.waitPending p t e s).field.lamps = lampsOf (State.waitPending p t e s).lanes := by
  simp only [State.waitPending]
  repeat' split
  all_goals first | (simp (maxDischargeDepth := 20) -implicitDefEqProofs [hl]; done) | (simp (maxDischargeDepth := 20) +contextual -implicitDefEqProofs [foldl_lamps, hl]; done) | (apply foldl_lamps <;> intros <;> (try split) <;> simp (maxDischargeDepth := 20) -implicitDefEqProofs [*]; done)

@[simp] theorem State.makeQueuePlace_lamps (p : PointId) (s : State) (hl : s.field.lamps = lampsOf s.lanes) :
    (State.makeQueuePlace p s).field.lamps = lampsOf (State.makeQueuePlace p s).lanes := by
  simp only [State.makeQueuePlace]
  repeat' split
  all_goals first | (simp (maxDischargeDepth := 20) -implicitDefEqProofs [hl]; done) | (simp (maxDischargeDepth := 20) +contextual -implicitDefEqProofs [foldl_lamps, hl]; done) | (apply foldl_lamps <;> intros <;> (try split) <;> simp (maxDischargeDepth := 20) -implicitDefEqProofs [*]; done)

@[simp] theorem State.strayIntoQueue_lamps (p : PointId) (t : TagFields) (s : State) (hl : s.field.lamps = lampsOf
    s.lanes) :
    (State.strayIntoQueue p t s).field.lamps = lampsOf (State.strayIntoQueue p t s).lanes := by
  simp only [State.strayIntoQueue]
  repeat' split
  all_goals first | (simp (maxDischargeDepth := 20) -implicitDefEqProofs [hl]; done) | (simp (maxDischargeDepth := 20) +contextual -implicitDefEqProofs [foldl_lamps, hl]; done) | (apply foldl_lamps <;> intros <;> (try split) <;> simp (maxDischargeDepth := 20) -implicitDefEqProofs [*]; done)

@[simp] theorem State.finishFaulted_lamps (p : PointId) (b : Nat) (f : VisitRecord → VisitRecord) (s : State)
    (hl : s.field.lamps = lampsOf s.lanes) :
    (State.finishFaulted p b f s).field.lamps = lampsOf (State.finishFaulted p b f s).lanes := by
  simp only [State.finishFaulted]
  repeat' split
  all_goals first | (simp (maxDischargeDepth := 20) -implicitDefEqProofs [hl]; done) | (simp (maxDischargeDepth := 20) +contextual -implicitDefEqProofs [foldl_lamps, hl]; done) | (apply foldl_lamps <;> intros <;> (try split) <;> simp (maxDischargeDepth := 20) -implicitDefEqProofs [*]; done)

@[simp] theorem State.passOn_lamps (p : PointId) (b : Nat) (s : State) (hl : s.field.lamps = lampsOf s.lanes) :
    (State.passOn p b s).field.lamps = lampsOf (State.passOn p b s).lanes := by
  simp only [State.passOn]
  repeat' split
  all_goals first | (simp (maxDischargeDepth := 20) -implicitDefEqProofs [hl]; done) | (simp (maxDischargeDepth := 20) +contextual -implicitDefEqProofs [foldl_lamps, hl]; done) | (apply foldl_lamps <;> intros <;> (try split) <;> simp (maxDischargeDepth := 20) -implicitDefEqProofs [*]; done)

@[simp] theorem State.afterEntry_lamps (p : PointId) (b : Nat) (s : State) (hl : s.field.lamps = lampsOf s.lanes) :
    (State.afterEntry p b s).field.lamps = lampsOf (State.afterEntry p b s).lanes := by
  simp only [State.afterEntry]
  repeat' split
  all_goals first | (simp (maxDischargeDepth := 20) -implicitDefEqProofs [hl]; done) | (simp (maxDischargeDepth := 20) +contextual -implicitDefEqProofs [foldl_lamps, hl]; done) | (apply foldl_lamps <;> intros <;> (try split) <;> simp (maxDischargeDepth := 20) -implicitDefEqProofs [*]; done)

@[simp] theorem State.pointEntryRead_lamps (p : PointId) (t : TagFields) (s : State) (hl : s.field.lamps = lampsOf
    s.lanes) :
    (State.pointEntryRead p t s).field.lamps = lampsOf (State.pointEntryRead p t s).lanes := by
  simp only [State.pointEntryRead]
  repeat' split
  all_goals first | (simp (maxDischargeDepth := 20) -implicitDefEqProofs [hl]; done) | (simp (maxDischargeDepth := 20) +contextual -implicitDefEqProofs [foldl_lamps, hl]; done) | (apply foldl_lamps <;> intros <;> (try split) <;> simp (maxDischargeDepth := 20) -implicitDefEqProofs [*]; done)

@[simp] theorem State.endFuelTested_lamps (p : PointId) (outcome : FuelOutcome) (left : Bool) (s : State) (hl :
    s.field.lamps = lampsOf s.lanes) :
    (State.endFuelTested p outcome left s).field.lamps = lampsOf (State.endFuelTested p outcome left s).lanes := by
  simp only [State.endFuelTested]
  repeat' split
  all_goals first | (simp (maxDischargeDepth := 20) -implicitDefEqProofs [hl]; done) | (simp (maxDischargeDepth := 20) +contextual -implicitDefEqProofs [foldl_lamps, hl]; done) | (apply foldl_lamps <;> intros <;> (try split) <;> simp (maxDischargeDepth := 20) -implicitDefEqProofs [*]; done)

@[simp] theorem State.onPulse_lamps (p : PointId) (s : State) (hl : s.field.lamps = lampsOf s.lanes) :
    (State.onPulse p s).field.lamps = lampsOf (State.onPulse p s).lanes := by
  simp only [State.onPulse]
  repeat' split
  all_goals first | (simp (maxDischargeDepth := 20) -implicitDefEqProofs [hl]; done) | (simp (maxDischargeDepth := 20) +contextual -implicitDefEqProofs [foldl_lamps, hl]; done) | (apply foldl_lamps <;> intros <;> (try split) <;> simp (maxDischargeDepth := 20) -implicitDefEqProofs [*]; done)

@[simp] theorem State.nozzleLifted_lamps (p : PointId) (s : State) (hl : s.field.lamps = lampsOf s.lanes) :
    (State.nozzleLifted p s).field.lamps = lampsOf (State.nozzleLifted p s).lanes := by
  simp only [State.nozzleLifted]
  repeat' split
  all_goals first | (simp (maxDischargeDepth := 20) -implicitDefEqProofs [hl]; done) | (simp (maxDischargeDepth := 20) +contextual -implicitDefEqProofs [foldl_lamps, hl]; done) | (apply foldl_lamps <;> intros <;> (try split) <;> simp (maxDischargeDepth := 20) -implicitDefEqProofs [*]; done)

@[simp] theorem State.nozzleHung_lamps (p : PointId) (s : State) (hl : s.field.lamps = lampsOf s.lanes) :
    (State.nozzleHung p s).field.lamps = lampsOf (State.nozzleHung p s).lanes := by
  simp only [State.nozzleHung]
  repeat' split
  all_goals first | (simp (maxDischargeDepth := 20) -implicitDefEqProofs [hl]; done) | (simp (maxDischargeDepth := 20) +contextual -implicitDefEqProofs [foldl_lamps, hl]; done) | (apply foldl_lamps <;> intros <;> (try split) <;> simp (maxDischargeDepth := 20) -implicitDefEqProofs [*]; done)

@[simp] theorem State.nozzleTimeout_lamps (p : PointId) (s : State) (hl : s.field.lamps = lampsOf s.lanes) :
    (State.nozzleTimeout p s).field.lamps = lampsOf (State.nozzleTimeout p s).lanes := by
  simp only [State.nozzleTimeout]
  repeat' split
  all_goals first | (simp (maxDischargeDepth := 20) -implicitDefEqProofs [hl]; done) | (simp (maxDischargeDepth := 20) +contextual -implicitDefEqProofs [foldl_lamps, hl]; done) | (apply foldl_lamps <;> intros <;> (try split) <;> simp (maxDischargeDepth := 20) -implicitDefEqProofs [*]; done)

@[simp] theorem State.driveOff_lamps (p : PointId) (s : State) (hl : s.field.lamps = lampsOf s.lanes) :
    (State.driveOff p s).field.lamps = lampsOf (State.driveOff p s).lanes := by
  simp only [State.driveOff]
  repeat' split
  all_goals first | (simp (maxDischargeDepth := 20) -implicitDefEqProofs [hl]; done) | (simp (maxDischargeDepth := 20) +contextual -implicitDefEqProofs [foldl_lamps, hl]; done) | (apply foldl_lamps <;> intros <;> (try split) <;> simp (maxDischargeDepth := 20) -implicitDefEqProofs [*]; done)

@[simp] theorem State.leaveUnfuelled_lamps (p : PointId) (b : Nat) (s : State) (hl : s.field.lamps = lampsOf s.lanes)
    :
    (State.leaveUnfuelled p b s).field.lamps = lampsOf (State.leaveUnfuelled p b s).lanes := by
  simp only [State.leaveUnfuelled]
  repeat' split
  all_goals first | (simp (maxDischargeDepth := 20) -implicitDefEqProofs [hl]; done) | (simp (maxDischargeDepth := 20) +contextual -implicitDefEqProofs [foldl_lamps, hl]; done) | (apply foldl_lamps <;> intros <;> (try split) <;> simp (maxDischargeDepth := 20) -implicitDefEqProofs [*]; done)

@[simp] theorem State.countExit_lamps (p : PointId) (b : Nat) (s : State) (hl : s.field.lamps = lampsOf s.lanes) :
    (State.countExit p b s).field.lamps = lampsOf (State.countExit p b s).lanes := by
  simp only [State.countExit]
  repeat' split
  all_goals first | (simp (maxDischargeDepth := 20) -implicitDefEqProofs [hl]; done) | (simp (maxDischargeDepth := 20) +contextual -implicitDefEqProofs [foldl_lamps, hl]; done) | (apply foldl_lamps <;> intros <;> (try split) <;> simp (maxDischargeDepth := 20) -implicitDefEqProofs [*]; done)

@[simp] theorem State.fuelExitRead_lamps (p : PointId) (t : TagFields) (s : State) (hl : s.field.lamps = lampsOf s.lanes) :
    (State.fuelExitRead p t s).field.lamps = lampsOf (State.fuelExitRead p t s).lanes := by
  simp only [State.fuelExitRead]
  repeat' split
  all_goals first | (simp (maxDischargeDepth := 20) -implicitDefEqProofs [hl]; done) | (simp (maxDischargeDepth := 20) +contextual -implicitDefEqProofs [foldl_lamps, hl]; done) | (apply foldl_lamps <;> intros <;> (try split) <;> simp (maxDischargeDepth := 20) -implicitDefEqProofs [*]; done)

@[simp] theorem State.measureFlow_lamps (p : PointId) (s : State) (hl : s.field.lamps = lampsOf s.lanes) :
    (State.measureFlow p s).field.lamps = lampsOf (State.measureFlow p s).lanes := by
  simp only [State.measureFlow]
  repeat' split
  all_goals first | (simp (maxDischargeDepth := 20) -implicitDefEqProofs [hl]; done) | (simp (maxDischargeDepth := 20) +contextual -implicitDefEqProofs [foldl_lamps, hl]; done) | (apply foldl_lamps <;> intros <;> (try split) <;> simp (maxDischargeDepth := 20) -implicitDefEqProofs [*]; done)

@[simp] theorem State.flowFault_lamps (p : PointId) (s : State) (hl : s.field.lamps = lampsOf s.lanes) :
    (State.flowFault p s).field.lamps = lampsOf (State.flowFault p s).lanes := by
  simp only [State.flowFault]
  repeat' split
  all_goals first | (simp (maxDischargeDepth := 20) -implicitDefEqProofs [hl]; done) | (simp (maxDischargeDepth := 20) +contextual -implicitDefEqProofs [foldl_lamps, hl]; done) | (apply foldl_lamps <;> intros <;> (try split) <;> simp (maxDischargeDepth := 20) -implicitDefEqProofs [*]; done)

@[simp] theorem State.beginInterval_lamps (p : PointId) (s : State) (hl : s.field.lamps = lampsOf s.lanes) :
    (State.beginInterval p s).field.lamps = lampsOf (State.beginInterval p s).lanes := by
  simp only [State.beginInterval]
  repeat' split
  all_goals first | (simp (maxDischargeDepth := 20) -implicitDefEqProofs [hl]; done) | (simp (maxDischargeDepth := 20) +contextual -implicitDefEqProofs [foldl_lamps, hl]; done) | (apply foldl_lamps <;> intros <;> (try split) <;> simp (maxDischargeDepth := 20) -implicitDefEqProofs [*]; done)

@[simp] theorem State.finishWash_lamps (p : PointId) (st : PointState) (outcome : VisitRecord → WashOutcome) (s :
    State) (hl : s.field.lamps = lampsOf s.lanes) :
    (State.finishWash p st outcome s).field.lamps = lampsOf (State.finishWash p st outcome s).lanes := by
  simp only [State.finishWash]
  repeat' split
  all_goals first | (simp (maxDischargeDepth := 20) -implicitDefEqProofs [hl]; done) | (simp (maxDischargeDepth := 20) +contextual -implicitDefEqProofs [foldl_lamps, hl]; done) | (apply foldl_lamps <;> intros <;> (try split) <;> simp (maxDischargeDepth := 20) -implicitDefEqProofs [*]; done)

@[simp] theorem State.washDone_lamps (p : PointId) (s : State) (hl : s.field.lamps = lampsOf s.lanes) :
    (State.washDone p s).field.lamps = lampsOf (State.washDone p s).lanes := by
  simp only [State.washDone]
  repeat' split
  all_goals first | (simp (maxDischargeDepth := 20) -implicitDefEqProofs [hl]; done) | (simp (maxDischargeDepth := 20) +contextual -implicitDefEqProofs [foldl_lamps, hl]; done) | (apply foldl_lamps <;> intros <;> (try split) <;> simp (maxDischargeDepth := 20) -implicitDefEqProofs [*]; done)

@[simp] theorem State.faultEntry_lamps (p : PointId) (s : State) (e : QueueEntry) (hl : s.field.lamps = lampsOf
    s.lanes) :
    (State.faultEntry p s e).field.lamps = lampsOf (State.faultEntry p s e).lanes := by
  simp only [State.faultEntry]
  repeat' split
  all_goals first | (simp (maxDischargeDepth := 20) -implicitDefEqProofs [hl]; done) | (simp (maxDischargeDepth := 20) +contextual -implicitDefEqProofs [foldl_lamps, hl]; done) | (apply foldl_lamps <;> intros <;> (try split) <;> simp (maxDischargeDepth := 20) -implicitDefEqProofs [*]; done)

@[simp] theorem State.emptyQueue_lamps (p : PointId) (s : State) (hl : s.field.lamps = lampsOf s.lanes) :
    (State.emptyQueue p s).field.lamps = lampsOf (State.emptyQueue p s).lanes := by
  simp only [State.emptyQueue]
  repeat' split
  all_goals first | (simp (maxDischargeDepth := 20) -implicitDefEqProofs [hl]; done) | (simp (maxDischargeDepth := 20) +contextual -implicitDefEqProofs [foldl_lamps, hl]; done) | (apply foldl_lamps <;> intros <;> (try split) <;> simp (maxDischargeDepth := 20) -implicitDefEqProofs [*]; done)

@[simp] theorem State.washFault_lamps (p : PointId) (cause : WashFaultCause) (s : State) (hl : s.field.lamps = lampsOf
    s.lanes) :
    (State.washFault p cause s).field.lamps = lampsOf (State.washFault p cause s).lanes := by
  simp only [State.washFault]
  repeat' split
  all_goals first | (simp (maxDischargeDepth := 20) -implicitDefEqProofs [hl]; done) | (simp (maxDischargeDepth := 20) +contextual -implicitDefEqProofs [foldl_lamps, hl]; done) | (apply foldl_lamps <;> intros <;> (try split) <;> simp (maxDischargeDepth := 20) -implicitDefEqProofs [*]; done)

@[simp] theorem State.doneTimeout_lamps (p : PointId) (s : State) (hl : s.field.lamps = lampsOf s.lanes) :
    (State.doneTimeout p s).field.lamps = lampsOf (State.doneTimeout p s).lanes := by
  simp only [State.doneTimeout]
  repeat' split
  all_goals first | (simp (maxDischargeDepth := 20) -implicitDefEqProofs [hl]; done) | (simp (maxDischargeDepth := 20) +contextual -implicitDefEqProofs [foldl_lamps, hl]; done) | (apply foldl_lamps <;> intros <;> (try split) <;> simp (maxDischargeDepth := 20) -implicitDefEqProofs [*]; done)

@[simp] theorem State.leaveUnwashed_lamps (p : PointId) (b : Nat) (s : State) (hl : s.field.lamps = lampsOf s.lanes) :
    (State.leaveUnwashed p b s).field.lamps = lampsOf (State.leaveUnwashed p b s).lanes := by
  simp only [State.leaveUnwashed]
  repeat' split
  all_goals first | (simp (maxDischargeDepth := 20) -implicitDefEqProofs [hl]; done) | (simp (maxDischargeDepth := 20) +contextual -implicitDefEqProofs [foldl_lamps, hl]; done) | (apply foldl_lamps <;> intros <;> (try split) <;> simp (maxDischargeDepth := 20) -implicitDefEqProofs [*]; done)

@[simp] theorem State.leaveArrived_lamps (p : PointId) (b : Nat) (s : State) (hl : s.field.lamps = lampsOf s.lanes) :
    (State.leaveArrived p b s).field.lamps = lampsOf (State.leaveArrived p b s).lanes := by
  simp only [State.leaveArrived]
  repeat' split
  all_goals first | (simp (maxDischargeDepth := 20) -implicitDefEqProofs [hl]; done) | (simp (maxDischargeDepth := 20) +contextual -implicitDefEqProofs [foldl_lamps, hl]; done) | (apply foldl_lamps <;> intros <;> (try split) <;> simp (maxDischargeDepth := 20) -implicitDefEqProofs [*]; done)

@[simp] theorem State.washExitRead_lamps (p : PointId) (t : TagFields) (s : State) (hl : s.field.lamps = lampsOf s.lanes) :
    (State.washExitRead p t s).field.lamps = lampsOf (State.washExitRead p t s).lanes := by
  simp only [State.washExitRead]
  repeat' split
  all_goals first | (simp (maxDischargeDepth := 20) -implicitDefEqProofs [hl]; done) | (simp (maxDischargeDepth := 20) +contextual -implicitDefEqProofs [foldl_lamps, hl]; done) | (apply foldl_lamps <;> intros <;> (try split) <;> simp (maxDischargeDepth := 20) -implicitDefEqProofs [*]; done)

@[simp] theorem State.pointCleared_lamps (p : PointId) (s : State) (hl : s.field.lamps = lampsOf s.lanes) :
    (State.pointCleared p s).field.lamps = lampsOf (State.pointCleared p s).lanes := by
  simp only [State.pointCleared]
  repeat' split
  all_goals first | (simp (maxDischargeDepth := 20) -implicitDefEqProofs [hl]; done) | (simp (maxDischargeDepth := 20) +contextual -implicitDefEqProofs [foldl_lamps, hl]; done) | (apply foldl_lamps <;> intros <;> (try split) <;> simp (maxDischargeDepth := 20) -implicitDefEqProofs [*]; done)

@[simp] theorem State.pointExitRead_lamps (p : PointId) (t : TagFields) (s : State) (hl : s.field.lamps = lampsOf s.lanes) :
    (State.pointExitRead p t s).field.lamps = lampsOf (State.pointExitRead p t s).lanes := by
  simp only [State.pointExitRead]
  repeat' split
  all_goals first | (simp (maxDischargeDepth := 20) -implicitDefEqProofs [hl]; done) | (simp (maxDischargeDepth := 20) +contextual -implicitDefEqProofs [foldl_lamps, hl]; done) | (apply foldl_lamps <;> intros <;> (try split) <;> simp (maxDischargeDepth := 20) -implicitDefEqProofs [*]; done)

@[simp] theorem State.expireRecords_lamps (p : PointId) (q : QueueEntry → Bool) (s : State) (hl : s.field.lamps =
    lampsOf s.lanes) :
    (State.expireRecords p q s).field.lamps = lampsOf (State.expireRecords p q s).lanes := by
  simp only [State.expireRecords]
  repeat' split
  all_goals first | (simp (maxDischargeDepth := 20) -implicitDefEqProofs [hl]; done) | (simp (maxDischargeDepth := 20) +contextual -implicitDefEqProofs [foldl_lamps, hl]; done) | (apply foldl_lamps <;> intros <;> (try split) <;> simp (maxDischargeDepth := 20) -implicitDefEqProofs [*]; done)

@[simp] theorem State.pointMinute_lamps (p : PointId) (completes : Bool) (s : State) (hl : s.field.lamps = lampsOf
    s.lanes) :
    (State.pointMinute p completes s).field.lamps = lampsOf (State.pointMinute p completes s).lanes := by
  simp only [State.pointMinute]
  repeat' split
  all_goals first | (simp (maxDischargeDepth := 20) -implicitDefEqProofs [hl]; done) | (simp (maxDischargeDepth := 20) +contextual -implicitDefEqProofs [foldl_lamps, hl]; done) | (apply foldl_lamps <;> intros <;> (try split) <;> simp (maxDischargeDepth := 20) -implicitDefEqProofs [*]; done)

@[simp] theorem State.setAsk_lamps (n b : Nat) (a : AskState) (s : State) (hl : s.field.lamps = lampsOf s.lanes) :
    (State.setAsk n b a s).field.lamps = lampsOf (State.setAsk n b a s).lanes := by
  simp only [State.setAsk]
  repeat' split
  all_goals first | (simp (maxDischargeDepth := 20) -implicitDefEqProofs [hl]; done) | (simp (maxDischargeDepth := 20) +contextual -implicitDefEqProofs [foldl_lamps, hl]; done) | (apply foldl_lamps <;> intros <;> (try split) <;> simp (maxDischargeDepth := 20) -implicitDefEqProofs [*]; done)

@[simp] theorem State.askSwap_lamps (n : Nat) (e : LaneEntry) (ahead : List LaneEntry) (s : State) (hl : s.field.lamps
    = lampsOf s.lanes) :
    (State.askSwap n e ahead s).field.lamps = lampsOf (State.askSwap n e ahead s).lanes := by
  simp only [State.askSwap]
  repeat' split
  all_goals first | (simp (maxDischargeDepth := 20) -implicitDefEqProofs [hl]; done) | (simp (maxDischargeDepth := 20) +contextual -implicitDefEqProofs [foldl_lamps, hl]; done) | (apply foldl_lamps <;> intros <;> (try split) <;> simp (maxDischargeDepth := 20) -implicitDefEqProofs [*]; done)

@[simp] theorem State.blockRun_lamps (n : Nat) (e : LaneEntry) (cause : BlockedCause) (s : State) (hl : s.field.lamps
    = lampsOf s.lanes) :
    (State.blockRun n e cause s).field.lamps = lampsOf (State.blockRun n e cause s).lanes := by
  simp only [State.blockRun]
  repeat' split
  all_goals first | (simp (maxDischargeDepth := 20) -implicitDefEqProofs [hl]; done) | (simp (maxDischargeDepth := 20) +contextual -implicitDefEqProofs [foldl_lamps, hl]; done) | (apply foldl_lamps <;> intros <;> (try split) <;> simp (maxDischargeDepth := 20) -implicitDefEqProofs [*]; done)

@[simp] theorem State.dealDue_lamps (n : Nat) (s : State) (b : Nat) (hl : s.field.lamps = lampsOf s.lanes) :
    (State.dealDue n s b).field.lamps = lampsOf (State.dealDue n s b).lanes := by
  simp only [State.dealDue]
  repeat' split
  all_goals first | (simp (maxDischargeDepth := 20) -implicitDefEqProofs [hl]; done) | (simp (maxDischargeDepth := 20) +contextual -implicitDefEqProofs [foldl_lamps, hl]; done) | (apply foldl_lamps <;> intros <;> (try split) <;> simp (maxDischargeDepth := 20) -implicitDefEqProofs [*]; done)

@[simp] theorem State.callLane_lamps (s : State) (n : Nat) (hl : s.field.lamps = lampsOf s.lanes) :
    (State.callLane s n).field.lamps = lampsOf (State.callLane s n).lanes := by
  simp only [State.callLane]
  repeat' split
  all_goals first | (simp (maxDischargeDepth := 20) -implicitDefEqProofs [hl]; done) | (simp (maxDischargeDepth := 20) +contextual -implicitDefEqProofs [foldl_lamps, hl]; done) | (apply foldl_lamps <;> intros <;> (try split) <;> simp (maxDischargeDepth := 20) -implicitDefEqProofs [*]; done)

@[simp] theorem State.callTimes_lamps (s : State) (hl : s.field.lamps = lampsOf s.lanes) :
    (State.callTimes s).field.lamps = lampsOf (State.callTimes s).lanes := by
  simp only [State.callTimes]
  repeat' split
  all_goals first | (simp (maxDischargeDepth := 20) -implicitDefEqProofs [hl]; done) | (simp (maxDischargeDepth := 20) +contextual -implicitDefEqProofs [foldl_lamps, hl]; done) | (apply foldl_lamps <;> intros <;> (try split) <;> simp (maxDischargeDepth := 20) -implicitDefEqProofs [*]; done)

@[simp] theorem State.reportLate_lamps (s : State) (x : Standing) (hl : s.field.lamps = lampsOf s.lanes) :
    (State.reportLate s x).field.lamps = lampsOf (State.reportLate s x).lanes := by
  simp only [State.reportLate]
  repeat' split
  all_goals first | (simp (maxDischargeDepth := 20) -implicitDefEqProofs [hl]; done) | (simp (maxDischargeDepth := 20) +contextual -implicitDefEqProofs [foldl_lamps, hl]; done) | (apply foldl_lamps <;> intros <;> (try split) <;> simp (maxDischargeDepth := 20) -implicitDefEqProofs [*]; done)

@[simp] theorem State.lateTest_lamps (q : Standing → Bool) (s : State) (hl : s.field.lamps = lampsOf s.lanes) :
    (State.lateTest q s).field.lamps = lampsOf (State.lateTest q s).lanes := by
  simp only [State.lateTest]
  repeat' split
  all_goals first | (simp (maxDischargeDepth := 20) -implicitDefEqProofs [hl]; done) | (simp (maxDischargeDepth := 20) +contextual -implicitDefEqProofs [foldl_lamps, hl]; done) | (apply foldl_lamps <;> intros <;> (try split) <;> simp (maxDischargeDepth := 20) -implicitDefEqProofs [*]; done)

@[simp] theorem State.lateCalled_lamps (s : State) (hl : s.field.lamps = lampsOf s.lanes) :
    (State.lateCalled s).field.lamps = lampsOf (State.lateCalled s).lanes := by
  simp only [State.lateCalled]
  repeat' split
  all_goals first | (simp (maxDischargeDepth := 20) -implicitDefEqProofs [hl]; done) | (simp (maxDischargeDepth := 20) +contextual -implicitDefEqProofs [foldl_lamps, hl]; done) | (apply foldl_lamps <;> intros <;> (try split) <;> simp (maxDischargeDepth := 20) -implicitDefEqProofs [*]; done)

@[simp] theorem State.modLaneBus_lamps (b : Nat) (f : LaneEntry → LaneEntry) (s : State) (hl : s.field.lamps = lampsOf
    s.lanes) :
    (State.modLaneBus b f s).field.lamps = lampsOf (State.modLaneBus b f s).lanes := by
  simp only [State.modLaneBus]
  repeat' split
  all_goals first | (simp (maxDischargeDepth := 20) -implicitDefEqProofs [hl]; done) | (simp (maxDischargeDepth := 20) +contextual -implicitDefEqProofs [foldl_lamps, hl]; done) | (apply foldl_lamps <;> intros <;> (try split) <;> simp (maxDischargeDepth := 20) -implicitDefEqProofs [*]; done)

@[simp] theorem State.clearMark_lamps (tag : Tag) (s : State) (hl : s.field.lamps = lampsOf s.lanes) :
    (State.clearMark tag s).field.lamps = lampsOf (State.clearMark tag s).lanes := by
  simp only [State.clearMark]
  repeat' split
  all_goals first | (simp (maxDischargeDepth := 20) -implicitDefEqProofs [hl]; done) | (simp (maxDischargeDepth := 20) +contextual -implicitDefEqProofs [foldl_lamps, hl]; done) | (apply foldl_lamps <;> intros <;> (try split) <;> simp (maxDischargeDepth := 20) -implicitDefEqProofs [*]; done)

@[simp] theorem State.bindTaken_lamps (b : Nat) (k : TakeMark) (s : State) (hl : s.field.lamps = lampsOf s.lanes) :
    (State.bindTaken b k s).field.lamps = lampsOf (State.bindTaken b k s).lanes := by
  simp only [State.bindTaken]
  repeat' split
  all_goals first | (simp (maxDischargeDepth := 20) -implicitDefEqProofs [hl]; done) | (simp (maxDischargeDepth := 20) +contextual -implicitDefEqProofs [foldl_lamps, hl]; done) | (apply foldl_lamps <;> intros <;> (try split) <;> simp (maxDischargeDepth := 20) -implicitDefEqProofs [*]; done)

@[simp] theorem State.bindMark_lamps (tag : Tag) (s : State) (hl : s.field.lamps = lampsOf s.lanes) :
    (State.bindMark tag s).field.lamps = lampsOf (State.bindMark tag s).lanes := by
  simp only [State.bindMark]
  repeat' split
  all_goals first | (simp (maxDischargeDepth := 20) -implicitDefEqProofs [hl]; done) | (simp (maxDischargeDepth := 20) +contextual -implicitDefEqProofs [foldl_lamps, hl]; done) | (apply foldl_lamps <;> intros <;> (try split) <;> simp (maxDischargeDepth := 20) -implicitDefEqProofs [*]; done)

@[simp] theorem State.rebindAsker_lamps (run : Nat) (h : HeadFields) (s : State) (hl : s.field.lamps = lampsOf
    s.lanes) :
    (State.rebindAsker run h s).field.lamps = lampsOf (State.rebindAsker run h s).lanes := by
  simp only [State.rebindAsker]
  repeat' split
  all_goals first | (simp (maxDischargeDepth := 20) -implicitDefEqProofs [hl]; done) | (simp (maxDischargeDepth := 20) +contextual -implicitDefEqProofs [foldl_lamps, hl]; done) | (apply foldl_lamps <;> intros <;> (try split) <;> simp (maxDischargeDepth := 20) -implicitDefEqProofs [*]; done)

@[simp] theorem State.refuseSwap_lamps (run : Nat) (s : State) (hl : s.field.lamps = lampsOf s.lanes) :
    (State.refuseSwap run s).field.lamps = lampsOf (State.refuseSwap run s).lanes := by
  simp only [State.refuseSwap]
  repeat' split
  all_goals first | (simp (maxDischargeDepth := 20) -implicitDefEqProofs [hl]; done) | (simp (maxDischargeDepth := 20) +contextual -implicitDefEqProofs [foldl_lamps, hl]; done) | (apply foldl_lamps <;> intros <;> (try split) <;> simp (maxDischargeDepth := 20) -implicitDefEqProofs [*]; done)

@[simp] theorem State.pullOutMinute_lamps (s : State) (hl : s.field.lamps = lampsOf s.lanes) :
    (State.pullOutMinute s).field.lamps = lampsOf (State.pullOutMinute s).lanes := by
  simp only [State.pullOutMinute]
  repeat' split
  all_goals first | (simp (maxDischargeDepth := 20) -implicitDefEqProofs [hl]; done) | (simp (maxDischargeDepth := 20) +contextual -implicitDefEqProofs [foldl_lamps, hl]; done) | (apply foldl_lamps <;> intros <;> (try split) <;> simp (maxDischargeDepth := 20) -implicitDefEqProofs [*]; done)

end Sys2Proof.Machine
end

