-- ==== Sys2Proof/Laws/LampsHandover.lean ====
section
/-! SUPPORT. The lamps in step with the lanes (R136) under the operations of the Handover Controller and of the minute event. -/

set_option linter.all false
set_option linter.unusedSimpArgs false
set_option linter.unusedTactic false
set_option linter.unreachableTactic false

namespace Sys2Proof.Machine

open Sys2Proof

@[simp] theorem State.modBids_lamps (f : BidEntry → BidEntry) (s : State) (hl : s.field.lamps = lampsOf s.lanes) :
    (State.modBids f s).field.lamps = lampsOf (State.modBids f s).lanes := by
  simp only [State.modBids]
  repeat' split
  all_goals first | (simp (maxDischargeDepth := 20) -implicitDefEqProofs [hl]; done) | (simp (maxDischargeDepth := 20) +contextual -implicitDefEqProofs [foldl_lamps, hl]; done) | (apply foldl_lamps <;> intros <;> (try split) <;> simp (maxDischargeDepth := 20) -implicitDefEqProofs [*]; done)

@[simp] theorem State.showTaker_lamps (it : OutItem) (t : HeardTake) (s : State) (hl : s.field.lamps = lampsOf
    s.lanes) :
    (State.showTaker it t s).field.lamps = lampsOf (State.showTaker it t s).lanes := by
  simp only [State.showTaker]
  repeat' split
  all_goals first | (simp (maxDischargeDepth := 20) -implicitDefEqProofs [hl]; done) | (simp (maxDischargeDepth := 20) +contextual -implicitDefEqProofs [foldl_lamps, hl]; done) | (apply foldl_lamps <;> intros <;> (try split) <;> simp (maxDischargeDepth := 20) -implicitDefEqProofs [*]; done)

@[simp] theorem State.commit_lamps (o : OpenOffer) (t : HeardTake) (s : State) (hl : s.field.lamps = lampsOf s.lanes)
    :
    (State.commit o t s).field.lamps = lampsOf (State.commit o t s).lanes := by
  simp only [State.commit]
  repeat' split
  all_goals first | (simp (maxDischargeDepth := 20) -implicitDefEqProofs [hl]; done) | (simp (maxDischargeDepth := 20) +contextual -implicitDefEqProofs [foldl_lamps, hl]; done) | (apply foldl_lamps <;> intros <;> (try split) <;> simp (maxDischargeDepth := 20) -implicitDefEqProofs [*]; done)

@[simp] theorem State.countJoin_lamps (s : State) (hl : s.field.lamps = lampsOf s.lanes) :
    (State.countJoin s).field.lamps = lampsOf (State.countJoin s).lanes := by
  simp only [State.countJoin]
  repeat' split
  all_goals first | (simp (maxDischargeDepth := 20) -implicitDefEqProofs [hl]; done) | (simp (maxDischargeDepth := 20) +contextual -implicitDefEqProofs [foldl_lamps, hl]; done) | (apply foldl_lamps <;> intros <;> (try split) <;> simp (maxDischargeDepth := 20) -implicitDefEqProofs [*]; done)

@[simp] theorem State.skipItem_lamps (k : ItemKey) (r : VisitRecord) (s : State) (hl : s.field.lamps = lampsOf
    s.lanes) :
    (State.skipItem k r s).field.lamps = lampsOf (State.skipItem k r s).lanes := by
  simp only [State.skipItem]
  repeat' split
  all_goals first | (simp (maxDischargeDepth := 20) -implicitDefEqProofs [hl]; done) | (simp (maxDischargeDepth := 20) +contextual -implicitDefEqProofs [foldl_lamps, hl]; done) | (apply foldl_lamps <;> intros <;> (try split) <;> simp (maxDischargeDepth := 20) -implicitDefEqProofs [*]; done)

@[simp] theorem State.strandItem_lamps (it : OutItem) (r : VisitRecord) (s : State) (hl : s.field.lamps = lampsOf
    s.lanes) :
    (State.strandItem it r s).field.lamps = lampsOf (State.strandItem it r s).lanes := by
  simp only [State.strandItem]
  repeat' split
  all_goals first | (simp (maxDischargeDepth := 20) -implicitDefEqProofs [hl]; done) | (simp (maxDischargeDepth := 20) +contextual -implicitDefEqProofs [foldl_lamps, hl]; done) | (apply foldl_lamps <;> intros <;> (try split) <;> simp (maxDischargeDepth := 20) -implicitDefEqProofs [*]; done)

@[simp] theorem State.secondExpiry_lamps (o : OpenOffer) (s : State) (hl : s.field.lamps = lampsOf s.lanes) :
    (State.secondExpiry o s).field.lamps = lampsOf (State.secondExpiry o s).lanes := by
  simp only [State.secondExpiry]
  repeat' split
  all_goals first | (simp (maxDischargeDepth := 20) -implicitDefEqProofs [hl]; done) | (simp (maxDischargeDepth := 20) +contextual -implicitDefEqProofs [foldl_lamps, hl]; done) | (apply foldl_lamps <;> intros <;> (try split) <;> simp (maxDischargeDepth := 20) -implicitDefEqProofs [*]; done)

@[simp] theorem State.offerWindowEnd_lamps (s : State) (hl : s.field.lamps = lampsOf s.lanes) :
    (State.offerWindowEnd s).field.lamps = lampsOf (State.offerWindowEnd s).lanes := by
  simp only [State.offerWindowEnd]
  repeat' split
  all_goals first | (simp (maxDischargeDepth := 20) -implicitDefEqProofs [hl]; done) | (simp (maxDischargeDepth := 20) +contextual -implicitDefEqProofs [foldl_lamps, hl]; done) | (apply foldl_lamps <;> intros <;> (try split) <;> simp (maxDischargeDepth := 20) -implicitDefEqProofs [*]; done)

@[simp] theorem State.takeWaitEnd_lamps (s : State) (hl : s.field.lamps = lampsOf s.lanes) :
    (State.takeWaitEnd s).field.lamps = lampsOf (State.takeWaitEnd s).lanes := by
  simp only [State.takeWaitEnd]
  repeat' split
  all_goals first | (simp (maxDischargeDepth := 20) -implicitDefEqProofs [hl]; done) | (simp (maxDischargeDepth := 20) +contextual -implicitDefEqProofs [foldl_lamps, hl]; done) | (apply foldl_lamps <;> intros <;> (try split) <;> simp (maxDischargeDepth := 20) -implicitDefEqProofs [*]; done)

@[simp] theorem State.ownOfferHeard_lamps (number : Nat) (s : State) (hl : s.field.lamps = lampsOf s.lanes) :
    (State.ownOfferHeard number s).field.lamps = lampsOf (State.ownOfferHeard number s).lanes := by
  simp only [State.ownOfferHeard]
  repeat' split
  all_goals first | (simp (maxDischargeDepth := 20) -implicitDefEqProofs [hl]; done) | (simp (maxDischargeDepth := 20) +contextual -implicitDefEqProofs [foldl_lamps, hl]; done) | (apply foldl_lamps <;> intros <;> (try split) <;> simp (maxDischargeDepth := 20) -implicitDefEqProofs [*]; done)

@[simp] theorem State.ownOfferDiscarded_lamps (number : Nat) (s : State) (hl : s.field.lamps = lampsOf s.lanes) :
    (State.ownOfferDiscarded number s).field.lamps = lampsOf (State.ownOfferDiscarded number s).lanes := by
  simp only [State.ownOfferDiscarded]
  repeat' split
  all_goals first | (simp (maxDischargeDepth := 20) -implicitDefEqProofs [hl]; done) | (simp (maxDischargeDepth := 20) +contextual -implicitDefEqProofs [foldl_lamps, hl]; done) | (apply foldl_lamps <;> intros <;> (try split) <;> simp (maxDischargeDepth := 20) -implicitDefEqProofs [*]; done)

@[simp] theorem State.clearTag_lamps (tag : Tag) (s : State) (hl : s.field.lamps = lampsOf s.lanes) :
    (State.clearTag tag s).field.lamps = lampsOf (State.clearTag tag s).lanes := by
  simp only [State.clearTag]
  repeat' split
  all_goals first | (simp (maxDischargeDepth := 20) -implicitDefEqProofs [hl]; done) | (simp (maxDischargeDepth := 20) +contextual -implicitDefEqProofs [foldl_lamps, hl]; done) | (apply foldl_lamps <;> intros <;> (try split) <;> simp (maxDischargeDepth := 20) -implicitDefEqProofs [*]; done)

@[simp] theorem State.supersede_lamps (h : Nat) (f : OfferFields) (s : State) (hl : s.field.lamps = lampsOf s.lanes) :
    (State.supersede h f s).field.lamps = lampsOf (State.supersede h f s).lanes := by
  simp only [State.supersede]
  repeat' split
  all_goals first | (simp (maxDischargeDepth := 20) -implicitDefEqProofs [hl]; done) | (simp (maxDischargeDepth := 20) +contextual -implicitDefEqProofs [foldl_lamps, hl]; done) | (apply foldl_lamps <;> intros <;> (try split) <;> simp (maxDischargeDepth := 20) -implicitDefEqProofs [*]; done)

@[simp] theorem State.placeTentative_lamps (b : BidEntry) (s : State) (hl : s.field.lamps = lampsOf s.lanes) :
    (State.placeTentative b s).field.lamps = lampsOf (State.placeTentative b s).lanes := by
  simp only [State.placeTentative]
  repeat' split
  all_goals first | (simp (maxDischargeDepth := 20) -implicitDefEqProofs [hl]; done) | (simp (maxDischargeDepth := 20) +contextual -implicitDefEqProofs [foldl_lamps, hl]; done) | (apply foldl_lamps <;> intros <;> (try split) <;> simp (maxDischargeDepth := 20) -implicitDefEqProofs [*]; done)

@[simp] theorem State.makeBid_lamps (b : BidEntry) (s : State) (hl : s.field.lamps = lampsOf s.lanes) :
    (State.makeBid b s).field.lamps = lampsOf (State.makeBid b s).lanes := by
  simp only [State.makeBid]
  repeat' split
  all_goals first | (simp (maxDischargeDepth := 20) -implicitDefEqProofs [hl]; done) | (simp (maxDischargeDepth := 20) +contextual -implicitDefEqProofs [foldl_lamps, hl]; done) | (apply foldl_lamps <;> intros <;> (try split) <;> simp (maxDischargeDepth := 20) -implicitDefEqProofs [*]; done)

@[simp] theorem State.offerHeard_lamps (h : Nat) (f : OfferFields) (s : State) (hl : s.field.lamps = lampsOf s.lanes)
    :
    (State.offerHeard h f s).field.lamps = lampsOf (State.offerHeard h f s).lanes := by
  simp only [State.offerHeard]
  repeat' split
  all_goals first | (simp (maxDischargeDepth := 20) -implicitDefEqProofs [hl]; done) | (simp (maxDischargeDepth := 20) +contextual -implicitDefEqProofs [foldl_lamps, hl]; done) | (apply foldl_lamps <;> intros <;> (try split) <;> simp (maxDischargeDepth := 20) -implicitDefEqProofs [*]; done)

@[simp] theorem State.bidHeard_lamps (source : Nat) (f : BidFields) (s : State) (hl : s.field.lamps = lampsOf s.lanes)
    :
    (State.bidHeard source f s).field.lamps = lampsOf (State.bidHeard source f s).lanes := by
  simp only [State.bidHeard]
  repeat' split
  all_goals first | (simp (maxDischargeDepth := 20) -implicitDefEqProofs [hl]; done) | (simp (maxDischargeDepth := 20) +contextual -implicitDefEqProofs [foldl_lamps, hl]; done) | (apply foldl_lamps <;> intros <;> (try split) <;> simp (maxDischargeDepth := 20) -implicitDefEqProofs [*]; done)

@[simp] theorem State.ownBidHeard_lamps (tag : Tag) (value : Nat) (s : State) (hl : s.field.lamps = lampsOf s.lanes) :
    (State.ownBidHeard tag value s).field.lamps = lampsOf (State.ownBidHeard tag value s).lanes := by
  simp only [State.ownBidHeard]
  repeat' split
  all_goals first | (simp (maxDischargeDepth := 20) -implicitDefEqProofs [hl]; done) | (simp (maxDischargeDepth := 20) +contextual -implicitDefEqProofs [foldl_lamps, hl]; done) | (apply foldl_lamps <;> intros <;> (try split) <;> simp (maxDischargeDepth := 20) -implicitDefEqProofs [*]; done)

@[simp] theorem State.expectTag_lamps (tag : Tag) (s : State) (hl : s.field.lamps = lampsOf s.lanes) :
    (State.expectTag tag s).field.lamps = lampsOf (State.expectTag tag s).lanes := by
  simp only [State.expectTag]
  repeat' split
  all_goals first | (simp (maxDischargeDepth := 20) -implicitDefEqProofs [hl]; done) | (simp (maxDischargeDepth := 20) +contextual -implicitDefEqProofs [foldl_lamps, hl]; done) | (apply foldl_lamps <;> intros <;> (try split) <;> simp (maxDischargeDepth := 20) -implicitDefEqProofs [*]; done)

@[simp] theorem State.makeTake_lamps (e : BidEntry) (s : State) (hl : s.field.lamps = lampsOf s.lanes) :
    (State.makeTake e s).field.lamps = lampsOf (State.makeTake e s).lanes := by
  simp only [State.makeTake]
  repeat' split
  all_goals first | (simp (maxDischargeDepth := 20) -implicitDefEqProofs [hl]; done) | (simp (maxDischargeDepth := 20) +contextual -implicitDefEqProofs [foldl_lamps, hl]; done) | (apply foldl_lamps <;> intros <;> (try split) <;> simp (maxDischargeDepth := 20) -implicitDefEqProofs [*]; done)

@[simp] theorem State.bidWindowEnd_lamps (tag : Tag) (s : State) (hl : s.field.lamps = lampsOf s.lanes) :
    (State.bidWindowEnd tag s).field.lamps = lampsOf (State.bidWindowEnd tag s).lanes := by
  simp only [State.bidWindowEnd]
  repeat' split
  all_goals first | (simp (maxDischargeDepth := 20) -implicitDefEqProofs [hl]; done) | (simp (maxDischargeDepth := 20) +contextual -implicitDefEqProofs [foldl_lamps, hl]; done) | (apply foldl_lamps <;> intros <;> (try split) <;> simp (maxDischargeDepth := 20) -implicitDefEqProofs [*]; done)

@[simp] theorem State.holderTake_lamps (source : Nat) (f : TakeFields) (s : State) (hl : s.field.lamps = lampsOf
    s.lanes) :
    (State.holderTake source f s).field.lamps = lampsOf (State.holderTake source f s).lanes := by
  simp only [State.holderTake]
  repeat' split
  all_goals first | (simp (maxDischargeDepth := 20) -implicitDefEqProofs [hl]; done) | (simp (maxDischargeDepth := 20) +contextual -implicitDefEqProofs [foldl_lamps, hl]; done) | (apply foldl_lamps <;> intros <;> (try split) <;> simp (maxDischargeDepth := 20) -implicitDefEqProofs [*]; done)

@[simp] theorem State.takerTake_lamps (source : Nat) (f : TakeFields) (s : State) (hl : s.field.lamps = lampsOf
    s.lanes) :
    (State.takerTake source f s).field.lamps = lampsOf (State.takerTake source f s).lanes := by
  simp only [State.takerTake]
  repeat' split
  all_goals first | (simp (maxDischargeDepth := 20) -implicitDefEqProofs [hl]; done) | (simp (maxDischargeDepth := 20) +contextual -implicitDefEqProofs [foldl_lamps, hl]; done) | (apply foldl_lamps <;> intros <;> (try split) <;> simp (maxDischargeDepth := 20) -implicitDefEqProofs [*]; done)

@[simp] theorem State.markTake_lamps (source : Nat) (f : TakeFields) (s : State) (hl : s.field.lamps = lampsOf
    s.lanes) :
    (State.markTake source f s).field.lamps = lampsOf (State.markTake source f s).lanes := by
  simp only [State.markTake]
  repeat' split
  all_goals first | (simp (maxDischargeDepth := 20) -implicitDefEqProofs [hl]; done) | (simp (maxDischargeDepth := 20) +contextual -implicitDefEqProofs [foldl_lamps, hl]; done) | (apply foldl_lamps <;> intros <;> (try split) <;> simp (maxDischargeDepth := 20) -implicitDefEqProofs [*]; done)

@[simp] theorem State.takeHeard_lamps (source : Nat) (f : TakeFields) (s : State) (hl : s.field.lamps = lampsOf
    s.lanes) :
    (State.takeHeard source f s).field.lamps = lampsOf (State.takeHeard source f s).lanes := by
  simp only [State.takeHeard]
  repeat' split
  all_goals first | (simp (maxDischargeDepth := 20) -implicitDefEqProofs [hl]; done) | (simp (maxDischargeDepth := 20) +contextual -implicitDefEqProofs [foldl_lamps, hl]; done) | (apply foldl_lamps <;> intros <;> (try split) <;> simp (maxDischargeDepth := 20) -implicitDefEqProofs [*]; done)

@[simp] theorem State.setMark_lamps (e : BidEntry) (s : State) (hl : s.field.lamps = lampsOf s.lanes) :
    (State.setMark e s).field.lamps = lampsOf (State.setMark e s).lanes := by
  simp only [State.setMark]
  repeat' split
  all_goals first | (simp (maxDischargeDepth := 20) -implicitDefEqProofs [hl]; done) | (simp (maxDischargeDepth := 20) +contextual -implicitDefEqProofs [foldl_lamps, hl]; done) | (apply foldl_lamps <;> intros <;> (try split) <;> simp (maxDischargeDepth := 20) -implicitDefEqProofs [*]; done)

@[simp] theorem State.ownTakeHeard_lamps (f : TakeFields) (s : State) (hl : s.field.lamps = lampsOf s.lanes) :
    (State.ownTakeHeard f s).field.lamps = lampsOf (State.ownTakeHeard f s).lanes := by
  simp only [State.ownTakeHeard]
  repeat' split
  all_goals first | (simp (maxDischargeDepth := 20) -implicitDefEqProofs [hl]; done) | (simp (maxDischargeDepth := 20) +contextual -implicitDefEqProofs [foldl_lamps, hl]; done) | (apply foldl_lamps <;> intros <;> (try split) <;> simp (maxDischargeDepth := 20) -implicitDefEqProofs [*]; done)

@[simp] theorem State.takeMarkEnd_lamps (tag : Tag) (s : State) (hl : s.field.lamps = lampsOf s.lanes) :
    (State.takeMarkEnd tag s).field.lamps = lampsOf (State.takeMarkEnd tag s).lanes := by
  simp only [State.takeMarkEnd]
  repeat' split
  all_goals first | (simp (maxDischargeDepth := 20) -implicitDefEqProofs [hl]; done) | (simp (maxDischargeDepth := 20) +contextual -implicitDefEqProofs [foldl_lamps, hl]; done) | (apply foldl_lamps <;> intros <;> (try split) <;> simp (maxDischargeDepth := 20) -implicitDefEqProofs [*]; done)

@[simp] theorem State.onDuty_lamps (source : Nat) (payload : List Byte) (s : State) (hl : s.field.lamps = lampsOf
    s.lanes) :
    (State.onDuty source payload s).field.lamps = lampsOf (State.onDuty source payload s).lanes := by
  simp only [State.onDuty]
  repeat' split
  all_goals first | (simp (maxDischargeDepth := 20) -implicitDefEqProofs [hl]; done) | (simp (maxDischargeDepth := 20) +contextual -implicitDefEqProofs [foldl_lamps, hl]; done) | (apply foldl_lamps <;> intros <;> (try split) <;> simp (maxDischargeDepth := 20) -implicitDefEqProofs [*]; done)

@[simp] theorem State.unbindOthers_lamps (b run : Nat) (s : State) (hl : s.field.lamps = lampsOf s.lanes) :
    (State.unbindOthers b run s).field.lamps = lampsOf (State.unbindOthers b run s).lanes := by
  simp only [State.unbindOthers]
  repeat' split
  all_goals first | (simp (maxDischargeDepth := 20) -implicitDefEqProofs [hl]; done) | (simp (maxDischargeDepth := 20) +contextual -implicitDefEqProofs [foldl_lamps, hl]; done) | (apply foldl_lamps <;> intros <;> (try split) <;> simp (maxDischargeDepth := 20) -implicitDefEqProofs [*]; done)

@[simp] theorem State.laneTakesRecord_lamps (n : Nat) (r : VisitRecord) (d : Duty) (s : State) (hl : s.field.lamps =
    lampsOf s.lanes) :
    (State.laneTakesRecord n r d s).field.lamps = lampsOf (State.laneTakesRecord n r d s).lanes := by
  simp only [State.laneTakesRecord]
  repeat' split
  all_goals first | (simp (maxDischargeDepth := 20) -implicitDefEqProofs [hl]; done) | (simp (maxDischargeDepth := 20) +contextual -implicitDefEqProofs [foldl_lamps, hl]; done) | (apply foldl_lamps <;> intros <;> (try split) <;> simp (maxDischargeDepth := 20) -implicitDefEqProofs [*]; done)

@[simp] theorem State.queueTakesRecord_lamps (p : PointId) (r : VisitRecord) (d : Duty) (s : State) (hl :
    s.field.lamps = lampsOf s.lanes) :
    (State.queueTakesRecord p r d s).field.lamps = lampsOf (State.queueTakesRecord p r d s).lanes := by
  simp only [State.queueTakesRecord]
  repeat' split
  all_goals first | (simp (maxDischargeDepth := 20) -implicitDefEqProofs [hl]; done) | (simp (maxDischargeDepth := 20) +contextual -implicitDefEqProofs [foldl_lamps, hl]; done) | (apply foldl_lamps <;> intros <;> (try split) <;> simp (maxDischargeDepth := 20) -implicitDefEqProofs [*]; done)

@[simp] theorem State.onRecord_lamps (r : VisitRecord) (s : State) (hl : s.field.lamps = lampsOf s.lanes) :
    (State.onRecord r s).field.lamps = lampsOf (State.onRecord r s).lanes := by
  simp only [State.onRecord]
  repeat' split
  all_goals first | (simp (maxDischargeDepth := 20) -implicitDefEqProofs [hl]; done) | (simp (maxDischargeDepth := 20) +contextual -implicitDefEqProofs [foldl_lamps, hl]; done) | (apply foldl_lamps <;> intros <;> (try split) <;> simp (maxDischargeDepth := 20) -implicitDefEqProofs [*]; done)

@[simp] theorem State.expireLaneRecords_lamps (q : LaneEntry → Bool) (s : State) (hl : s.field.lamps = lampsOf
    s.lanes) :
    (State.expireLaneRecords q s).field.lamps = lampsOf (State.expireLaneRecords q s).lanes := by
  simp only [State.expireLaneRecords]
  repeat' split
  all_goals first | (simp (maxDischargeDepth := 20) -implicitDefEqProofs [hl]; done) | (simp (maxDischargeDepth := 20) +contextual -implicitDefEqProofs [foldl_lamps, hl]; done) | (apply foldl_lamps <;> intros <;> (try split) <;> simp (maxDischargeDepth := 20) -implicitDefEqProofs [*]; done)

@[simp] theorem State.expireDutyWait_lamps (q : VisitRecord → Bool) (s : State) (hl : s.field.lamps = lampsOf s.lanes)
    :
    (State.expireDutyWait q s).field.lamps = lampsOf (State.expireDutyWait q s).lanes := by
  simp only [State.expireDutyWait]
  repeat' split
  all_goals first | (simp (maxDischargeDepth := 20) -implicitDefEqProofs [hl]; done) | (simp (maxDischargeDepth := 20) +contextual -implicitDefEqProofs [foldl_lamps, hl]; done) | (apply foldl_lamps <;> intros <;> (try split) <;> simp (maxDischargeDepth := 20) -implicitDefEqProofs [*]; done)

@[simp] theorem State.handoverMinute_lamps (s : State) (hl : s.field.lamps = lampsOf s.lanes) :
    (State.handoverMinute s).field.lamps = lampsOf (State.handoverMinute s).lanes := by
  simp only [State.handoverMinute]
  repeat' split
  all_goals first | (simp (maxDischargeDepth := 20) -implicitDefEqProofs [hl]; done) | (simp (maxDischargeDepth := 20) +contextual -implicitDefEqProofs [foldl_lamps, hl]; done) | (apply foldl_lamps <;> intros <;> (try split) <;> simp (maxDischargeDepth := 20) -implicitDefEqProofs [*]; done)

@[simp] theorem State.lanesMinute_lamps (s : State) (hl : s.field.lamps = lampsOf s.lanes) :
    (State.lanesMinute s).field.lamps = lampsOf (State.lanesMinute s).lanes := by
  simp only [State.lanesMinute]
  repeat' split
  all_goals first | (simp (maxDischargeDepth := 20) -implicitDefEqProofs [hl]; done) | (simp (maxDischargeDepth := 20) +contextual -implicitDefEqProofs [foldl_lamps, hl]; done) | (apply foldl_lamps <;> intros <;> (try split) <;> simp (maxDischargeDepth := 20) -implicitDefEqProofs [*]; done)

@[simp] theorem State.slotBoundary_lamps (k : Nat) (s : State) (hl : s.field.lamps = lampsOf s.lanes) :
    (State.slotBoundary k s).field.lamps = lampsOf (State.slotBoundary k s).lanes := by
  simp only [State.slotBoundary]
  repeat' split
  all_goals first | (simp (maxDischargeDepth := 20) -implicitDefEqProofs [hl]; done) | (simp (maxDischargeDepth := 20) +contextual -implicitDefEqProofs [foldl_lamps, hl]; done) | (apply foldl_lamps <;> intros <;> (try split) <;> simp (maxDischargeDepth := 20) -implicitDefEqProofs [*]; done)

@[simp] theorem State.ownerMinute_lamps (boundary : Option Nat) (completes : Bool) (s : State) (o : Owner) (hl :
    s.field.lamps = lampsOf s.lanes) :
    (State.ownerMinute boundary completes s o).field.lamps = lampsOf (State.ownerMinute boundary completes s o).lanes := by
  simp only [State.ownerMinute]
  repeat' split
  all_goals first | (simp (maxDischargeDepth := 20) -implicitDefEqProofs [hl]; done) | (simp (maxDischargeDepth := 20) +contextual -implicitDefEqProofs [foldl_lamps, hl]; done) | (apply foldl_lamps <;> intros <;> (try split) <;> simp (maxDischargeDepth := 20) -implicitDefEqProofs [*]; done)

@[simp] theorem State.raiseMinute_lamps (order : List Owner) (boundary : Option Nat) (completes : Bool) (s : State)
    (hl : s.field.lamps = lampsOf s.lanes) :
    (State.raiseMinute order boundary completes s).field.lamps = lampsOf (State.raiseMinute order boundary completes s).lanes := by
  simp only [State.raiseMinute]
  repeat' split
  all_goals first | (simp (maxDischargeDepth := 20) -implicitDefEqProofs [hl]; done) | (simp (maxDischargeDepth := 20) +contextual -implicitDefEqProofs [foldl_lamps, hl]; done) | (apply foldl_lamps <;> intros <;> (try split) <;> simp (maxDischargeDepth := 20) -implicitDefEqProofs [*]; done)

@[simp] theorem State.carryAll_lamps (old : Nat) (s : State) (hl : s.field.lamps = lampsOf s.lanes) :
    (State.carryAll old s).field.lamps = lampsOf (State.carryAll old s).lanes := by
  simp only [State.carryAll]
  repeat' split
  all_goals first | (simp (maxDischargeDepth := 20) -implicitDefEqProofs [hl]; done) | (simp (maxDischargeDepth := 20) +contextual -implicitDefEqProofs [foldl_lamps, hl]; done) | (apply foldl_lamps <;> intros <;> (try split) <;> simp (maxDischargeDepth := 20) -implicitDefEqProofs [*]; done)

@[simp] theorem State.clearAsks_lamps (s : State) (hl : s.field.lamps = lampsOf s.lanes) :
    (State.clearAsks s).field.lamps = lampsOf (State.clearAsks s).lanes := by
  simp only [State.clearAsks]
  repeat' split
  all_goals first | (simp (maxDischargeDepth := 20) -implicitDefEqProofs [hl]; done) | (simp (maxDischargeDepth := 20) +contextual -implicitDefEqProofs [foldl_lamps, hl]; done) | (apply foldl_lamps <;> intros <;> (try split) <;> simp (maxDischargeDepth := 20) -implicitDefEqProofs [*]; done)

@[simp] theorem State.clearBindings_lamps (s : State) (hl : s.field.lamps = lampsOf s.lanes) :
    (State.clearBindings s).field.lamps = lampsOf (State.clearBindings s).lanes := by
  simp only [State.clearBindings]
  repeat' split
  all_goals first | (simp (maxDischargeDepth := 20) -implicitDefEqProofs [hl]; done) | (simp (maxDischargeDepth := 20) +contextual -implicitDefEqProofs [foldl_lamps, hl]; done) | (apply foldl_lamps <;> intros <;> (try split) <;> simp (maxDischargeDepth := 20) -implicitDefEqProofs [*]; done)

@[simp] theorem State.clearLate_lamps (s : State) (hl : s.field.lamps = lampsOf s.lanes) :
    (State.clearLate s).field.lamps = lampsOf (State.clearLate s).lanes := by
  simp only [State.clearLate]
  repeat' split
  all_goals first | (simp (maxDischargeDepth := 20) -implicitDefEqProofs [hl]; done) | (simp (maxDischargeDepth := 20) +contextual -implicitDefEqProofs [foldl_lamps, hl]; done) | (apply foldl_lamps <;> intros <;> (try split) <;> simp (maxDischargeDepth := 20) -implicitDefEqProofs [*]; done)

@[simp] theorem State.unbindAll_lamps (s : State) (hl : s.field.lamps = lampsOf s.lanes) :
    (State.unbindAll s).field.lamps = lampsOf (State.unbindAll s).lanes := by
  simp only [State.unbindAll]
  repeat' split
  all_goals first | (simp (maxDischargeDepth := 20) -implicitDefEqProofs [hl]; done) | (simp (maxDischargeDepth := 20) +contextual -implicitDefEqProofs [foldl_lamps, hl]; done) | (apply foldl_lamps <;> intros <;> (try split) <;> simp (maxDischargeDepth := 20) -implicitDefEqProofs [*]; done)

@[simp] theorem State.reconvertAll_lamps (s : State) (hl : s.field.lamps = lampsOf s.lanes) :
    (State.reconvertAll s).field.lamps = lampsOf (State.reconvertAll s).lanes := by
  simp only [State.reconvertAll]
  repeat' split
  all_goals first | (simp (maxDischargeDepth := 20) -implicitDefEqProofs [hl]; done) | (simp (maxDischargeDepth := 20) +contextual -implicitDefEqProofs [foldl_lamps, hl]; done) | (apply foldl_lamps <;> intros <;> (try split) <;> simp (maxDischargeDepth := 20) -implicitDefEqProofs [*]; done)

end Sys2Proof.Machine
end

