-- ==== Sys2Proof/Laws/LampsIO.lean ====
section
/-! SUPPORT. The lamps in step with the lanes (R136) under the operations of the Field Interface, the Line Interface and the soft restart. -/

set_option linter.all false
set_option linter.unusedSimpArgs false
set_option linter.unusedTactic false
set_option linter.unreachableTactic false

namespace Sys2Proof.Machine

open Sys2Proof

@[simp] theorem State.letIn_lamps (t : TagFields) (s : State) (hl : s.field.lamps = lampsOf s.lanes) :
    (State.letIn t s).field.lamps = lampsOf (State.letIn t s).lanes := by
  simp only [State.letIn]
  repeat' split
  all_goals first | (simp (maxDischargeDepth := 20) -implicitDefEqProofs [hl]; done) | (simp (maxDischargeDepth := 20) +contextual -implicitDefEqProofs [foldl_lamps, hl]; done) | (apply foldl_lamps <;> intros <;> (try split) <;> simp (maxDischargeDepth := 20) -implicitDefEqProofs [*]; done)

@[simp] theorem State.gateRead_lamps (t : TagFields) (s : State) (hl : s.field.lamps = lampsOf s.lanes) :
    (State.gateRead t s).field.lamps = lampsOf (State.gateRead t s).lanes := by
  simp only [State.gateRead]
  repeat' split
  all_goals first | (simp (maxDischargeDepth := 20) -implicitDefEqProofs [hl]; done) | (simp (maxDischargeDepth := 20) +contextual -implicitDefEqProofs [foldl_lamps, hl]; done) | (apply foldl_lamps <;> intros <;> (try split) <;> simp (maxDischargeDepth := 20) -implicitDefEqProofs [*]; done)

@[simp] theorem State.handRead_lamps (role : ReaderRole) (t : TagFields) (s : State) (hl : s.field.lamps = lampsOf
    s.lanes) :
    (State.handRead role t s).field.lamps = lampsOf (State.handRead role t s).lanes := by
  simp only [State.handRead]
  repeat' split
  all_goals first | (simp (maxDischargeDepth := 20) -implicitDefEqProofs [hl]; done) | (simp (maxDischargeDepth := 20) +contextual -implicitDefEqProofs [foldl_lamps, hl]; done) | (apply foldl_lamps <;> intros <;> (try split) <;> simp (maxDischargeDepth := 20) -implicitDefEqProofs [*]; done)

@[simp] theorem State.tagReport_lamps (t : TagOctets) (now : Nat) (s : State) (hl : s.field.lamps = lampsOf s.lanes) :
    (State.tagReport t now s).field.lamps = lampsOf (State.tagReport t now s).lanes := by
  simp only [State.tagReport]
  repeat' split
  all_goals first | (simp (maxDischargeDepth := 20) -implicitDefEqProofs [hl]; done) | (simp (maxDischargeDepth := 20) +contextual -implicitDefEqProofs [foldl_lamps, hl]; done) | (apply foldl_lamps <;> intros <;> (try split) <;> simp (maxDischargeDepth := 20) -implicitDefEqProofs [*]; done)

@[simp] theorem State.abandonReport_lamps (s : State) (hl : s.field.lamps = lampsOf s.lanes) :
    (State.abandonReport s).field.lamps = lampsOf (State.abandonReport s).lanes := by
  simp only [State.abandonReport]
  repeat' split
  all_goals first | (simp (maxDischargeDepth := 20) -implicitDefEqProofs [hl]; done) | (simp (maxDischargeDepth := 20) +contextual -implicitDefEqProofs [foldl_lamps, hl]; done) | (apply foldl_lamps <;> intros <;> (try split) <;> simp (maxDischargeDepth := 20) -implicitDefEqProofs [*]; done)

@[simp] theorem State.levelChange_lamps (pin : Pin) (level : Bool) (s : State) (hl : s.field.lamps = lampsOf s.lanes)
    :
    (State.levelChange pin level s).field.lamps = lampsOf (State.levelChange pin level s).lanes := by
  simp only [State.levelChange]
  repeat' split
  all_goals first | (simp (maxDischargeDepth := 20) -implicitDefEqProofs [hl]; done) | (simp (maxDischargeDepth := 20) +contextual -implicitDefEqProofs [foldl_lamps, hl]; done) | (apply foldl_lamps <;> intros <;> (try split) <;> simp (maxDischargeDepth := 20) -implicitDefEqProofs [*]; done)

@[simp] theorem State.raiseChange_lamps (pin : Pin) (level : Bool) (s : State) (hl : s.field.lamps = lampsOf s.lanes)
    :
    (State.raiseChange pin level s).field.lamps = lampsOf (State.raiseChange pin level s).lanes := by
  simp only [State.raiseChange]
  repeat' split
  all_goals first | (simp (maxDischargeDepth := 20) -implicitDefEqProofs [hl]; done) | (simp (maxDischargeDepth := 20) +contextual -implicitDefEqProofs [foldl_lamps, hl]; done) | (apply foldl_lamps <;> intros <;> (try split) <;> simp (maxDischargeDepth := 20) -implicitDefEqProofs [*]; done)

@[simp] theorem State.debounced_lamps (pin : Pin) (s : State) (hl : s.field.lamps = lampsOf s.lanes) :
    (State.debounced pin s).field.lamps = lampsOf (State.debounced pin s).lanes := by
  simp only [State.debounced]
  repeat' split
  all_goals first | (simp (maxDischargeDepth := 20) -implicitDefEqProofs [hl]; done) | (simp (maxDischargeDepth := 20) +contextual -implicitDefEqProofs [foldl_lamps, hl]; done) | (apply foldl_lamps <;> intros <;> (try split) <;> simp (maxDischargeDepth := 20) -implicitDefEqProofs [*]; done)

@[simp] theorem State.pulse_lamps (p : PointId) (s : State) (hl : s.field.lamps = lampsOf s.lanes) :
    (State.pulse p s).field.lamps = lampsOf (State.pulse p s).lanes := by
  simp only [State.pulse]
  repeat' split
  all_goals first | (simp (maxDischargeDepth := 20) -implicitDefEqProofs [hl]; done) | (simp (maxDischargeDepth := 20) +contextual -implicitDefEqProofs [foldl_lamps, hl]; done) | (apply foldl_lamps <;> intros <;> (try split) <;> simp (maxDischargeDepth := 20) -implicitDefEqProofs [*]; done)

@[simp] theorem State.transferEnd_lamps (s : State) (hl : s.field.lamps = lampsOf s.lanes) :
    (State.transferEnd s).field.lamps = lampsOf (State.transferEnd s).lanes := by
  simp only [State.transferEnd]
  repeat' split
  all_goals first | (simp (maxDischargeDepth := 20) -implicitDefEqProofs [hl]; done) | (simp (maxDischargeDepth := 20) +contextual -implicitDefEqProofs [foldl_lamps, hl]; done) | (apply foldl_lamps <;> intros <;> (try split) <;> simp (maxDischargeDepth := 20) -implicitDefEqProofs [*]; done)

@[simp] theorem State.charBegin_lamps (s : State) (hl : s.field.lamps = lampsOf s.lanes) :
    (State.charBegin s).field.lamps = lampsOf (State.charBegin s).lanes := by
  simp only [State.charBegin]
  repeat' split
  all_goals first | (simp (maxDischargeDepth := 20) -implicitDefEqProofs [hl]; done) | (simp (maxDischargeDepth := 20) +contextual -implicitDefEqProofs [foldl_lamps, hl]; done) | (apply foldl_lamps <;> intros <;> (try split) <;> simp (maxDischargeDepth := 20) -implicitDefEqProofs [*]; done)

@[simp] theorem State.lineQuiet_lamps (s : State) (hl : s.field.lamps = lampsOf s.lanes) :
    (State.lineQuiet s).field.lamps = lampsOf (State.lineQuiet s).lanes := by
  simp only [State.lineQuiet]
  repeat' split
  all_goals first | (simp (maxDischargeDepth := 20) -implicitDefEqProofs [hl]; done) | (simp (maxDischargeDepth := 20) +contextual -implicitDefEqProofs [foldl_lamps, hl]; done) | (apply foldl_lamps <;> intros <;> (try split) <;> simp (maxDischargeDepth := 20) -implicitDefEqProofs [*]; done)

@[simp] theorem State.lineJam_lamps (s : State) (hl : s.field.lamps = lampsOf s.lanes) :
    (State.lineJam s).field.lamps = lampsOf (State.lineJam s).lanes := by
  simp only [State.lineJam]
  repeat' split
  all_goals first | (simp (maxDischargeDepth := 20) -implicitDefEqProofs [hl]; done) | (simp (maxDischargeDepth := 20) +contextual -implicitDefEqProofs [foldl_lamps, hl]; done) | (apply foldl_lamps <;> intros <;> (try split) <;> simp (maxDischargeDepth := 20) -implicitDefEqProofs [*]; done)

@[simp] theorem State.roundEnd_lamps (s : State) (hl : s.field.lamps = lampsOf s.lanes) :
    (State.roundEnd s).field.lamps = lampsOf (State.roundEnd s).lanes := by
  simp only [State.roundEnd]
  repeat' split
  all_goals first | (simp (maxDischargeDepth := 20) -implicitDefEqProofs [hl]; done) | (simp (maxDischargeDepth := 20) +contextual -implicitDefEqProofs [foldl_lamps, hl]; done) | (apply foldl_lamps <;> intros <;> (try split) <;> simp (maxDischargeDepth := 20) -implicitDefEqProofs [*]; done)

@[simp] theorem State.ignoreLine_lamps (s : State) (hl : s.field.lamps = lampsOf s.lanes) :
    (State.ignoreLine s).field.lamps = lampsOf (State.ignoreLine s).lanes := by
  simp only [State.ignoreLine]
  repeat' split
  all_goals first | (simp (maxDischargeDepth := 20) -implicitDefEqProofs [hl]; done) | (simp (maxDischargeDepth := 20) +contextual -implicitDefEqProofs [foldl_lamps, hl]; done) | (apply foldl_lamps <;> intros <;> (try split) <;> simp (maxDischargeDepth := 20) -implicitDefEqProofs [*]; done)

@[simp] theorem State.markSending_lamps (f : TxFrame) (s : State) (hl : s.field.lamps = lampsOf s.lanes) :
    (State.markSending f s).field.lamps = lampsOf (State.markSending f s).lanes := by
  simp only [State.markSending]
  repeat' split
  all_goals first | (simp (maxDischargeDepth := 20) -implicitDefEqProofs [hl]; done) | (simp (maxDischargeDepth := 20) +contextual -implicitDefEqProofs [foldl_lamps, hl]; done) | (apply foldl_lamps <;> intros <;> (try split) <;> simp (maxDischargeDepth := 20) -implicitDefEqProofs [*]; done)

@[simp] theorem State.transmitStart_lamps (c : Nat) (s : State) (hl : s.field.lamps = lampsOf s.lanes) :
    (State.transmitStart c s).field.lamps = lampsOf (State.transmitStart c s).lanes := by
  simp only [State.transmitStart]
  repeat' split
  all_goals first | (simp (maxDischargeDepth := 20) -implicitDefEqProofs [hl]; done) | (simp (maxDischargeDepth := 20) +contextual -implicitDefEqProofs [foldl_lamps, hl]; done) | (apply foldl_lamps <;> intros <;> (try split) <;> simp (maxDischargeDepth := 20) -implicitDefEqProofs [*]; done)

@[simp] theorem State.hearOwn_lamps (body : FrameBody) (s : State) (hl : s.field.lamps = lampsOf s.lanes) :
    (State.hearOwn body s).field.lamps = lampsOf (State.hearOwn body s).lanes := by
  simp only [State.hearOwn]
  repeat' split
  all_goals first | (simp (maxDischargeDepth := 20) -implicitDefEqProofs [hl]; done) | (simp (maxDischargeDepth := 20) +contextual -implicitDefEqProofs [foldl_lamps, hl]; done) | (apply foldl_lamps <;> intros <;> (try split) <;> simp (maxDischargeDepth := 20) -implicitDefEqProofs [*]; done)

@[simp] theorem State.tellDiscard_lamps (body : FrameBody) (s : State) (hl : s.field.lamps = lampsOf s.lanes) :
    (State.tellDiscard body s).field.lamps = lampsOf (State.tellDiscard body s).lanes := by
  simp only [State.tellDiscard]
  repeat' split
  all_goals first | (simp (maxDischargeDepth := 20) -implicitDefEqProofs [hl]; done) | (simp (maxDischargeDepth := 20) +contextual -implicitDefEqProofs [foldl_lamps, hl]; done) | (apply foldl_lamps <;> intros <;> (try split) <;> simp (maxDischargeDepth := 20) -implicitDefEqProofs [*]; done)

@[simp] theorem State.frameOut_lamps (f : TxFrame) (s : State) (hl : s.field.lamps = lampsOf s.lanes) :
    (State.frameOut f s).field.lamps = lampsOf (State.frameOut f s).lanes := by
  simp only [State.frameOut]
  repeat' split
  all_goals first | (simp (maxDischargeDepth := 20) -implicitDefEqProofs [hl]; done) | (simp (maxDischargeDepth := 20) +contextual -implicitDefEqProofs [foldl_lamps, hl]; done) | (apply foldl_lamps <;> intros <;> (try split) <;> simp (maxDischargeDepth := 20) -implicitDefEqProofs [*]; done)

@[simp] theorem State.retryReoffer_lamps (s : State) (hl : s.field.lamps = lampsOf s.lanes) :
    (State.retryReoffer s).field.lamps = lampsOf (State.retryReoffer s).lanes := by
  simp only [State.retryReoffer]
  repeat' split
  all_goals first | (simp (maxDischargeDepth := 20) -implicitDefEqProofs [hl]; done) | (simp (maxDischargeDepth := 20) +contextual -implicitDefEqProofs [foldl_lamps, hl]; done) | (apply foldl_lamps <;> intros <;> (try split) <;> simp (maxDischargeDepth := 20) -implicitDefEqProofs [*]; done)

@[simp] theorem State.frameHeard_lamps (s : State) (hl : s.field.lamps = lampsOf s.lanes) :
    (State.frameHeard s).field.lamps = lampsOf (State.frameHeard s).lanes := by
  simp only [State.frameHeard]
  repeat' split
  all_goals first | (simp (maxDischargeDepth := 20) -implicitDefEqProofs [hl]; done) | (simp (maxDischargeDepth := 20) +contextual -implicitDefEqProofs [foldl_lamps, hl]; done) | (apply foldl_lamps <;> intros <;> (try split) <;> simp (maxDischargeDepth := 20) -implicitDefEqProofs [*]; done)

@[simp] theorem State.flagConflict_lamps (kind destination : Nat) (cause : ConflictCause) (s : State) (hl :
    s.field.lamps = lampsOf s.lanes) :
    (State.flagConflict kind destination cause s).field.lamps = lampsOf (State.flagConflict kind destination cause s).lanes := by
  simp only [State.flagConflict]
  repeat' split
  all_goals first | (simp (maxDischargeDepth := 20) -implicitDefEqProofs [hl]; done) | (simp (maxDischargeDepth := 20) +contextual -implicitDefEqProofs [foldl_lamps, hl]; done) | (apply foldl_lamps <;> intros <;> (try split) <;> simp (maxDischargeDepth := 20) -implicitDefEqProofs [*]; done)

@[simp] theorem State.discardSent_lamps (f : TxFrame) (s : State) (hl : s.field.lamps = lampsOf s.lanes) :
    (State.discardSent f s).field.lamps = lampsOf (State.discardSent f s).lanes := by
  simp (maxDischargeDepth := 20) -implicitDefEqProofs [State.discardSent, hl]

@[simp] theorem State.mismatch_lamps (s : State) (hl : s.field.lamps = lampsOf s.lanes) :
    (State.mismatch s).field.lamps = lampsOf (State.mismatch s).lanes := by
  simp only [State.mismatch]
  repeat' split
  all_goals first | (simp (maxDischargeDepth := 20) -implicitDefEqProofs [hl]; done) | (simp (maxDischargeDepth := 20) +contextual -implicitDefEqProofs [foldl_lamps, hl]; done) | (apply foldl_lamps <;> intros <;> (try split) <;> simp (maxDischargeDepth := 20) -implicitDefEqProofs [*]; done)

@[simp] theorem State.onOffer_lamps (payload : List Byte) (source : Nat) (s : State) (hl : s.field.lamps = lampsOf
    s.lanes) :
    (State.onOffer payload source s).field.lamps = lampsOf (State.onOffer payload source s).lanes := by
  simp only [State.onOffer]
  repeat' split
  all_goals first | (simp (maxDischargeDepth := 20) -implicitDefEqProofs [hl]; done) | (simp (maxDischargeDepth := 20) +contextual -implicitDefEqProofs [foldl_lamps, hl]; done) | (apply foldl_lamps <;> intros <;> (try split) <;> simp (maxDischargeDepth := 20) -implicitDefEqProofs [*]; done)

@[simp] theorem State.onBid_lamps (payload : List Byte) (source : Nat) (s : State) (hl : s.field.lamps = lampsOf
    s.lanes) :
    (State.onBid payload source s).field.lamps = lampsOf (State.onBid payload source s).lanes := by
  simp only [State.onBid]
  repeat' split
  all_goals first | (simp (maxDischargeDepth := 20) -implicitDefEqProofs [hl]; done) | (simp (maxDischargeDepth := 20) +contextual -implicitDefEqProofs [foldl_lamps, hl]; done) | (apply foldl_lamps <;> intros <;> (try split) <;> simp (maxDischargeDepth := 20) -implicitDefEqProofs [*]; done)

@[simp] theorem State.onTake_lamps (payload : List Byte) (source : Nat) (s : State) (hl : s.field.lamps = lampsOf
    s.lanes) :
    (State.onTake payload source s).field.lamps = lampsOf (State.onTake payload source s).lanes := by
  simp only [State.onTake]
  repeat' split
  all_goals first | (simp (maxDischargeDepth := 20) -implicitDefEqProofs [hl]; done) | (simp (maxDischargeDepth := 20) +contextual -implicitDefEqProofs [foldl_lamps, hl]; done) | (apply foldl_lamps <;> intros <;> (try split) <;> simp (maxDischargeDepth := 20) -implicitDefEqProofs [*]; done)

@[simp] theorem State.onRecordFrame_lamps (payload : List Byte) (s : State) (hl : s.field.lamps = lampsOf s.lanes) :
    (State.onRecordFrame payload s).field.lamps = lampsOf (State.onRecordFrame payload s).lanes := by
  simp only [State.onRecordFrame]
  repeat' split
  all_goals first | (simp (maxDischargeDepth := 20) -implicitDefEqProofs [hl]; done) | (simp (maxDischargeDepth := 20) +contextual -implicitDefEqProofs [foldl_lamps, hl]; done) | (apply foldl_lamps <;> intros <;> (try split) <;> simp (maxDischargeDepth := 20) -implicitDefEqProofs [*]; done)

@[simp] theorem State.startDebouncers_lamps (s : State) (hl : s.field.lamps = lampsOf s.lanes) :
    (State.startDebouncers s).field.lamps = lampsOf (State.startDebouncers s).lanes := by
  simp only [State.startDebouncers]
  repeat' split
  all_goals first | (simp (maxDischargeDepth := 20) -implicitDefEqProofs [hl]; done) | (simp (maxDischargeDepth := 20) +contextual -implicitDefEqProofs [foldl_lamps, hl]; done) | (apply foldl_lamps <;> intros <;> (try split) <;> simp (maxDischargeDepth := 20) -implicitDefEqProofs [*]; done)

@[simp] theorem State.emptyQueues_lamps (s : State) (hl : s.field.lamps = lampsOf s.lanes) :
    (State.emptyQueues s).field.lamps = lampsOf (State.emptyQueues s).lanes := by
  simp only [State.emptyQueues]
  repeat' split
  all_goals first | (simp (maxDischargeDepth := 20) -implicitDefEqProofs [hl]; done) | (simp (maxDischargeDepth := 20) +contextual -implicitDefEqProofs [foldl_lamps, hl]; done) | (apply foldl_lamps <;> intros <;> (try split) <;> simp (maxDischargeDepth := 20) -implicitDefEqProofs [*]; done)

@[simp] theorem State.restartHandover_lamps (s : State) (hl : s.field.lamps = lampsOf s.lanes) :
    (State.restartHandover s).field.lamps = lampsOf (State.restartHandover s).lanes := by
  simp only [State.restartHandover]
  repeat' split
  all_goals first | (simp (maxDischargeDepth := 20) -implicitDefEqProofs [hl]; done) | (simp (maxDischargeDepth := 20) +contextual -implicitDefEqProofs [foldl_lamps, hl]; done) | (apply foldl_lamps <;> intros <;> (try split) <;> simp (maxDischargeDepth := 20) -implicitDefEqProofs [*]; done)

@[simp] theorem State.bindMarks_lamps (s : State) (hl : s.field.lamps = lampsOf s.lanes) :
    (State.bindMarks s).field.lamps = lampsOf (State.bindMarks s).lanes := by
  simp only [State.bindMarks]
  repeat' split
  all_goals first | (simp (maxDischargeDepth := 20) -implicitDefEqProofs [hl]; done) | (simp (maxDischargeDepth := 20) +contextual -implicitDefEqProofs [foldl_lamps, hl]; done) | (apply foldl_lamps <;> intros <;> (try split) <;> simp (maxDischargeDepth := 20) -implicitDefEqProofs [*]; done)

@[simp] theorem State.freeFault_lamps (p : PointId) (s : State) (hl : s.field.lamps = lampsOf s.lanes) :
    (State.freeFault p s).field.lamps = lampsOf (State.freeFault p s).lanes := by
  simp only [State.freeFault]
  repeat' split
  all_goals first | (simp (maxDischargeDepth := 20) -implicitDefEqProofs [hl]; done) | (simp (maxDischargeDepth := 20) +contextual -implicitDefEqProofs [foldl_lamps, hl]; done) | (apply foldl_lamps <;> intros <;> (try split) <;> simp (maxDischargeDepth := 20) -implicitDefEqProofs [*]; done)

@[simp] theorem State.testFreed_lamps (before : State) (p : PointId) (s : State) (hl : s.field.lamps = lampsOf
    s.lanes) :
    (State.testFreed before p s).field.lamps = lampsOf (State.testFreed before p s).lanes := by
  simp only [State.testFreed]
  repeat' split
  all_goals first | (simp (maxDischargeDepth := 20) -implicitDefEqProofs [hl]; done) | (simp (maxDischargeDepth := 20) +contextual -implicitDefEqProofs [foldl_lamps, hl]; done) | (apply foldl_lamps <;> intros <;> (try split) <;> simp (maxDischargeDepth := 20) -implicitDefEqProofs [*]; done)

@[simp] theorem State.softRestart_lamps (s : State) (hl : s.field.lamps = lampsOf s.lanes) :
    (State.softRestart s).field.lamps = lampsOf (State.softRestart s).lanes := by
  simp only [State.softRestart]
  repeat' split
  all_goals first | (simp (maxDischargeDepth := 20) -implicitDefEqProofs [hl]; done) | (simp (maxDischargeDepth := 20) +contextual -implicitDefEqProofs [foldl_lamps, hl]; done) | (apply foldl_lamps <;> intros <;> (try split) <;> simp (maxDischargeDepth := 20) -implicitDefEqProofs [*]; done)

@[simp] theorem State.onRestart_lamps (destination source : Nat) (s : State) (hl : s.field.lamps = lampsOf s.lanes) :
    (State.onRestart destination source s).field.lamps = lampsOf (State.onRestart destination source s).lanes := by
  simp only [State.onRestart]
  repeat' split
  all_goals first | (simp (maxDischargeDepth := 20) -implicitDefEqProofs [hl]; done) | (simp (maxDischargeDepth := 20) +contextual -implicitDefEqProofs [foldl_lamps, hl]; done) | (apply foldl_lamps <;> intros <;> (try split) <;> simp (maxDischargeDepth := 20) -implicitDefEqProofs [*]; done)

@[simp] theorem State.onPoll_lamps (source : Nat) (s : State) (hl : s.field.lamps = lampsOf s.lanes) :
    (State.onPoll source s).field.lamps = lampsOf (State.onPoll source s).lanes := by
  simp only [State.onPoll]
  repeat' split
  all_goals first | (simp (maxDischargeDepth := 20) -implicitDefEqProofs [hl]; done) | (simp (maxDischargeDepth := 20) +contextual -implicitDefEqProofs [foldl_lamps, hl]; done) | (apply foldl_lamps <;> intros <;> (try split) <;> simp (maxDischargeDepth := 20) -implicitDefEqProofs [*]; done)

@[simp] theorem State.expireBus_lamps (bus : Nat) (s : State) (hl : s.field.lamps = lampsOf s.lanes) :
    (State.expireBus bus s).field.lamps = lampsOf (State.expireBus bus s).lanes := by
  simp only [State.expireBus]
  repeat' split
  all_goals first | (simp (maxDischargeDepth := 20) -implicitDefEqProofs [hl]; done) | (simp (maxDischargeDepth := 20) +contextual -implicitDefEqProofs [foldl_lamps, hl]; done) | (apply foldl_lamps <;> intros <;> (try split) <;> simp (maxDischargeDepth := 20) -implicitDefEqProofs [*]; done)

@[simp] theorem State.expireRecordsOf_lamps (bus : Nat) (s : State) (hl : s.field.lamps = lampsOf s.lanes) :
    (State.expireRecordsOf bus s).field.lamps = lampsOf (State.expireRecordsOf bus s).lanes := by
  simp only [State.expireRecordsOf]
  repeat' split
  all_goals first | (simp (maxDischargeDepth := 20) -implicitDefEqProofs [hl]; done) | (simp (maxDischargeDepth := 20) +contextual -implicitDefEqProofs [foldl_lamps, hl]; done) | (apply foldl_lamps <;> intros <;> (try split) <;> simp (maxDischargeDepth := 20) -implicitDefEqProofs [*]; done)

end Sys2Proof.Machine
end

