-- ==== Sys2Proof/Laws/PerInstr.lean ====
section
/-! SUPPORT. The shape of a command, one lemma for each: a well-formed command that brings a frame brings one the receiver
can assemble, and no command both brings a frame and is handed to an owner by an event of the node itself. -/

namespace Sys2Proof.Laws

open Sys2Proof Sys2Proof.Machine

/-- The shape of a command (R153, R175, R176). -/
def CommandShape.Statement (i : Instr) : Prop :=
  (wellFormed i = true → ∀ f, frameOf i = some f → f.payload.length ≤ 40 ∧ f.kindOctet.getLsbD 7 = true) ∧
  (isOwnerCommand i = true → frameOf i = none)

/-- A command that brings no frame has the shape. -/
theorem CommandShape.of_no_frame {i : Instr} (h : frameOf i = none) : CommandShape.Statement i :=
  ⟨fun _ f hf => by simp [h] at hf, fun _ => h⟩

/-- A command that brings a frame, and is well-formed only with a frame the receiver can assemble, has the shape. -/
theorem CommandShape.of_frame {i : Instr} {f : RxFrame} (hi : frameOf i = some f) (ho : isOwnerCommand i = false)
    (h : wellFormed i = true → isFrame f = true) : CommandShape.Statement i :=
  ⟨fun hw g hg => by
    rw [hi] at hg
    cases hg
    have := h hw
    simp only [isFrame, Bool.and_eq_true, decide_eq_true_eq] at this
    exact this, fun hw => by simp [ho] at hw⟩

theorem CommandShape.powerOn : CommandShape.Statement .powerOn :=
  CommandShape.of_no_frame rfl

theorem CommandShape.resetAssert : CommandShape.Statement .resetAssert :=
  CommandShape.of_no_frame rfl

theorem CommandShape.configReadEnd (strap : BitVec 4) (octets : List (Option Byte)) : CommandShape.Statement (.configReadEnd strap octets) :=
  CommandShape.of_no_frame rfl

theorem CommandShape.minuteEvent (order : List Owner) : CommandShape.Statement (.minuteEvent order) :=
  CommandShape.of_no_frame rfl

theorem CommandShape.dutyWaitExpiry (bus : Nat) : CommandShape.Statement (.dutyWaitExpiry bus) :=
  CommandShape.of_no_frame rfl

theorem CommandShape.expectedTimeout (bus : Nat) : CommandShape.Statement (.expectedTimeout bus) :=
  CommandShape.of_no_frame rfl

theorem CommandShape.recordDeadline (bus : Nat) : CommandShape.Statement (.recordDeadline bus) :=
  CommandShape.of_no_frame rfl

theorem CommandShape.offerStart : CommandShape.Statement .offerStart :=
  CommandShape.of_no_frame rfl

theorem CommandShape.joinRetry (p : PointId) : CommandShape.Statement (.joinRetry p) :=
  CommandShape.of_no_frame rfl

theorem CommandShape.callTimeDue : CommandShape.Statement .callTimeDue :=
  CommandShape.of_no_frame rfl

theorem CommandShape.runLate (bus : Nat) : CommandShape.Statement (.runLate bus) :=
  CommandShape.of_no_frame rfl

theorem CommandShape.nozzleTimeout (p : PointId) : CommandShape.Statement (.nozzleTimeout p) :=
  CommandShape.of_no_frame rfl

theorem CommandShape.flowFault (p : PointId) : CommandShape.Statement (.flowFault p) :=
  CommandShape.of_no_frame rfl

theorem CommandShape.doneTimeout (p : PointId) : CommandShape.Statement (.doneTimeout p) :=
  CommandShape.of_no_frame rfl

theorem CommandShape.time (f : RxFrame) (order : List Owner) : CommandShape.Statement (.time f order) :=
  CommandShape.of_frame rfl rfl (fun h => by simp_all [wellFormed])

theorem CommandShape.duty (f : RxFrame) : CommandShape.Statement (.duty f) :=
  CommandShape.of_frame rfl rfl (fun h => by simp_all [wellFormed])

theorem CommandShape.plan (f : RxFrame) : CommandShape.Statement (.plan f) :=
  CommandShape.of_frame rfl rfl (fun h => by simp_all [wellFormed])

theorem CommandShape.openLane (f : RxFrame) : CommandShape.Statement (.openLane f) :=
  CommandShape.of_frame rfl rfl (fun h => by simp_all [wellFormed])

theorem CommandShape.closeLane (f : RxFrame) : CommandShape.Statement (.closeLane f) :=
  CommandShape.of_frame rfl rfl (fun h => by simp_all [wellFormed])

theorem CommandShape.clearPoint (f : RxFrame) : CommandShape.Statement (.clearPoint f) :=
  CommandShape.of_frame rfl rfl (fun h => by simp_all [wellFormed])

theorem CommandShape.restart (f : RxFrame) : CommandShape.Statement (.restart f) :=
  CommandShape.of_frame rfl rfl (fun h => by simp_all [wellFormed])

theorem CommandShape.poll (f : RxFrame) : CommandShape.Statement (.poll f) :=
  CommandShape.of_frame rfl rfl (fun h => by simp_all [wellFormed])

theorem CommandShape.offer (f : RxFrame) : CommandShape.Statement (.offer f) :=
  CommandShape.of_frame rfl rfl (fun h => by simp_all [wellFormed])

theorem CommandShape.bid (f : RxFrame) : CommandShape.Statement (.bid f) :=
  CommandShape.of_frame rfl rfl (fun h => by simp_all [wellFormed])

theorem CommandShape.take (f : RxFrame) : CommandShape.Statement (.take f) :=
  CommandShape.of_frame rfl rfl (fun h => by simp_all [wellFormed])

theorem CommandShape.stray (f : RxFrame) : CommandShape.Statement (.stray f) :=
  CommandShape.of_frame rfl rfl (fun h => by simp_all [wellFormed])

theorem CommandShape.record (f : RxFrame) : CommandShape.Statement (.record f) :=
  CommandShape.of_frame rfl rfl (fun h => by simp_all [wellFormed])

theorem CommandShape.otherFrame (f : RxFrame) : CommandShape.Statement (.otherFrame f) :=
  CommandShape.of_frame rfl rfl (fun h => by simp_all [wellFormed])

theorem CommandShape.bidWindowEnd (tag : Tag) : CommandShape.Statement (.bidWindowEnd tag) :=
  CommandShape.of_no_frame rfl

theorem CommandShape.offerWindowEnd : CommandShape.Statement .offerWindowEnd :=
  CommandShape.of_no_frame rfl

theorem CommandShape.takeWaitEnd : CommandShape.Statement .takeWaitEnd :=
  CommandShape.of_no_frame rfl

theorem CommandShape.takeMarkEnd (tag : Tag) : CommandShape.Statement (.takeMarkEnd tag) :=
  CommandShape.of_no_frame rfl

theorem CommandShape.tagReport (t : TagOctets) (now : Nat) : CommandShape.Statement (.tagReport t now) :=
  CommandShape.of_no_frame rfl

theorem CommandShape.tagReportTimeout : CommandShape.Statement .tagReportTimeout :=
  CommandShape.of_no_frame rfl

theorem CommandShape.loopFramingError : CommandShape.Statement .loopFramingError :=
  CommandShape.of_no_frame rfl

theorem CommandShape.detectorLevelChange (pin : Pin) (level : Bool) : CommandShape.Statement (.detectorLevelChange pin level) :=
  CommandShape.of_no_frame rfl

theorem CommandShape.debounceComplete (pin : Pin) : CommandShape.Statement (.debounceComplete pin) :=
  CommandShape.of_no_frame rfl

theorem CommandShape.flowPulse (p : PointId) : CommandShape.Statement (.flowPulse p) :=
  CommandShape.of_no_frame rfl

theorem CommandShape.characterBegin : CommandShape.Statement .characterBegin :=
  CommandShape.of_no_frame rfl

theorem CommandShape.lineQuiet : CommandShape.Statement .lineQuiet :=
  CommandShape.of_no_frame rfl

theorem CommandShape.lineJam : CommandShape.Statement .lineJam :=
  CommandShape.of_no_frame rfl

theorem CommandShape.deferralRoundEnd : CommandShape.Statement .deferralRoundEnd :=
  CommandShape.of_no_frame rfl

theorem CommandShape.transmitStart (count : Nat) : CommandShape.Statement (.transmitStart count) :=
  CommandShape.of_no_frame rfl

theorem CommandShape.frameHeard : CommandShape.Statement .frameHeard :=
  CommandShape.of_no_frame rfl

theorem CommandShape.readbackMismatch : CommandShape.Statement .readbackMismatch :=
  CommandShape.of_no_frame rfl

theorem CommandShape.rxFramingError : CommandShape.Statement .rxFramingError :=
  CommandShape.of_no_frame rfl

theorem CommandShape.displayTransferEnd : CommandShape.Statement .displayTransferEnd :=
  CommandShape.of_no_frame rfl

theorem CommandShape.rxOctetRejected (r : Rejected) : CommandShape.Statement (.rxOctetRejected r) :=
  CommandShape.of_no_frame rfl

end Sys2Proof.Laws
end

