-- ==== Sys2Proof/Laws/Records.lean ====
section
/-! SUPPORT. The records a node holds and the EXPECTED entries it has elsewhere than at one place: what the searches of
R38 find is what the statements speak of. -/

namespace Sys2Proof.Machine

open Sys2Proof

/-! ## Records held elsewhere (R20, R38 step 1) -/

/-- The records the node holds, as it hands them over: one for each bus of `State.recordBuses` (R20, R38, R40). -/
def State.records (s : State) : List VisitRecord :=
  s.hand.outbound.filterMap OutItem.visit?
    ++ (s.point0.queue.filter QueueEntry.isFront).map (s.handedRecord .p0)
    ++ (s.point1.queue.filter QueueEntry.isFront).map (s.handedRecord .p1)
    ++ (s.laneEntries.filter LaneEntry.isFront).map (fun e => e.visit)

@[simp] theorem State.handedRecord_bus (s : State) (p : PointId) (e : QueueEntry) :
    (s.handedRecord p e).bus = e.visit.bus := by
  unfold State.handedRecord
  split
  · split <;> rfl
  · rfl

theorem State.records_map_bus (s : State) : s.records.map (fun r => r.bus) = s.recordBuses := by
  simp [State.records, State.recordBuses, Function.comp_def]

/-- A record held elsewhere is one of the node's records (R20). -/
theorem State.mem_records_of_holdsElsewhere {s : State} {r : VisitRecord} {here : Resource}
    (h : s.holdsElsewhere r here) : r ∈ s.records := by
  simp only [State.records, List.mem_append, List.mem_map, List.mem_filterMap, List.mem_filter]
  obtain ⟨i, hi, hc⟩ | ⟨p, -, x, hx, hf, hw, hs⟩ | ⟨n, l, -, hl, x, hx, hf, rfl⟩ := h
  · exact .inl (.inl (.inl ⟨i, hi, by simp [OutItem.visit?, hc]⟩))
  · have hb : s.handedRecord p x = r := by
      unfold State.handedRecord
      split
      · rename_i hx'; exact (hs hx').symm
      · rename_i hx'; rw [hw hx']
    cases p
    · exact .inl (.inl (.inr ⟨x, ⟨hx, hf⟩, hb⟩))
    · exact .inl (.inr ⟨x, ⟨hx, hf⟩, hb⟩)
  · exact .inr ⟨x, ⟨List.mem_flatMap.2 ⟨l, List.mem_of_getElem? hl, hx⟩, hf⟩, rfl⟩

theorem State.mem_recordBuses_of_holdsElsewhere {s : State} {r : VisitRecord} {here : Resource}
    (h : s.holdsElsewhere r here) : r.bus ∈ s.recordBuses :=
  s.records_map_bus ▸ List.mem_map_of_mem (State.mem_records_of_holdsElsewhere h)

/-- What `ownRecord?` finds is a record of the bus that the node holds elsewhere (R38 step 1). -/
theorem State.holdsElsewhere_of_ownRecord? {s : State} {b : Nat} {here : Resource} {r : VisitRecord}
    (h : s.ownRecord? b here = some r) : r.bus = b ∧ s.holdsElsewhere r here := by
  have point : ∀ p, (if here = .point p then none else
      ((s.point p).queue.find? (fun e => decide (e.visit.bus = b) && e.isFront)).map (s.handedRecord p)) = some r →
      r.bus = b ∧ s.holdsElsewhere r here := by
    intro p hp
    split at hp
    · cases hp
    · rename_i hne
      obtain ⟨e, he, rfl⟩ := Option.map_eq_some_iff.1 hp
      have hb := List.find?_some he
      simp only [Bool.and_eq_true, decide_eq_true_eq] at hb
      refine ⟨?_, .inr (.inl ⟨p, hne, e, List.mem_of_find?_eq_some he, hb.2, ?_, ?_⟩)⟩
      · rw [State.handedRecord_bus]; exact hb.1
      · intro hs; simp [State.handedRecord, hs]
      · intro hs; exact if_pos hs
  simp only [State.ownRecord?, Option.orElse_eq_orElse, Option.orElse_eq_or, Option.or_eq_some_iff] at h
  rcases h with h | ⟨-, h | ⟨-, h | ⟨-, h⟩⟩⟩
  · obtain ⟨i, hi, hv⟩ := Option.bind_eq_some_iff.1 h
    have hk := List.find?_some hi
    cases hc : i.cargo with
    | swap q => simp [OutItem.visit?, hc] at hv
    | visit r' =>
      simp only [OutItem.visit?, hc, Option.some.injEq] at hv
      subst hv
      refine ⟨by simpa [OutItem.key, hc] using hk, .inl ⟨i, List.mem_of_find?_eq_some hi, hc⟩⟩
  · exact point _ h
  · exact point _ h
  · obtain ⟨n, hn, hm⟩ := List.exists_of_findSome?_eq_some h
    obtain ⟨e, he, rfl⟩ := Option.map_eq_some_iff.1 hm
    obtain ⟨l, hl, he⟩ := Option.bind_eq_some_iff.1 he
    have hb := List.find?_some he
    simp only [Bool.and_eq_true, decide_eq_true_eq] at hb
    simp only [List.mem_filter, decide_eq_true_eq] at hn
    exact ⟨hb.1, .inr (.inr ⟨n, l, hn.2, hl, e, List.mem_of_find?_eq_some he, hb.2, rfl⟩)⟩

/-- A record held elsewhere is the one that `ownRecord?` finds, in a node that holds every bus once (R20, R38 step 1). -/
theorem State.ownRecord?_of_holdsElsewhere {s : State} {r : VisitRecord} {here : Resource} (hd : s.recordBuses.Nodup)
    (h : s.holdsElsewhere r here) : s.ownRecord? r.bus here = some r := by
  have found : ∃ r', s.ownRecord? r.bus here = some r' := by
    rw [← Option.isSome_iff_exists]
    simp only [State.ownRecord?, Option.orElse_eq_orElse, Option.orElse_eq_or, Option.isSome_or, Bool.or_eq_true]
    obtain ⟨i, hi, hc⟩ | ⟨p, hp, x, hx, hf, hw, hs⟩ | ⟨n, l, hn, hl, x, hx, hf, rfl⟩ := h
    · left
      cases hi' : s.item? (.bus r.bus) with
      | none =>
        exact absurd (List.find?_eq_none.1 hi' i hi) (by simp [OutItem.key, hc])
      | some j =>
        have hk := List.find?_some hi'
        cases hj : j.cargo <;> simp_all [OutItem.key, OutItem.visit?]
    · have hb : x.visit.bus = r.bus := by
        by_cases hx' : x.state = .serving
        · rw [hs hx']; cases (s.pointImage p).kind <;> rfl
        · rw [hw hx']
      have : ((s.point p).queue.find? (fun e => decide (e.visit.bus = r.bus) && e.isFront)).isSome = true :=
        List.find?_isSome.2 ⟨x, hx, by simp [hb, hf]⟩
      cases p
      · right; left; simpa [hp] using this
      · right; right; left; simpa [hp] using this
    · right; right; right
      refine List.findSome?_isSome_iff.2 ⟨n, ?_, ?_⟩
      · simpa using ⟨(List.getElem?_eq_some_iff.1 hl).1, hn⟩
      · simpa [hl] using ⟨x, hx, rfl, hf⟩
  obtain ⟨r', hr'⟩ := found
  obtain ⟨hb, hh⟩ := State.holdsElsewhere_of_ownRecord? hr'
  rw [hr', List.inj_on_of_nodup_map (s.records_map_bus ▸ hd) (State.mem_records_of_holdsElsewhere hh)
    (State.mem_records_of_holdsElsewhere h) hb]

/-! ## EXPECTED entries elsewhere (R38 step 2) -/

/-- What `expectedElsewhere?` finds is the record of an EXPECTED entry of the bus elsewhere. -/
theorem State.expectsElsewhere_of_expectedElsewhere? {s : State} {b : Nat} {here : Resource} {r : VisitRecord}
    (h : s.expectedElsewhere? b here = some r) : r.bus = b ∧ s.expectsElsewhere r here := by
  have point : ∀ p, (if here = .point p then none else
      ((s.point p).queue.find? (fun e => decide (e.visit.bus = b) && decide (e.state = .expected))).map
        (fun e => e.visit)) = some r → r.bus = b ∧ s.expectsElsewhere r here := by
    intro p hp
    split at hp
    · cases hp
    · rename_i hne
      obtain ⟨e, he, rfl⟩ := Option.map_eq_some_iff.1 hp
      have hb := List.find?_some he
      simp only [Bool.and_eq_true, decide_eq_true_eq] at hb
      exact ⟨hb.1, .inl ⟨p, hne, e, List.mem_of_find?_eq_some he, hb.2, rfl⟩⟩
  simp only [State.expectedElsewhere?, Option.orElse_eq_orElse, Option.orElse_eq_or, Option.or_eq_some_iff] at h
  rcases h with h | ⟨-, h | ⟨-, h⟩⟩
  · exact point _ h
  · exact point _ h
  · obtain ⟨n, hn, hm⟩ := List.exists_of_findSome?_eq_some h
    obtain ⟨e, he, rfl⟩ := Option.map_eq_some_iff.1 hm
    obtain ⟨l, hl, he⟩ := Option.bind_eq_some_iff.1 he
    have hb := List.find?_some he
    simp only [Bool.and_eq_true, decide_eq_true_eq] at hb
    simp only [List.mem_filter, decide_eq_true_eq] at hn
    exact ⟨hb.1, .inr ⟨n, l, hn.2, hl, e, List.mem_of_find?_eq_some he, hb.2, rfl⟩⟩

/-- Where an EXPECTED entry of a bus stands elsewhere, `expectedElsewhere?` finds the record of one. -/
theorem State.expectedElsewhere?_isSome {s : State} {r : VisitRecord} {here : Resource} (h : s.expectsElsewhere r here) :
    (s.expectedElsewhere? r.bus here).isSome = true := by
  simp only [State.expectedElsewhere?, Option.orElse_eq_orElse, Option.orElse_eq_or, Option.isSome_or, Bool.or_eq_true]
  obtain ⟨p, hp, x, hx, hf, rfl⟩ | ⟨n, l, hn, hl, x, hx, hf, rfl⟩ := h
  · have : ((s.point p).queue.find? (fun e => decide (e.visit.bus = x.visit.bus) && decide (e.state = .expected))).isSome
        = true := List.find?_isSome.2 ⟨x, hx, by simp [hf]⟩
    cases p
    · left; simpa [hp] using this
    · right; left; simpa [hp] using this
  · right; right
    refine List.findSome?_isSome_iff.2 ⟨n, ?_, ?_⟩
    · simpa using ⟨(List.getElem?_eq_some_iff.1 hl).1, hn⟩
    · simpa [hl] using ⟨x, hx, rfl, hf⟩

end Sys2Proof.Machine
end

