-- ==== Sys2Proof/Tests/Slice0.lean ====
section
/-! SUPPORT. Tests on small states. Expected values come from the manual's worked examples and tables, named at each. A theorem
`witness_<Name>` shows that the hypotheses of the statement `Obligations.<Name>` are met together, clause by clause. -/

namespace Sys2Proof.Tests

open Sys2Proof Sys2Proof.Machine

set_option Elab.async false

/-! ## Small states, frames and reports -/

/-- Whether a command completes with a state that satisfies `p`. -/
def runs (c : Instr) (s : State) (p : State → Bool) : Bool :=
  match exec c s with
  | .next t => p t
  | _ => false

/-- A frame with its CRC and its kind octet set as a sender sets them. -/
def frame (k : FrameKind) (source destination : Nat) (payload : List Byte) : RxFrame :=
  { kindOctet := kindOctet k.code, addressOctet := octet (source * 16 + destination), payload := payload,
    crc := crc16 (crcOctets (octet (source * 16 + destination)) payload) }

/-- A tag report with its CRC. -/
def tag (reader bus cls fuel wash : Nat) : TagOctets :=
  { reader := octet reader, busHigh := octet (bus / 256), busLow := octet bus, busClass := octet cls, fuel := octet fuel,
    wash := octet wash,
    check := crc8 [octet reader, octet (bus / 256), octet bus, octet cls, octet fuel, octet wash] }

/-- The image of the examples: three lanes, point 0 a fuel point, point 1 a washing lane. -/
def image : Image :=
  { Image.supplied with
    laneCount := 3, laneLength := #v[60, 40, 60, 20, 20, 20]
    point0 := { PointImage.supplied with kind := .fuel }
    point1 := { PointImage.supplied with
      kind := .wash
      stencil := #v[true, false, true, true, false, true, true, false, true, true, false, true] } }

/-- An open lane with these entries. -/
def lane (l : List LaneEntry) : Lane := { state := .opened, entries := l, overfull := false }

/-- A node of address 3 in service, on the fall-back night (S = −60, C = 840), with a frame coming in. -/
def node (m : Nat) (lanes : List Lane) : State :=
  { State.reset with
    loader := { State.reset.loader with node := .inService, address := 3, image := image }
    clock := { m := m, shift := .back, change := 840, isSet := true, running := true }
    lanes := lanes
    point0 := Point.powerOn image.point0
    point1 := Point.powerOn image.point1
    timeline := { State.reset.timeline with begun := some (m / 30) }
    line := { State.reset.line with phase := .busy, deferral := none, receiver := .assembling } }

/-- A record of class 2 that has no run and no wash to come. -/
def spare (b : Nat) : VisitRecord :=
  { bus := b, cls := 2, fuelLevel := 40, washRequest := .none, gateMinute := 590, next := .berth, duty := Duty.unbound,
    fuelOutcome := none, litres := 0, washOutcome := some .notWanted, stray := false }

/-- A record bound to a run at a departure. -/
def bound (b run departure : Nat) : VisitRecord :=
  { spare b with duty := { state := .bound, run := run, wall := some (departure - 60), departure := departure, pinned := false,
                           substituted := false } }

/-- A lane entry in a state. -/
def entry (r : VisitRecord) (st : LaneEntryState) : LaneEntry :=
  { visit := r, state := st, tag := none, value := none, deadline := none, unconfirmed := false, recordAwaited := none,
    ask := .none, mark := none }

/-- A queue entry in a state. -/
def queued (r : VisitRecord) (st : QueueEntryState) : QueueEntry :=
  { visit := r, state := st, tag := none, value := none, deadline := none, recordAwaited := none,
    justServed := false, passedOn := false }

/-- An outbound item ready at a minute. -/
def item (c : Cargo) (ready : Nat) : OutItem :=
  { cargo := c, ready := ready, joinOrder := 0, offerCount := 0, lastNumber := 0, place := some .gate }

/-- The node with an outbound list. -/
def withItems (l : List OutItem) (s : State) : State := { s with hand := { s.hand with outbound := l } }

/-- The node with a bid list. -/
def withBids (l : List BidEntry) (s : State) : State := { s with hand := { s.hand with bids := l } }

/-- The node with reports in its queue. -/
def withReports (n : Nat) (s : State) : State :=
  { s with loader := { s.loader with reports := List.replicate n { sequence := 0, minute := 0, body := .noClock 1 0 } } }

/-- A frame of the transmit queue. -/
def tx (b : FrameBody) (order : Nat) : TxFrame :=
  { body := b, destination := 15, order := order, mismatches := 0, sending := false }

/-- The node with a transmit queue. -/
def withFrames (l : List TxFrame) (s : State) : State :=
  { s with line := { s.line with transmit := l, nextOrder := l.length } }

/-- A bid entry of the node for a bus at a lane. -/
def bidFor (t : Tag) (b value : Nat) (st : BidState) : BidEntry :=
  { tag := t, bus := b, stage := .berth, copy := some (spare b), resource := .lane 0, value := value, head := none,
    asked := none, state := st, heard := [], waitOver := false, noBinding := false }

/-- An open offer of the node. -/
def openOffer (number : Nat) (ph : OfferPhase) (k : ItemKey) : OpenOffer :=
  { number := number, phase := ph, key := k, countBefore := 0, reNumber := 0, takes := [] }

/-- The node with an open offer. -/
def offering (o : OpenOffer) (s : State) : State := { s with hand := { s.hand with offer := some o } }

/-- Bus 2502 of run 305, which asks for a swap behind bus 2501. -/
def asker : LaneEntry := { entry (bound 2502 305 1060) .parked with ask := .asking }

/-- The swap request of bus 2502 for run 305. -/
def swapItem (ready : Nat) : OutItem :=
  { item (.swap { run := 305, cls := 2, wall := some 1000, departure := 1060, need := 1090 }) ready with place := none }

/-- The holder of a SWAP offer of run 305 for bus 2502, offered `count` times. -/
def swapHolder (ph : OfferPhase) (count : Nat) : State :=
  offering { openOffer 22 ph (.swapRun 305) with reNumber := 23 }
    (withItems [{ swapItem 600 with offerCount := count }] (node 1050 [lane [entry (bound 2501 310 1090) .parked, asker]]))

/-- A point in service, busy with the head of its queue. -/
def busyPoint (c : PointImage) (q : List QueueEntry) : Point :=
  { Point.powerOn c with
    state := .busy, queue := q, delivered := 275, enable := true
    service := some { start := 596, needed := 280, cap := 308, duration := 10, lifted := false, deadline := 606 } }

/-- A washing lane with a running cycle. -/
def washing (q : List QueueEntry) (place : Nat) : Point :=
  { Point.powerOn image.point1 with
    state := .busy, queue := q, pointer := place, startOutput := .rinse
    cycle := some { type := .rinse, place := place, start := 702, nominal := 3, deadline := 708, advance := true } }

/-- The node with debounced and live levels of a pin. -/
def pinAt (pin : Pin) (live debounced timer : Bool) (s : State) : State :=
  s.setDetector pin { live := live, debounced := debounced, timer := timer }

/-- What `State.entriesDistinct` asks, in a form that can be decided. -/
theorem entriesDistinct_of {s : State}
    (h : (s.hand.bids.map (fun b => b.tag)).Nodup ∧ (s.point0.queue.map (fun e => e.visit.bus)).Nodup ∧
      (s.point1.queue.map (fun e => e.visit.bus)).Nodup ∧ (∀ l ∈ s.lanes, (l.entries.map (fun e => e.visit.bus)).Nodup) ∧
      (s.hand.outbound.map OutItem.key).Nodup ∧ s.recordBuses.Nodup) : s.entriesDistinct :=
  ⟨h.1, fun p => match p with | .p0 => h.2.1 | .p1 => h.2.2.1, h.2.2.2⟩

/-- A bus that `State.recordBuses` does not list is held nowhere. -/
theorem heldNowhere_of {s : State} {b : Nat} {here : Resource} (h : b ∉ s.recordBuses) (r : VisitRecord) (hb : r.bus = b) :
    ¬ s.holdsElsewhere r here :=
  fun hh => h (hb ▸ State.mem_recordBuses_of_holdsElsewhere hh)

/-- An EXPECTED entry of a bus elsewhere is the only one where every other entry of it is no EXPECTED one. -/
theorem expectedOnce_of {s : State} {here : Resource} {r : VisitRecord}
    (h : ∀ e ∈ s.point0.queue ++ s.point1.queue, e.state = .expected → e.visit.bus = r.bus → e.visit = r)
    (hl : ∀ e ∈ s.laneEntries, e.state = .expected → e.visit.bus = r.bus → e.visit = r) (r' : VisitRecord)
    (hb : r'.bus = r.bus) : s.expectsElsewhere r' here → r' = r := by
  rintro (⟨p, -, x, hx, hs, rfl⟩ | ⟨n, l, -, hn, x, hx, hs, rfl⟩)
  · exact h x (by cases p; exacts [List.mem_append_left _ hx, List.mem_append_right _ hx]) hs hb
  · exact hl x (List.mem_flatMap.2 ⟨l, List.mem_of_getElem? hn, hx⟩) hs hb

/-! ## Well-formed and ill-formed commands -/

theorem test_wellFormed_accepts :
    wellFormed (.poll (frame .poll 0 3 [])) = true ∧ wellFormed (.bidWindowEnd ⟨5, 22⟩) = true ∧
    wellFormed (.rxOctetRejected (.start 0x00#8)) = true := by decide +kernel

theorem test_wellFormed_refuses_short_memory : wellFormed (.configReadEnd 3#4 []) = false := by decide +kernel

theorem test_wellFormed_refuses_order_with_repeats :
    wellFormed (.minuteEvent [.lanes, .lanes]) = false ∧
    wellFormed (.time (frame .time 0 15 [0, 0, 0, 0, 0]) [.lanes, .lanes]) = false := by decide +kernel

theorem test_wellFormed_refuses_bus_out_of_range :
    wellFormed (.dutyWaitExpiry 0) = false ∧ wellFormed (.expectedTimeout 10000) = false ∧
    wellFormed (.recordDeadline 0) = false ∧ wellFormed (.runLate 10000) = false := by decide +kernel

theorem test_wellFormed_refuses_frame_of_another_kind :
    wellFormed (.duty (frame .poll 0 3 [])) = false ∧ wellFormed (.otherFrame (frame .poll 0 3 [])) = false := by
  decide +kernel

theorem test_wellFormed_refuses_control_of_another_action :
    wellFormed (.closeLane (frame .control 0 3 [0, 0])) = false ∧ wellFormed (.restart (frame .control 0 3 [4, 0])) = false := by
  decide +kernel

theorem test_wellFormed_refuses_long_payload :
    wellFormed (.otherFrame (frame .report 5 0 (List.replicate 41 0))) = false := by decide +kernel

theorem test_wellFormed_refuses_kind_octet_without_bit_7 :
    wellFormed (.otherFrame { frame .report 5 0 [] with kindOctet := 0x6A#8 }) = false := by decide +kernel

theorem test_wellFormed_refuses_tag_out_of_range :
    wellFormed (.bidWindowEnd ⟨0, 1⟩) = false ∧ wellFormed (.takeMarkEnd ⟨15, 1⟩) = false ∧
    wellFormed (.takeMarkEnd ⟨5, 0⟩) = false ∧ wellFormed (.bidWindowEnd ⟨5, 256⟩) = false := by decide +kernel

theorem test_wellFormed_refuses_count_past_the_round : wellFormed (.transmitStart 48) = false := by decide +kernel

theorem test_wellFormed_refuses_octet_that_is_kept :
    wellFormed (.rxOctetRejected (.start 0xC3#8)) = false ∧ wellFormed (.rxOctetRejected (.kind 0x80#8)) = false ∧
    wellFormed (.rxOctetRejected (.length 40#8)) = false := by decide +kernel

/-! ## Formats -/

/-- The table of kind octets (section 11.2). -/
theorem test_kind_octets :
    (List.range 16).map kindOctet =
      [0x80#8, 0x8B#8, 0x95#8, 0x9E#8, 0xA6#8, 0xAD#8, 0xB3#8, 0xB8#8, 0xC7#8, 0xCC#8, 0xD2#8, 0xD9#8, 0xE1#8, 0xEA#8,
        0xF4#8, 0xFF#8] := by decide +kernel

/-- A TAKE with bit 5 of its kind octet inverted is read as a TAKE (section 9.8). -/
theorem test_kind_corrected : kindCode 0xE7#8 = some 8 := by decide +kernel

/-- The published check value of the CRC-16 of R177 over the nine ASCII digits. -/
theorem test_crc16_check_value :
    crc16 [0x31#8, 0x32#8, 0x33#8, 0x34#8, 0x35#8, 0x36#8, 0x37#8, 0x38#8, 0x39#8] = 0x29B1#16 := by decide +kernel

/-- The published check value of the CRC-8 of section 11.7 over the nine ASCII digits. -/
theorem test_crc8_check_value :
    crc8 [0x31#8, 0x32#8, 0x33#8, 0x34#8, 0x35#8, 0x36#8, 0x37#8, 0x38#8, 0x39#8] = 0xF4#8 := by decide +kernel

/-- The two conversions of the worked examples of section 1.6. -/
theorem test_wall_minutes :
    [1085, 810].map (convertWall .back 840) = [1145, 870] ∧
    [839, 850, 900, 1085, 1439].map (convertWall .forward 840) = [839, 840, 840, 1025, 1379] := by decide +kernel

/-! ## Worked examples of the manual -/

/-- The lanes of section 3.9. -/
def exampleLanes : List Lane :=
  [lane [entry (bound 1101 1 1020) .parked, entry (bound 2288 2 1050) .parked],
   lane [entry { bound 3390 3 1110 with cls := 5 } .parked], lane []]

/-- Lane 1 is cheapest at 35 for bus 4117, and lane 0 at 70 for bus 5020 once 4117 stands TENTATIVE (section 3.9). -/
theorem test_berth_prices :
    (List.range 3).map (node 622 exampleLanes |>.berthPrice (bound 4117 215 1145)) = [some (95, 21), some (35, 8), some (90, 47)] ∧
    (node 622 exampleLanes).berthBid (bound 4117 215 1145) = some (1, 35) ∧
    ((node 622 exampleLanes).modLane 1 (fun l => { l with entries := l.entries ++ [entry (bound 4117 215 1145) .tentative] })).berthBid
      { bound 5020 131 1120 with cls := 1 } = some (0, 70) := by decide +kernel

/-- The fuel point of section 5.9 at m = 600. -/
def exampleFuel : State :=
  { node 600 [] with
    point0 :=
      { busyPoint image.point0
          [queued { spare 3302 with cls := 5, fuelLevel := 30, next := .fuel, washRequest := .full } .serving,
           queued { spare 2288 with fuelLevel := 35, next := .fuel } .expected] with rate := 42 } }

/-- The fuel point bids 614 for bus 4117 (section 5.9). -/
theorem test_fuel_bid :
    exampleFuel.fuelBid .p0 { bound 4117 215 1145 with next := .fuel } = some 614 ∧
    ceilDiv (400 * 70) 100 = 280 ∧ neededLitres image { spare 2288 with fuelLevel := 35 } = 195 := by decide +kernel

/-- The rate stays 42 after a qualifying minute of 4300 pulses (section 5.9). -/
theorem test_rate_estimate : newRate 42 4300 100 = 42 := by decide +kernel

/-- The washing lane of section 6.8 at m = 703. -/
def exampleWash : State :=
  { node 703 [] with
    point1 := washing
      [queued { spare 5501 with washRequest := .rinse, next := .wash } .serving,
       queued { spare 3302 with washRequest := .full, next := .wash } .waiting] 10 }

/-- Bus 4450 of section 6.8. -/
def bus4450 : VisitRecord := { bound 4450 9 1145 with washRequest := .full, next := .wash, washOutcome := none }

/-- The washing lane bids 713, and 773 with a staged stencil whose place 0 is RINSE-ONLY (section 6.8). -/
theorem test_wash_bid :
    exampleWash.washBid .p1 bus4450 = some 713 ∧
    (exampleWash.modPoint .p1 (fun v =>
      { v with staged := some #v[false, true, true, true, false, true, true, false, true, true, false, true] })).washBid .p1 bus4450
      = some 773 := by decide +kernel

/-- Node 5's lanes of section 7.7 bid 30 with bus 4401 for run 305, and node 3 makes no bid of its own. -/
theorem test_swap_bid :
    ({ node 1050 [lane [entry (bound 4401 330 1120) .parked], lane [entry { bound 4420 340 1130 with cls := 5 } .parked],
        lane [entry (spare 4410) .parked]] with
      clock := { m := 1050, shift := .none, change := 840, isSet := true, running := true } }).swapBid
        { run := 305, cls := 2, wall := some 1060, departure := 1060, need := 1090 }
      = some (0, 30, { bus := 4401, run := 330, wall := some 1060, departure := 1120 }) := by decide +kernel

/-! ## One step of each family -/

/-- The patterns of R164 and R186 at the edges of their phases, and the bits of one transfer (R194, section 11.8). -/
theorem test_output_pins :
    [Lamp.blocked.isLit 4, Lamp.blocked.isLit 5, Lamp.blocked.isLit 10, Lamp.closed.isLit 1, Lamp.closed.isLit 2,
      Lamp.closed.isLit 19, Lamp.closed.isLit 20, Lamp.wink.isLit 0, Lamp.wink.isLit 1, Lamp.call.isLit 7]
      = [true, false, true, true, false, false, true, true, false, true] ∧
    (GuideCodes.bits { gate := .hold, point0 := .blank, point1 := .blank }).take 8
      = [false, false, false, false, true, true, true, false] := by decide +kernel

theorem test_powerOn_blank_transfer :
    runs .powerOn (node 600 exampleLanes) (fun t => decide (t.field.transfer = some GuideCodes.blank) && t.lanes.isEmpty)
      = true := by decide +kernel

theorem test_resetAssert_holds : runs .resetAssert (node 600 []) (fun t => t.loader.resetHeld) = true := by decide +kernel

/-- An empty memory (all octets 0xFF) sums to 128 modulo 256, so it is refused (R183). -/
theorem test_configReadEnd_unanswered :
    runs (.configReadEnd 3#4 []) State.reset (fun t => decide (t.loader.node = .configFault)) = true := by decide +kernel

/-- A memory of zeros sums to 0, and its values are clamped (R184). -/
theorem test_configReadEnd_zeros :
    runs (.configReadEnd 3#4 (List.replicate 128 (some 0#8))) State.reset (fun t =>
      decide (t.loader.node = .waitingTime) && decide (t.loader.address = 3) && decide (t.image.threshold = 50)) = true := by
  decide +kernel

/-- The first TIME of section 1.6: m = 360, slot 12, IN SERVICE. -/
theorem test_time_sets_clock :
    runs (.time (frame .time 0 15 [0x01, 0x68, 0x00, 0x03, 0x48]) [])
      { node 0 [] with loader := { (node 0 []).loader with node := .waitingTime }, clock := State.reset.clock } (fun t =>
        decide (t.clock = { m := 360, shift := .none, change := 840, isSet := true, running := true }) &&
        decide (t.timeline.begun = some 12) && decide (t.loader.node = .inService)) = true := by decide +kernel

/-- The shift announced at m = 600 reconverts wall minute 1085 to 1145 (section 1.6). -/
theorem test_time_reconverts :
    runs (.time (frame .time 0 15 [0x02, 0x58, 0xC4, 0x03, 0x48]) [])
      { node 600 [lane [entry { bound 4117 215 1085 with duty := { (bound 4117 215 1085).duty with wall := some 1085 } } .parked]] with
        clock := { m := 600, shift := .none, change := 840, isSet := true, running := true } } (fun t =>
        decide (t.visits.map (fun r => r.duty.departure) = [1145])) = true := by decide +kernel

/-- Run 215 moves from bus 4117 to bus 4120, pinned (section 1.6). -/
theorem test_duty_moves_a_run :
    runs (.duty (frame .duty 0 15 [0x10, 0x18, 0x00, 0xD7, 0x04, 0x3D, 0x01]))
      (node 700 [lane [entry (bound 4117 215 1145) .parked, entry (spare 4120) .parked]]) (fun t =>
        decide (t.visits.map (fun r => (r.duty.run, r.duty.departure, r.duty.pinned)) = [(0, 1499, false), (215, 1145, true)]))
      = true := by decide +kernel

/-- A binding of a held bus whose wall minute 850 falls in the hour that the spring night leaves out is reported with the change
minute; one of a bus the node does not hold is not (R10). -/
theorem test_duty_adjusted :
    let s := { node 600 [lane [entry (spare 4117) .parked]] with
      clock := { m := 600, shift := .forward, change := 840, isSet := true, running := true } }
    runs (.duty (frame .duty 0 15 [0x10, 0x15, 0x00, 0xD7, 0x03, 0x52, 0])) s (fun t =>
      decide (t.loader.reports.map (fun r => r.body) = [.timeAdjusted 4117 215 850 840])) = true ∧
    runs (.duty (frame .duty 0 15 [0x10, 0x16, 0x00, 0xD7, 0x03, 0x52, 0])) s (fun t => t.loader.reports.isEmpty) = true := by
  decide +kernel

/-- A rollover begins the day at 0 and unbinds every record (section 1.6). -/
theorem test_rollover :
    runs (.minuteEvent []) (node 1499 [lane [entry (bound 7 77 1475) .called]]) (fun t =>
      decide (t.clock.m = 0) && decide (t.clock.shift = .none) &&
      decide (t.visits.map (fun r => (r.duty.run, r.duty.departure)) = [(0, 1499)]) &&
      decide (t.loader.reports.map (fun r => r.body) = [.late 7 77 1475 (.at (.lane 0)) true])) = true := by decide +kernel

/-- Bus 5020 stays AWAITED at 600 and becomes SPARE at 601 (section 1.6). -/
theorem test_duty_wait :
    let s := withItems [item (.visit { spare 5020 with gateMinute := 596, duty := Duty.awaited }) 1499] (node 600 [])
    runs (.dutyWaitExpiry 5020) s (fun t => decide (t.visits.map (fun r => r.duty.state) = [.awaited])) = true ∧
    runs (.minuteEvent []) s (fun t => decide (t.visits.map (fun r => r.duty.state) = [.spare])) = true := by
  decide +kernel

/-- The stray 7004 of section 3.9 overfills lane 0 and is placed in front of the EXPECTED bus. -/
theorem test_stray_overfills :
    runs (.tagReport (tag 5 7004 7 40 0) 1000)
      (node 645 [lane [entry (bound 1101 1 1020) .parked, entry (bound 2288 2 1050) .parked, entry (bound 6230 140 1080) .expected],
        lane [], lane []]) (fun t =>
        decide (t.laneEntries.map (fun e => (e.visit.bus, e.recordAwaited)) =
          [(1101, none), (2288, none), (7004, some 665), (6230, none)]) &&
        decide (t.loader.reports.map (fun r => r.body) =
          [.stray 7004 (.lane 0) .awaited, .overfull 0 7004 65 60 false]) &&
        decide (t.lanes.map (fun l => l.overfull) = [true, false, false])) = true := by decide +kernel

/-- Heads at minute 700 that a bus read again at the entry moves behind a due one: the due one is called in that event where
the hold of a SWAP bid ends (R134, R145), and not where the node's own offer, which stays open, kept the ASKING head from its
call (R131, R142). -/
theorem test_moved_head :
    let first := entry (bound 4401 330 690) .parked
    let l := fun (e : LaneEntry) => [lane [e, entry (bound 4402 331 690) .parked]]
    let h : HeadFields := { bus := 4401, run := 330, wall := some 630, departure := 690 }
    let states : State → List (Nat × LaneEntryState) := fun t => t.laneEntries.map (fun e => (e.visit.bus, e.state))
    runs (.tagReport (tag 5 4401 2 40 0) 50)
      (withBids [{ bidFor ⟨7, 90⟩ 0 30 .sent with stage := .swap, copy := none, head := some h }] (node 700 (l first)))
      (fun t => decide (states t = [(4402, .called), (4401, .parked)])) = true ∧
    runs (.tagReport (tag 5 4401 2 40 0) 50)
      (offering (openOffer 22 .bidding (.swapRun 330)) (withItems
        [item (.swap { run := 330, cls := 2, wall := some 630, departure := 690, need := 700 }) 600]
        (node 700 (l { first with ask := .asking }))))
      (fun t => decide (states t = [(4402, .parked), (4401, .parked)])) = true := by decide +kernel

/-- The RECORD for bus 7004 (section 3.9), as node 9 sends it. -/
theorem test_record_fills_the_stray :
    runs (.record (frame .record 9 3 { bound 7004 302 980 with cls := 7 }.octets))
      (node 646 [lane [{ entry { spare 7004 with cls := 7, stray := true, next := .parked } .parked with recordAwaited := some 665 }]])
      (fun t => decide (t.laneEntries.map (fun e => (e.visit.duty.run, e.visit.duty.wall, e.visit.duty.departure, e.recordAwaited))
        = [(302, some 920, 980, none)])) = true := by decide +kernel

/-- Bus 2502 asks for a swap with need 1090 at minute 1050 (section 7.7). -/
theorem test_blocked_run_asks :
    runs (.minuteEvent [])
      { node 1049 [lane [entry (bound 2501 310 1090) .parked, entry (bound 2502 305 1060) .parked]] with
        clock := { m := 1049, shift := .none, change := 840, isSet := true, running := true } } (fun t =>
        decide (t.hand.outbound.map (fun i => (i.cargo, i.ready)) =
          [(.swap { run := 305, cls := 2, wall := some 1000, departure := 1060, need := 1090 }, 1050)]) &&
        decide (t.laneEntries.map (fun e => e.ask) = [.none, .asking])) = true := by decide +kernel

/-- Pinned run 221 is BLOCKED at 1065 and LATE at 1076 (section 7.7). -/
theorem test_pinned_run_is_blocked_then_late :
    let pinned := entry { bound 3602 221 1075 with duty := { (bound 3602 221 1075).duty with pinned := true } } .parked
    runs .callTimeDue (node 1065 [lane [entry (bound 3601 220 1100) .parked, pinned]]) (fun t =>
      decide (t.loader.reports.map (fun r => r.body) = [.blocked 3602 221 0 1075 .pinned]) &&
      decide (t.field.lamps[0] = .blocked)) = true ∧
    runs (.runLate 3602) (node 1076 [lane [entry (bound 3601 220 1100) .parked, pinned]]) (fun t =>
      decide (t.lateRuns = [221]) &&
      decide (t.loader.reports.map (fun r => r.body) = [.late 3602 221 1075 (.at (.lane 0)) false])) = true := by
  decide +kernel

/-- DONE completes the rinse of bus 5501, which goes to its berth, and the pointer becomes 11 (section 6.8). -/
theorem test_done_completes :
    runs (.debounceComplete (.machineA .p1)) (pinAt (.occupied .p1) true true false (pinAt (.machineA .p1) true false true exampleWash))
      (fun t => decide (t.point1.pointer = 11) && decide (t.point1.startOutput = .off) && decide (t.point1.state = .clearing) &&
        decide (t.hand.outbound.map (fun i => (i.cargo.stage, i.place)) = [(.berth, some (.point .p1))])) = true := by
  decide +kernel

/-- A gate read makes a record for FUEL below the threshold and announces it (R19, R158). -/
theorem test_gate_read :
    runs (.tagReport (tag 0 4117 2 40 2) 5) (node 392 []) (fun t =>
      decide (t.visits.map (fun r => (r.bus, r.next, r.duty.state, r.gateMinute)) =
        [(4117, .fuel, .awaited, 392), (4117, .fuel, .awaited, 392)]) &&
      decide (t.line.transmit.map (fun f => f.body.kind) = [.arrive, .offer])) = true := by decide +kernel

/-- CLOSE_LANE for a lane, OPEN_LANE and CLEAR_POINT for a point (R67, R107, R108). -/
theorem test_controls :
    runs (.closeLane (frame .control 0 3 [1, 0])) (node 600 [lane []]) (fun t =>
      decide (t.lanes.map (fun l => l.state) = [.closed]) && decide (t.field.lamps[0] = .closed)) = true ∧
    runs (.openLane (frame .control 0 3 [0, 8])) { node 600 [] with point0 := { Point.powerOn image.point0 with closed := true } }
      (fun t => !t.point0.closed) = true ∧
    runs (.clearPoint (frame .control 0 3 [2, 8])) { node 600 [] with point0 := { Point.powerOn image.point0 with state := .fault } }
      (fun t => decide (t.point0.state = .idle)) = true := by decide +kernel

/-- A frame of class NORMAL at address 3 starts at count 19 of the round (section 9.2). -/
theorem test_transmit_slot :
    let s := withFrames [tx (.stray 7 (.lane 0)) 1, tx (.record (spare 5)) 0]
      { node 600 [] with line := { (node 600 []).line with phase := .quiet, deferral := some 0 } }
    runs (.transmitStart 19) s (fun t => !t.isSending) = true ∧
    runs (.transmitStart 3) s (fun t => t.isSending && decide (t.line.sent.take 4 = [0xC3#8, 0xCC#8, 0x3F#8, 0x03#8])) = true := by
  decide +kernel

/-- A bus that waits for the one before it to join does not start at 600, the first minute of a slot staged SHUT, in
whichever order the blocks take the minute event (R79, R80). -/
theorem test_start_asks_the_slot_of_its_minute :
    let s := { node 599 [] with
      point0 := { Point.powerOn image.point0 with
        state := .clearing, served := some 77, left := true
        queue := [{ queued (spare 77) .finished with justServed := true }, queued { spare 78 with next := .fuel } .waiting] }
      timeline := { (node 599 []).timeline with
        table0 := { (node 599 []).timeline.table0 with staged := (node 599 []).timeline.table0.staged.set 20 (some .shut) } } }
    ∀ order ∈ [[Owner.timeline], [.point .p0]], runs (.minuteEvent order) s (fun t =>
      decide (t.point0.state = .idle) && decide (t.point0.queue.map (fun e => e.visit.bus) = [78])) = true := by decide +kernel

/-- A FINISHED stray of a fuel point asks at every minute event, its RECORD awaited or not (R21, R102). -/
theorem test_fuel_stray_asks :
    runs (.joinRetry .p0)
      { node 600 [] with point0 := { Point.powerOn image.point0 with
          queue := [{ queued { spare 77 with next := .wash } .finished with recordAwaited := some 620 }] } }
      (fun t => t.point0.queue.isEmpty && decide (t.hand.outbound.length = 1)) = true := by decide +kernel

/-- A bus whose claim is open, read at the exit of a washing lane in FAULT, is SKIPPED and joins for its berth only when its
RECORD comes (R20, R119, R121, R124). -/
theorem test_faulted_exit_waits_for_record :
    let claim := { queued { spare 4118 with next := .wash, washOutcome := none } .tentative with tag := some ⟨5, 8⟩ }
    let s := { node 600 [] with point1 := { Point.powerOn image.point1 with state := .fault, queue := [claim] } }
    runs (.tagReport (tag 4 4118 2 40 0) 100) s (fun t => t.hand.outbound.isEmpty &&
      decide (t.point1.queue.map (fun e => (e.state, e.visit.washOutcome, e.visit.next)) = [(.finished, some .skipped, .berth)]) &&
      runs (.joinRetry .p1) t (fun u => decide (u.point1.queue.length = 1)) &&
      runs (.record (frame .record 5 3 { spare 4118 with next := .wash, washOutcome := none }.octets)) t (fun u =>
        u.point1.queue.isEmpty && decide (u.hand.outbound.map (fun i => i.key) = [.bus 4118]))) = true := by decide +kernel

/-- A RECORD that keeps the run of an ASKING entry and pins it ends the asking (R15; log entry 58). -/
theorem test_record_pins_a_run :
    let r := { bound 7004 302 980 with duty := { (bound 7004 302 980).duty with pinned := true } }
    runs (.record (frame .record 9 3 r.octets))
      (node 646 [lane [entry (spare 8) .parked,
        { entry (bound 7004 302 980) .parked with recordAwaited := some 665, ask := .asking }]])
      (fun t => decide (t.laneEntries.map (fun e => (e.visit.duty.pinned, e.ask)) = [(false, .none), (true, .none)])) = true := by
  decide +kernel

/-- A DUTY that pins the run of an ASKING entry ends the asking, though a RECORD had pinned it before (R37, R130). -/
theorem test_duty_pins_again :
    let e := { asker with visit := { asker.visit with duty := { asker.visit.duty with pinned := true } } }
    runs (.duty (frame .duty 0 15 [9, 198, 1, 49, 3, 232, 1]))
      { swapHolder .bidding 1 with lanes := [lane [entry (bound 2501 310 1090) .parked, e]] } (fun t =>
        decide (t.laneEntries.map (fun x => (x.visit.duty.run, x.visit.duty.pinned, x.ask)) = [(310, false, .none), (305, true, .none)]) &&
        t.hand.outbound.isEmpty && decide (t.hand.offer = none)) = true := by decide +kernel

/-- A SWAP bid goes when its head is removed from its lane, though the bus is parked at the head of another (R145). -/
theorem test_swap_bid_follows_its_lane :
    let h : HeadFields := { bus := 4401, run := 330, wall := some 630, departure := 690 }
    let s := withBids [{ bidFor ⟨7, 90⟩ 0 30 .sent with stage := .swap, copy := none, head := some h }]
      (node 600 [lane [entry (bound 4401 330 690) .parked], lane [entry (spare 4401) .expected]])
    runs (.tagReport (tag 7 4401 2 40 0) 5) s (fun t => t.hand.bids.isEmpty &&
      decide (t.lanes.map (fun l => l.entries.map (fun e => e.visit.bus)) = [[], [4401]])) = true := by decide +kernel

/-- A DUTY that pins a lane head with the run and departure it has drops the SWAP bid that names it and ends the take mark on
it, where one that leaves it free keeps both (R15; log entry 57). -/
theorem test_duty_pins_a_head :
    let h : HeadFields := { bus := 4401, run := 330, wall := some 690, departure := 690 }
    let e := { entry { bound 4401 330 690 with duty := { (bound 4401 330 690).duty with wall := some 690 } } .parked with
      mark := some { tag := ⟨7, 91⟩, run := 2, wall := some 620, departure := 620, value := 30 } }
    let s := withBids [{ bidFor ⟨7, 90⟩ 0 30 .sent with stage := .swap, copy := none, head := some h }] (node 600 [lane [e]])
    ∀ x ∈ [(1, 0, none), (0, 1, e.mark)], runs (.duty (frame .duty 0 15 [0x11, 0x31, 0x01, 0x4A, 0x02, 0xB2, octet x.1])) s (fun t =>
      decide (t.hand.bids.length = x.2.1) && decide (t.laneEntries.map (fun y => (y.visit.duty.run, y.mark)) = [(330, x.2.2)])) = true := by
  decide +kernel

/-- A second PARKED entry of a run does not join its request while that of the first stands (R21; log entry 52). -/
theorem test_second_request_of_a_run_waits :
    let s := { swapHolder .bidding 1 with lanes := [lane [entry (bound 2501 310 1090) .parked, asker],
      lane [entry (bound 2503 311 1095) .parked, entry (bound 2504 305 1060) .parked]] }
    runs .callTimeDue s (fun t => decide (t.hand.outbound.map OutItem.key = [.swapRun 305]) &&
      decide (t.laneEntries.map (fun e => e.ask) = [.none, .asking, .none, .none])) = true := by decide +kernel

/-- A soft restart binds every take mark, one whose head carried the run just bound too (R151, R182). -/
theorem test_restart_binds_every_mark :
    let mark := fun (n run : Nat) => some ({ tag := ⟨7, n⟩, run := run, wall := some 1000, departure := 1060, value := 30 } : TakeMark)
    runs (.restart (frame .control 0 3 [3, 0]))
      (node 600 [lane [{ entry (bound 11 1 1200) .parked with mark := mark 90 2 }],
        lane [{ entry (bound 12 2 1210) .parked with mark := mark 91 3 }]]) (fun t =>
        decide (t.laneEntries.map (fun e => (e.visit.bus, e.visit.duty.run, e.visit.duty.substituted, e.mark)) =
          [(11, 2, true, none), (12, 3, true, none)])) = true := by decide +kernel

/-- A bus parked under the node's own record, of a longer class than the claim's, is measured with it (R49, R63). -/
theorem test_claim_is_measured :
    let own := { item (.visit { spare 4118 with cls := 7, next := .berth }) 600 with place := none }
    let claim := { entry (spare 4118) .expected with tag := some ⟨5, 8⟩ }
    let s := withItems [own] (node 600 [lane (List.replicate 3 (entry (spare 1) .parked) ++ [claim])])
    runs (.tagReport (tag 5 4118 2 40 0) 5)
      { s with loader := { s.loader with image := { image with laneLength := #v[52, 40, 60, 20, 20, 20] } } } (fun t =>
        decide ((t.lanes.map (fun l => (l.entries.map (fun e => e.visit.cls), l.overfull))) = [([2, 2, 2, 7], true)])) = true := by
  decide +kernel

/-- A count of the deferral round begins once (R171). -/
theorem test_transmit_slot_begins_once :
    let s := withFrames [tx (.stray 7 (.lane 0)) 0]
      { node 600 [] with line := { (node 600 []).line with phase := .quiet, deferral := some 4 } }
    runs (.transmitStart 3) s (fun t => !t.isSending && decide (t.line.deferral = some 4)) = true := by decide +kernel

/-- A PLAN with a count of 0 and a stencil stages the stencil of the washing lane (section 6.8). -/
theorem test_plan_stages_a_stencil :
    runs (.plan (frame .plan 0 3 ([1, 0, 0] ++ List.replicate 14 0#8 ++ [0, 0x76, 0xD0]))) (node 708 []) (fun t =>
      decide (t.point1.staged = some #v[false, true, true, true, false, true, true, false, true, true, false, true])) = true := by
  decide +kernel

/-- A POLL places a SUMMARY, and its REPORT frame goes to the office station (R188, R189). -/
theorem test_poll_summary :
    runs (.poll (frame .poll 0 15 [])) (node 600 [lane []]) (fun t =>
      decide (t.loader.reports.map (fun r => r.body) = [.summary (node 600 [lane []]).summary]) &&
      decide (t.line.transmit.map (fun f => (f.destination, f.body.kind)) = [(0, .report)])) = true := by decide +kernel

/-- An idle block stays as it is, and no row of the table has bits (log entries 4 and 5). -/
theorem test_step_idles : step State.reset = .next State.reset ∧ State.reset.withFetchWord 8 0 = State.reset :=
  ⟨rfl, rfl⟩

/-- A step takes the command at the front of the queue. -/
theorem test_step_runs_the_front :
    step ((node 600 []).withPending [.lineJam, .lineQuiet]) = exec .lineJam ((node 600 []).withPending [.lineQuiet]) := rfl

/-! ## Witnesses of the statements' hypotheses -/

/-- Busy examples of the node, one for each kind of hypothesis. -/
def yard : State := node 600 exampleLanes

/-- Bus 4117 EXPECTED in lane 0 and CALLED bus 9 in lane 1. -/
def handoverLanes : List Lane :=
  [lane [{ entry (spare 4117) .expected with tag := some ⟨5, 9⟩, value := some 40, deadline := some 590 }],
   lane [entry (bound 9 90 700) .called]]

/-- A bid and an EXPECTED entry of tag (5, 9), and a TENTATIVE entry of tag (5, 8) with its bid. -/
def bidder : State :=
  withBids [bidFor ⟨5, 9⟩ 4117 40 .taken, { bidFor ⟨5, 8⟩ 4118 30 .sent with heard := [(30, 3), (31, 9)] },
      { bidFor ⟨5, 7⟩ 4119 30 .sent with heard := [(29, 9)] }, bidFor ⟨5, 6⟩ 4120 30 .computed]
    (node 600 [lane [{ entry (spare 4118) .tentative with tag := some ⟨5, 8⟩, value := some 30 },
      { entry (spare 4117) .expected with tag := some ⟨5, 9⟩, value := some 40, deadline := some 620 }], lane []])

/-- The node with these queues at its fuel point and its washing lane. -/
def withQueues (fuel wash : List QueueEntry) (s : State) : State :=
  { s with
    point0 := { Point.powerOn image.point0 with queue := fuel }
    point1 := { Point.powerOn image.point1 with queue := wash } }

/-- The node as the holder of an offer of bus 77. -/
def holder (ph : OfferPhase) : State :=
  offering (openOffer 22 ph (.bus 77)) (withItems [{ item (.visit (spare 77)) 600 with offerCount := 1, lastNumber := 22 }] yard)

/-- A TAKE of node 5 for bus 77 of the offer (3, 22), at lane 1. -/
def take77 : RxFrame := frame .take 5 15 [3, 22, 0, 77, 0, 40, 1]

theorem witness_StepRunsTheFrontCommand : State.reset.pending = [] := rfl

theorem witness_FewCommandsSetClockAndNode :
    (∃ t, exec .lineJam yard = .next t) ∧ setsClock .lineJam = false ∧ setsNode .lineJam = false := ⟨⟨_, rfl⟩, rfl, rfl⟩

/-- A step of each invariant's kind: a minute event, on nodes that meet all five. -/
theorem witness_StepsKeepTheInvariants :
    (yard.withPending [.minuteEvent []]).clock.inRange ∧ (yard.withPending [.minuteEvent []]).withinCapacity ∧
    (yard.modLane 0 id).lampsInStep ∧ (withFrames [tx (.stray 7 (.lane 0)) 1, tx (.record (spare 5)) 0] yard).line.inOrder ∧
    (withItems [item (.visit (spare 77)) 600, swapItem 600]
      (withQueues [queued (spare 8) .waiting, queued (spare 9) .expected] [] bidder)).entriesDistinct ∧
    ∃ t, step (yard.withPending [.minuteEvent []]) = .next t := by
  refine ⟨by unfold Clock.inRange; decide +kernel, ?_, fun _ => rfl, ?_, entriesDistinct_of (by decide +kernel), ⟨_, rfl⟩⟩
  · refine ⟨by decide +kernel, by decide +kernel, by decide +kernel, by decide +kernel, by decide +kernel, ?_⟩
    intro p
    cases p <;> decide +kernel
  · unfold Line.inOrder TxFrame.ahead
    decide +kernel

/-- Lanes that show BLOCKED before CALL, CALL before CLOSED, CLOSED and DARK. -/
theorem witness_StepsKeepTheLampsInStep_table :
    let refused := { entry (bound 7 70 700) .parked with ask := .refused }
    let lanes := [lane [entry (spare 8) .called, refused], { lane [entry (spare 9) .called] with state := .closed },
      { lane [entry (spare 10) .parked] with state := .closed }, lane [entry (spare 11) .parked]]
    let s : State := { node 600 lanes with field := { (node 600 lanes).field with lamps := #v[.blocked, .call, .closed, .dark, .dark, .dark] } }
    s.lampsTrue ∧ (∃ e ∈ (lane [entry (spare 8) .called, refused]).entries, e.state = .parked ∧ e.ask = .refused) ∧
    (∀ l ∈ lanes.drop 1, ∀ e ∈ l.entries, e.state = .parked → e.ask ≠ .refused) ∧ s.lanes[4]? = none ∧
    (lanes.map (fun l => (l.entries.any (fun e => decide (e.state = .called)), l.state)))
      = [(true, .opened), (true, .closed), (false, .closed), (false, .opened)] := by
  refine ⟨by unfold State.lampsTrue; decide +kernel, ?_⟩
  decide +kernel

theorem witness_FormatsAreReadBack_record :
    (bound 9999 4095 1499).inRange ∧ (bound 9999 4095 1499).duty.lawful 1500 = true ∧ (bound 9999 4095 1499).next ≠ .parked := by
  refine ⟨⟨by decide, by decide, by decide, by decide, by decide, by decide, ?_, by decide, by decide⟩, by decide, by decide⟩
  intro w h
  cases h
  decide

/-- A SWAP request and a head at the ends of their ranges, and the head of a spare. -/
theorem witness_FormatsAreReadBack_frames :
    let q : SwapRequest := { run := 4095, cls := 7, wall := some 1439, departure := 1499, need := 1499 }
    let h : HeadFields := { bus := 9999, run := 1, wall := some 0, departure := 0 }
    let free : HeadFields := { bus := 1, run := 0, wall := none, departure := 1499 }
    1 ≤ q.run ∧ q.run ≤ 4095 ∧ q.cls ≤ 7 ∧ q.departure < 1500 ∧ q.need ≤ 1499 ∧ 1 ≤ h.bus ∧ h.bus ≤ 9999 ∧ 1 ≤ h.run ∧
    h.departure < 1500 ∧ 1 ≤ free.bus ∧ free.run = 0 ∧ free.wall = none ∧ free.departure = 1499 ∧
    (⟨255, 255⟩ : Tag).holder ≤ 255 ∧ (65535 : Nat) ≤ 65535 := by decide

/-- Frames that R177 accepts and R192 or R193 refuses: an OFFER and a RECORD of bus 0, one with an unlisted wash_request, a
SWAP OFFER of run 4096, a SWAP BID of head bus 10000 and a TAKE for resource 7; and 12 octets of the highest values. -/
theorem witness_FormatsAreReadBack_refused :
    let swap := frame .offer 5 15 [43, 0, 3, 0x10, 0, 2, 2, 188, 3, 32, 2, 188]
    let bid := frame .bid 5 15 [5, 8, 0, 0, 0, 30, 0x27, 0x10, 1, 49, 3, 232, 4, 36]
    let top : List Byte := [0x9C, 0x3F, 0xFF, 0xAE, 0xDC, 0xFF, 0xFD, 0x9F, 0xBB, 0x7E, 0x5F, 0xFC]
    (∀ r ∈ [{ spare 1 with bus := 0 }, { spare 1 with bus := 10000 }],
      yard.accepts (frame .offer 5 15 (FrameBody.offer 43 0 (.visit r)).payload) .offer 5 ∧
      offerFields (FrameBody.offer 43 0 (.visit r)).payload 1500 = none ∧
      yard.accepts (frame .record 5 3 r.octets) .record 5 ∧ visitFields r.octets 1500 = none) ∧
    yard.accepts swap .offer 5 ∧ octetAt swap.payload 2 = 3 ∧ offerFields swap.payload 1500 = none ∧
    yard.accepts bid .bid 5 ∧ bid.payload.length = 14 ∧ bidFields bid.payload 1500 = none ∧
    (∀ code ∈ [6, 7, 10], yard.accepts (frame .take 5 15 [5, 8, 0, 77, 0, 40, code]) .take 5 ∧
      takeFields [5, 8, 0, 77, 0, 40, code] 1500 = none) ∧ yard.clock.dayLength = 1500 ∧
    top.length = 12 ∧ (visitFields top 1500).any (fun r => decide (r.bus = 9999 ∧ r.fuelLevel = 100 ∧ r.litres = 999)) = true ∧
    visitFields (List.replicate 12 0xFF#8) 1500 = none := by decide +kernel

/-- A REPORT with a SUMMARY, sent to the office station by node 3 and read by node 14 as one to every station. -/
theorem witness_SentFramesPassTheChecks :
    let f := tx (.report { sequence := 0, minute := 600, body := .summary yard.summary }) 0
    f.destination = 15 ∧ (3 : Nat) ≤ 14 ∧ (14 : Nat) ≤ 14 ∧ (3 : Nat) ≠ 14 ∧
    (∀ r sum, f.body = .report r → r.body = .summary sum → sum.lanes.length ≤ 6) := by
  refine ⟨by decide, by decide, by decide, by decide, ?_⟩
  intro r sum h h'
  cases h
  cases h'
  decide +kernel

/-- The SUMMARY of a node with three lanes, a fuel point and a washing lane, and that of one with no points. -/
theorem witness_ReportsAreSentByTheirTable :
    let x := yard.summary
    x.lanes.length ≤ 6 ∧ x.m < 65536 ∧ x.change < 65536 ∧ x.outbound ≤ 8 ∧ x.bids ≤ 4 ∧ x.pins.length = 13 ∧
    x.lanes.length = 3 ∧ (∀ l ∈ x.lanes, l.entries ≤ 16 ∧ l.occupied ≤ 511 ∧ l.unconfirmed ≤ 15) ∧
    x.point0.kind ≠ .none ∧ x.point0.queue ≤ 8 ∧ x.point0.gauge ≤ 255 ∧ x.point1.kind ≠ .none ∧ x.point1.queue ≤ 8 ∧
    x.point1.gauge ≤ 255 ∧ State.reset.summary.point0.kind = .none ∧ State.reset.summary.pins.length = 13 := by decide +kernel

theorem witness_KindOctetIsCorrected :
    (0x6A#8).getLsbD 7 = false ∧ (0xE7#8).getLsbD 7 = true ∧ State.reset.loader.resetHeld = false := by decide +kernel

theorem witness_FramesThatReachNoOwner :
    let f := frame .call 5 15 [0, 1, 0, 77, 0, 2, 88, 0]
    frameOf (.otherFrame f) = some f ∧ yard.listens ∧ yard.active = true ∧ yard.accepts f .call 5 ∧
    ¬ State.reset.assertReset.listens ∧ (State.reset.listens ∧ State.reset.active = false) ∧
    rxCheck { f with crc := 0#16 } 3 = .discarded ∧
    rxCheck (frame .call 3 15 [0, 1, 0, 77, 0, 2, 88, 0]) yard.loader.address = .conflict 11 15 ∧
    yard.loader.reports.length < Config.reportCapacity := by decide +kernel

/-- A PLAN given to DUTY's row, and an OPEN_LANE given to CLOSE_LANE's. -/
theorem witness_FramesThatReachNoOwner_rows :
    let g := frame .plan 0 3 ([1, 48, 5] ++ List.replicate 15 0#8)
    let f := frame .control 0 3 [0, 2]
    frameOf (.duty g) = some g ∧ yard.accepts g .plan 0 ∧ rowOf (.duty g) = some (.duty, none) ∧
    frameOf (.closeLane f) = some f ∧ yard.accepts f .control 0 ∧ rowOf (.closeLane f) = some (.control, some .closeLane) ∧
    controlAction f.payload ≠ some .closeLane ∧ rowOf (.otherFrame f) = none := by decide +kernel

/-- A CALL of 8 octets: with a wrong CRC, of kind 14 or 15, with 7 octets, with source 15, from the node itself,
to another node, to the node and to every station; and OFFERs whose length is that of another stage. -/
theorem witness_FramesThatReachNoOwner_checks :
    let call := [0, 1, 0, 77, 0, 2, 88, 0]
    let f := frame .call 5 15 call
    let n : Nat := 3
    crc16 (f.addressOctet :: octet f.payload.length :: f.payload) = f.crc ∧ kindCode f.kindOctet = some 11 ∧
    rxCheck { f with crc := f.crc ^^^ 1#16 } n = .discarded ∧
    (∀ k ∈ [14, 15], kindCode (kindOctet k) = some k ∧ rxCheck { f with kindOctet := kindOctet k } n = .discarded) ∧
    (∀ g ∈ [frame .call 5 15 (call.take 7), frame .call 15 3 call, frame .call 5 4 call,
        frame .offer 5 15 ([43, 0, 3] ++ List.replicate 12 0), frame .offer 5 15 ([43, 0, 2] ++ List.replicate 9 0),
        frame .report 5 15 (List.replicate 6 0), frame .report 5 15 (List.replicate 38 0)], rxCheck g n = .discarded) ∧
    rxCheck (frame .call 3 4 call) n = .conflict 11 4 ∧ rxCheck (frame .call 5 3 call) n = .accepted .call 5 ∧
    rxCheck f n = .accepted .call 5 := by decide +kernel

theorem witness_InactiveNodeActsOnNothing :
    State.reset.assertReset.active = false ∧ State.reset.assertReset.loader.resetHeld = true ∧
    isOwnerCommand .frameHeard = true ∧ isMinuteCommand .callTimeDue = true ∧ State.reset.clock.isSet = false := by
  decide +kernel

theorem witness_ConfigurationReadSetsTheNodeState :
    State.reset.loader.resetHeld = false ∧ State.reset.loader.node = .configuring ∧ 1 ≤ (14#4).toNat ∧ (14#4).toNat ≤ 14 ∧
    (((List.range 128).map (fun i => (((List.replicate 128 (some 0#8) : List (Option Byte))[i]?.join).getD 0xFF#8).toNat)).sum) % 256 = 0 ∧
    (((List.range 128).map (fun i => ((([] : List (Option Byte))[i]?.join).getD 0xFF#8).toNat)).sum) % 256 ≠ 0 := by
  decide +kernel

/-- A RESTART to the node, one to every station and one of another station, at a node with an offer, a frame on the line,
pending entries and a point in FAULT. -/
theorem witness_SoftRestartClearsHandover :
    let mine := frame .control 0 3 [3, 0]
    let all := frame .control 0 15 [3, 0]
    let other := frame .control 5 3 [3, 0]
    let s := withFrames [{ tx (.offer 22 0 (.visit (spare 77))) 0 with sending := true }] (holder .queued)
    let q := withQueues [queued (spare 8) .tentative, queued (spare 9) .expected] [] { s with lanes := handoverLanes }
    s.accepts mine .control 0 ∧ controlAction mine.payload = some .restart ∧ rxDestination mine = s.loader.address ∧
    s.accepts all .control 0 ∧ controlAction all.payload = some .restart ∧ rxDestination all ≠ s.loader.address ∧
    s.accepts other .control 5 ∧ (s.line.transmit.find? (fun y => y.sending)).isSome = true ∧ q.accepts mine .control 0 ∧
    (∃ e ∈ q.laneEntries, e.state = .expected) ∧ (∃ e ∈ (q.point .p0).queue, e.state = .expected) ∧
    (∀ p ∈ [PointId.p0, .p1], ((q.point p).queue.map (fun e => e.visit.bus)).Nodup) ∧
    (∀ e ∈ q.laneEntries, e.mark = none) ∧
    ((yard.modPoint .p0 (fun v => { v with state := .fault })).point .p0).faultPending = false := by decide +kernel

theorem witness_MinuteEventMovesTheClock :
    (node 1498 []).minuteLive = true ∧ (node 1498 []).clock.m + 1 < (node 1498 []).clock.dayLength ∧
    (1498 + 1) % 30 ≠ 0 ∧ (node 599 []).minuteLive = true ∧ (599 + 1) % 30 = 0 ∧
    (node 1499 handoverLanes).minuteLive = true ∧
    (node 1499 handoverLanes).clock.dayLength ≤ (node 1499 handoverLanes).clock.m + 1 ∧
    (node 1499 handoverLanes).inService = true ∧
    ((node 1499 handoverLanes).laneEntries.filter (fun e => decide (e.state = .called) && decide (e.visit.duty.run ≠ 0))).length = 1 ∧
    (node 1499 handoverLanes).loader.reports.length + 1 ≤ Config.reportCapacity := by decide +kernel

/-- Minute 600 begins with a head that is due in it; the Pull-Out Controller's turn is the last of the table's order. -/
theorem witness_MinuteEventReachesTheBlocks :
    let e := entry (bound 7 70 610) .parked
    let s := node 599 [lane [e]]
    let before := (ownerOrder []).takeWhile (fun o => decide (o ≠ .pullOut))
    let u := before.foldl (fun u x => u.ownerMinute (some 20) true x) { s with clock := { s.clock with m := 600 } }
    s.minuteLive = true ∧ s.clock.m + 1 < s.clock.dayLength ∧
    ownerOrder [] = before ++ .pullOut :: (ownerOrder []).drop (before.length + 1) ∧ u.lanes[0]? = some (lane [e]) ∧
    (lane [e]).state ≠ .unknown ∧ e.state = .parked ∧ e.visit.duty.state = .bound ∧
    e.visit.duty.departure ≤ 600 + s.image.callLead ∧ u.headWaits 0 = false ∧ [Owner.lanes, .pullOut].Nodup ∧
    (s.pointImage .p0).kind = .fuel ∧ (s.pointImage .p1).kind = .wash ∧ (State.reset.pointImage .p0).kind = .none := by
  decide +kernel

theorem witness_TimeSetsTheClock :
    let f := frame .time 0 15 [0x02, 0x58, 0xC4, 0x03, 0x48]
    let g := frame .time 0 15 [0x02, 0x58, 0x01, 0x03, 0x48]
    yard.accepts f .time 0 ∧ octetAt f.payload 2 = 196 ∧ yard.accepts g .time 0 ∧
    (octetAt g.payload 2 ≠ 0 ∧ octetAt g.payload 2 ≠ 60 ∧ octetAt g.payload 2 ≠ 196) := by decide +kernel

theorem witness_DeparturesAreReconverted_table :
    (60 ≤ 60 ∧ 60 ≤ 1379 ∧ 1439 ≤ 1439) ∧ (59 < 60 ∧ 60 ≤ 119 ∧ 119 < 60 + 60 ∧ 60 + 60 ≤ 120 ∧ 60 - 60 ≤ 0) ∧
    0 < 61 - 60 := by decide

/-- Two records in the hour a forward shift leaves out, and a TIME of each of the three cases. -/
theorem witness_DeparturesAreReconverted :
    let r := { bound 4117 215 840 with duty := { (bound 4117 215 840).duty with wall := some 850 } }
    let s := { withItems [item (.visit r) 600] (node 600 [lane [entry (bound 7 70 700) .parked]]) with
      clock := { m := 600, shift := .forward, change := 840, isSet := true, running := true } }
    let f := frame .time 0 15 [0x02, 0x58, 0xC4, 0x03, 0x48]
    let later := frame .time 0 15 [0x02, 0x59, 0xC4, 0x03, 0x48]
    s.active = true ∧ s.visits.length = 2 ∧ s.loader.reports.length + s.visits.length ≤ Config.reportCapacity ∧
    (∃ r ∈ s.visits, r.bus = 4117 ∧ r.duty.state = .bound ∧ r.duty.wall = some 850) ∧
    yard.accepts f .time 0 ∧ yard.clock.shift = .back ∧ yard.clock.change = 840 ∧ yard.clock.isSet = true ∧
    yard.clock.m = min (pairAt f.payload 0) 1499 ∧ octetAt f.payload 2 = 196 ∧
    yard.accepts later .time 0 ∧ yard.clock.m ≠ min (pairAt later.payload 0) 1499 ∧
    s.accepts f .time 0 ∧ s.clock.shift ≠ .back := by decide +kernel

theorem witness_TimelineAnswers :
    let shut := fun (s : State) => ({ s with timeline := { s.timeline with
      table0 := { s.timeline.table0 with live := s.timeline.table0.live.set 20 .shut } } } : State)
    yard.timeline.begun = some 20 ∧ yard.timeline.begun ≠ some 21 ∧ (yard.table .p0).stagedAt 21 = none ∧
    1499 < yard.clock.dayLength ∧ yard.clock.dayLength ≤ 1500 ∧ yard.slotState .p0 (1499 / 30) ≠ .shut ∧
    (shut yard).slotState .p0 (629 / 30) = .shut ∧ (shut yard).slotState .p0 21 ≠ .shut ∧
    (shut yard).firstStart .p0 629 = some 630 := by decide +kernel

/-- A PLAN for point 1 that stages slots 48 and 49, and one whose first slot is 50. -/
theorem witness_PlanIsStaged :
    let f := frame .plan 0 3 ([1, 48, 5] ++ List.replicate 15 0#8)
    let g := frame .plan 0 3 ([1, 50, 5] ++ List.replicate 15 0#8)
    yard.accepts f .plan 0 ∧ (planFields f.payload).any (fun x => decide (x.point = 1) && decide (x.first ≤ 49)) = true ∧
    (yard.pointImage .p1).kind ≠ .none ∧
    yard.accepts g .plan 0 ∧ (planFields g.payload).any (fun x => decide (50 ≤ x.first)) = true := by decide +kernel

theorem witness_DutyBindsUnbindsOrIsIgnored :
    let f := frame .duty 0 15 [0x10, 0x15, 0x00, 0xD7, 0x04, 0x3D, 0x01]
    let g := frame .duty 0 15 [0x10, 0x15, 0x00, 0x00, 0x00, 0x00, 0x00]
    let s := node 600 handoverLanes
    s.accepts f .duty 0 ∧ (dutyFields f.payload).any (fun d => decide (d.run = 215) && d.pinned) = true ∧
    s.accepts g .duty 0 ∧ (dutyFields g.payload).any (fun d => decide (d.run = 0)) = true ∧
    ∀ e ∈ s.laneEntries, e.state = .called → e.visit.bus ≠ 4117 ∧ e.visit.duty.run ≠ 215 := by decide +kernel

/-- A wall minute in the hour left out, for a bus the node holds and for one it does not, and one outside that hour. -/
theorem witness_DutyBindsUnbindsOrIsIgnored_adjusted :
    let f := frame .duty 0 15 [0x10, 0x15, 0x00, 0xD7, 0x03, 0x52, 0]
    let s := { node 600 handoverLanes with clock := { m := 600, shift := .forward, change := 840, isSet := true, running := true } }
    s.accepts f .duty 0 ∧ (dutyFields f.payload).any (fun d => decide (d.run = 215) && decide (d.bus = 4117) && decide (d.wall = 850)) = true ∧
    s.clock.shift = .forward ∧ s.clock.change ≤ 850 ∧ 850 < s.clock.change + 60 ∧ ¬ 900 < s.clock.change + 60 ∧
    s.loader.reports.length < Config.reportCapacity ∧ (∃ r ∈ s.visits, r.bus = 4117) ∧ (∀ r ∈ yard.visits, r.bus ≠ 4117) ∧
    yard.accepts f .duty 0 ∧ ∀ e ∈ s.laneEntries, e.state = .called → e.visit.bus ≠ 4117 ∧ e.visit.duty.run ≠ 215 := by
  decide +kernel

theorem witness_DutyBindsUnbindsOrIsIgnored_ignored :
    let s := node 600 handoverLanes
    s.accepts (frame .duty 5 15 [0x10, 0x15, 0, 0xD7, 4, 0x3D, 1]) .duty 5 ∧
    (let f := frame .duty 0 15 [0x27, 0x10, 0, 0xD7, 4, 0x3D, 1]; s.accepts f .duty 0 ∧ 9999 < pairAt f.payload 0) ∧
    (let f := frame .duty 0 15 [0, 1, 0x10, 0x00, 4, 0x3D, 1]; s.accepts f .duty 0 ∧ 4095 < pairAt f.payload 2) ∧
    (let f := frame .duty 0 15 [0, 1, 0, 1, 0x05, 0xA0, 1]; s.accepts f .duty 0 ∧ 1439 < pairAt f.payload 4) ∧
    (let f := frame .duty 0 15 [0, 9, 0, 1, 0, 0, 0]; s.accepts f .duty 0 ∧ ∃ e ∈ s.laneEntries, e.state = .called ∧ e.visit.bus = pairAt f.payload 0) ∧
    (let f := frame .duty 0 15 [0, 1, 0, 90, 0, 0, 0]; s.accepts f .duty 0 ∧ ∃ e ∈ s.laneEntries, e.state = .called ∧ e.visit.duty.run = pairAt f.payload 2) := by
  decide +kernel

/-- Due EXPECTED entries of bus 4117 in a lane and in a queue, an AWAITED record and a RECORD awaited mark. -/
theorem witness_DeadlinesAreTakenAtTheMinute :
    let e := { queued (spare 4117) .expected with deadline := some 600 }
    let s := withQueues [e] [] (node 600 handoverLanes)
    let w := { spare 5020 with gateMinute := 590, duty := Duty.awaited }
    s.minuteLive = true ∧ (s.point .p0).queue = [e] ∧ e.visit.bus = 4117 ∧ e.state = .expected ∧ e.deadline = some 600 ∧
    600 ≤ s.clock.m ∧ (∃ x ∈ s.laneEntries, x.visit.bus = 4117 ∧ x.state = .expected ∧ x.deadline = some 590) ∧
    s.loader.reports.length + 2 ≤ Config.reportCapacity ∧
    w.duty.state = .awaited ∧ w.gateMinute + s.image.dutyWait ≤ s.clock.m ∧
    ({ entry (spare 7004) .parked with recordAwaited := some 600 } : LaneEntry).recordAwaited.any (fun d => decide (d ≤ 600)) = true := by
  decide +kernel

theorem witness_OfferStartsForAReadyHead :
    let it := item (.visit (spare 77)) 600
    let s := withItems [it] yard
    s.inService = true ∧ s.hand.offer = none ∧ s.hand.outbound = [it] ∧ it.ready ≤ s.clock.m ∧ s.canPlace .normal = true ∧
    yard.owesReoffer = false ∧ yard.hand.outbound = [] ∧ (withItems [item (.visit (spare 77)) 601] yard).clock.m < 601 := by
  decide +kernel

theorem witness_FinishedEntriesAskToJoin :
    let s := { yard with point0 := { Point.powerOn image.point0 with queue := [queued (spare 77) .finished] } }
    let full := withItems (List.replicate 8 (item (.visit (spare 1)) 0)) s
    s.minuteLive = true ∧ ((s.point .p0).queue.map (fun e => e.visit.bus)).Nodup ∧
    s.hand.outbound.length + (s.point .p0).queue.length ≤ Config.outboundCapacity ∧
    full.minuteLive = true ∧ Config.outboundCapacity ≤ full.hand.outbound.length ∧ (full.point .p0).state ≠ .clearing := by
  decide +kernel

/-- A bus that the washing lane has passed on, and a FINISHED one of the fuel point, both with a RECORD awaited. -/
theorem witness_FinishedEntriesAskToJoin_records :
    let e := { queued { spare 78 with next := .wash } .finished with recordAwaited := some 620 }
    let s := withQueues [e] [{ e with passedOn := true }] yard
    s.minuteLive = true ∧ (∀ p ∈ [PointId.p0, .p1], ((s.point p).queue.map (fun x => x.visit.bus)).Nodup ∧
      s.hand.outbound.length + (s.point p).queue.length ≤ Config.outboundCapacity) ∧
    (s.point .p0).queue = [e] ∧ (s.point .p1).queue = [{ e with passedOn := true }] ∧
    e.recordAwaited.isSome = true ∧ e.passedOn = false ∧ (s.pointImage .p1).kind = .wash := by decide +kernel

theorem witness_DueHeadIsCalled :
    let e := entry (bound 7 70 610) .parked
    let s := node 600 [lane [e]]
    s.minuteLive = true ∧ s.lanes[0]? = some (lane [e]) ∧ e.visit.duty.state = .bound ∧
    e.visit.duty.departure ≤ s.clock.m + s.image.callLead ∧ s.headWaits 0 = false ∧ s.canPlace .urgent = true := by
  decide +kernel

theorem witness_LateRunIsReportedOnce :
    let s := node 611 [lane [entry (bound 7 70 610) .parked]]
    s.minuteLive = true ∧ s.standings.length = 1 ∧
    (∀ x ∈ s.standings, x.visit.bus = 7 ∧ x.visit.duty.state = .bound ∧ x.visit.duty.departure < s.clock.m ∧
      x.visit.duty.run ∉ s.lateRuns) ∧ s.loader.reports.length < Config.reportCapacity := by decide +kernel

theorem witness_BlockedRunsAskForASwap :
    let e := entry (bound 7 70 610) .parked
    let a := entry (bound 8 80 700) .parked
    let l := lane [a, e]
    let s := node 600 [l]
    let named := withItems [{ item (.swap { run := 70, cls := 2, wall := some 550, departure := 610, need := 700 }) 600 with
      place := none }] s
    s.minuteLive = true ∧ s.lanes[0]? = some l ∧ l.entries = [a] ++ e :: [] ∧ e.ask = .none ∧ (∃ x ∈ [a], x.state ≠ .called) ∧
    (∃ i ∈ named.hand.outbound, i.key = .swapRun e.visit.duty.run) ∧ s.hand.outbound = [] ∧
    (l.entries.map (fun x => x.visit.bus)).Nodup ∧ (∀ x ∈ [a] ++ [], x.isDue s.image.callLead s.clock.m = false) ∧
    e.visit.duty.departure ≤ s.clock.m + s.image.callLead ∧ e.visit.duty.pinned = false ∧
    s.hand.outbound.length < Config.outboundCapacity := by decide +kernel

/-- A pinned run behind another bus, and a run that is not pinned while the outbound list is full. -/
theorem witness_BlockedRunsAskForASwap_pinned :
    let e := entry { bound 7 70 610 with duty := { (bound 7 70 610).duty with pinned := true } } .parked
    let s := node 600 [lane [entry (bound 8 80 700) .parked, e], lane []]
    let full := withItems (List.replicate 8 (item (.visit (spare 1)) 0)) s
    s.minuteLive = true ∧ s.lanes[0]? = some (lane ([entry (bound 8 80 700) .parked] ++ e :: [])) ∧
    e.visit.duty.pinned = true ∧ e.visit.duty.departure ≤ s.clock.m + s.image.callLead ∧
    s.loader.reports.length < Config.reportCapacity ∧ Config.outboundCapacity ≤ full.hand.outbound.length ∧
    (∀ x ∈ (lane []).entries, x.isDue s.image.callLead s.clock.m = false) := by decide +kernel

/-- A fuel service whose nozzle was never lifted at its deadline, and one with three dry minutes. -/
theorem witness_FuelServiceEndsAtItsMinute :
    let e := queued { spare 77 with next := .fuel } .serving
    let s := pinAt (.occupied .p0) true true false { node 606 [] with point0 := busyPoint image.point0 [e] }
    s.minuteLive = true ∧ (s.point .p0).state = .busy ∧
    (s.point .p0).service.any (fun sv => !sv.lifted && decide (sv.deadline ≤ s.clock.m)) = true ∧
    (s.point .p0).serving? = some e ∧ ((s.point .p0).queue.map (fun x => x.visit.bus)).Nodup ∧
    s.level (.occupied .p0) = true ∧ s.hand.outbound.length < Config.outboundCapacity ∧
    3 ≤ (s.modPoint .p0 (fun v => { v with dryMinutes := 3 })).point0.dryMinutes := by decide +kernel

/-- A cycle at its deadline, with a WAITING bus, one that awaits its RECORD and an EXPECTED one behind the washed bus. -/
theorem witness_WashCyclesEndByDoneOrFault_timeout :
    let q := [queued (spare 5501) .serving, queued (spare 3302) .waiting,
      { queued (spare 3303) .waiting with recordAwaited := some 720 }, queued (spare 3304) .expected]
    let s := { exampleWash.setPoint .p1 (washing q 10) with clock := { exampleWash.clock with m := 708 } }
    s.minuteLive = true ∧ (s.point .p1).cycle.any (fun c => decide (c.deadline ≤ s.clock.m)) = true ∧
    ((s.point .p1).queue.map (fun x => x.visit.bus)).Nodup ∧ (s.point .p0).cycle = none ∧
    (exampleWash.point .p1).cycle.any (fun c => decide (exampleWash.clock.m < c.deadline)) = true ∧
    (s.point .p1).serving?.isSome = true ∧ s.hand.outbound.length + (s.point .p1).queue.length ≤ Config.outboundCapacity ∧
    s.loader.reports.length + (s.point .p1).queue.length < Config.reportCapacity := by decide +kernel

theorem witness_StartTestStartsTheFirstWaiting :
    let e := queued { spare 77 with next := .fuel } .waiting
    let w := queued { spare 78 with next := .wash, washRequest := .full } .waiting
    let s := { yard with
      point0 := { Point.powerOn image.point0 with queue := [queued (spare 5) .finished, e] }
      point1 := { Point.powerOn image.point1 with queue := [w] } }
    (s.point .p0).state = .idle ∧ (s.point .p0).queue = [queued (spare 5) .finished] ++ e :: [] ∧ e.state = .waiting ∧
    (∀ x ∈ [queued (spare 5) .finished], x.state ≠ .waiting) ∧ ((s.point .p0).queue.map (fun x => x.visit.bus)).Nodup ∧
    s.timeline.begun ≠ none ∧ s.slotState .p0 (s.clock.m / 30) = .opened ∧ (s.pointImage .p0).kind = .fuel ∧
    0 < ceilDiv (s.image.tankOf e.visit.cls * (100 - e.visit.fuelLevel)) 100 ∧
    (s.point .p1).queue = [] ++ w :: [] ∧ (s.pointImage .p1).kind = .wash ∧ s.level (.machineB .p1) = false ∧
    State.reset.timeline.begun = none ∧ s.slotState .p1 (s.clock.m / 30) = .opened := by decide +kernel

/-- A bus with a full tank at an IDLE fuel point: with room and the bus standing there, with room and the point clear, with
and without a further WAITING bus, and with a full outbound list. -/
theorem witness_StartTestStartsTheFirstWaiting_full_tank :
    let e := queued { spare 77 with next := .fuel, fuelLevel := 100 } .waiting
    let s := fun (back : List QueueEntry) (stands : Bool) =>
      pinAt (.occupied .p0) stands stands false (withQueues (queued (spare 5) .finished :: e :: back) [] yard)
    let full := withItems ((List.range 8).map (fun k => item (.visit (spare (100 + k))) 600)) (s [] true)
    (∀ u ∈ [s [] true, s [] false, s [queued (spare 78) .waiting] false, full],
      (u.point .p0).state = .idle ∧ (u.point .p0).queue.take 2 = [queued (spare 5) .finished] ++ e :: [] ∧ e.state = .waiting ∧
      ((u.point .p0).queue.map (fun x => x.visit.bus)).Nodup ∧ u.timeline.begun ≠ none ∧
      u.slotState .p0 (u.clock.m / 30) = .opened ∧ (u.pointImage .p0).kind = .fuel ∧
      ceilDiv (u.image.tankOf e.visit.cls * (100 - e.visit.fuelLevel)) 100 = 0 ∧ (u.point .p0).startOutput = .off) ∧
    (s [] true).level (.occupied .p0) = true ∧ (s [] false).level (.occupied .p0) = false ∧
    (∀ x ∈ [queued (spare 5) .finished, queued (spare 78) .waiting], x.justServed = false) ∧
    (s [] false).hand.outbound.length < Config.outboundCapacity ∧ Config.outboundCapacity ≤ full.hand.outbound.length := by
  decide +kernel

theorem witness_LaneAndPointControlIsTaken :
    let f := frame .control 0 3 [1, 2]
    let g := frame .control 0 3 [0, 9]
    yard.accepts f .control 0 ∧ octetAt f.payload 1 = 2 ∧ controlAction f.payload = some .closeLane ∧
    yard.lanes[2]? = some (lane []) ∧ (lane []).state = .opened ∧
    yard.accepts g .control 0 ∧ octetAt g.payload 1 = 9 ∧ controlAction g.payload = some .openLane ∧
    (yard.pointImage .p1).kind ≠ .none ∧ yard.level .maintenanceKey = false ∧
    (yard.accepts (frame .control 0 3 [0, 5]) .control 0 ∧ yard.lanes.length ≤ 5) := by decide +kernel

/-- OPEN_LANE and CLOSE_LANE for an unlisted target at each end of the gaps, and CLEAR_POINT for a lane and for one. -/
theorem witness_LaneAndPointControlIsTaken_targets :
    (∀ target ∈ [6, 7, 10, 255], ∀ x ∈ [(0, ControlAction.openLane), (1, .closeLane), (2, .clearPoint)],
      let f := frame .control 0 3 [octet x.1, octet target]
      yard.accepts f .control 0 ∧ octetAt f.payload 1 = target ∧ controlAction f.payload = some x.2) ∧
    (∀ target ∈ [0, 5], let f := frame .control 5 15 [2, octet target]
      yard.accepts f .control 5 ∧ octetAt f.payload 1 = target ∧ controlAction f.payload = some .clearPoint) := by
  decide +kernel

theorem witness_LaneAndPointControlIsTaken_clear :
    let f := frame .control 0 3 [2, 8]
    let s := yard.modPoint .p0 (fun v => { v with state := .fault })
    let c := yard.modPoint .p0 (fun v => { v with state := .clearing })
    s.accepts f .control 0 ∧ controlAction f.payload = some .clearPoint ∧ octetAt f.payload 1 = 8 ∧ (s.point .p0).state = .fault ∧
    (s.pointImage .p0).kind = .fuel ∧ c.accepts f .control 0 ∧ (c.point .p0).state = .clearing ∧ yard.point0.state = .idle := by
  decide +kernel

theorem witness_ReportsAndFramesKeepTheirQueues_poll :
    let f := frame .poll 0 15 []
    let waits : State := { yard with loader := { yard.loader with
      reports := [{ sequence := 0, minute := 0, body := .noClock 1 0 }, { sequence := 1, minute := 0, body := .summary yard.summary }] } }
    yard.accepts f .poll 0 ∧ yard.loader.reports.any yard.waitingSummary = false ∧
    yard.loader.reports.length < Config.reportCapacity ∧ waits.accepts f .poll 0 ∧
    waits.loader.reports.any waits.waitingSummary = true ∧ yard.accepts (frame .poll 5 15 []) .poll 5 := by decide +kernel

/-- A report queue with room, a full one, and a full one whose head is being sent; a transmit queue with room, a full one
of LOW frames and a full one without. -/
theorem witness_ReportsAndFramesKeepTheirQueues :
    let r : Report := { sequence := 0, minute := 0, body := .noClock 1 0 }
    let full := withReports Config.reportCapacity yard
    let sent := withFrames [{ tx (.report r) 0 with sending := true }] full
    let low := withFrames ((List.range Config.transmitCapacity).map (tx (.report r))) yard
    let urgent := withFrames ((List.range Config.transmitCapacity).map (tx (.stray 7 (.lane 0)))) yard
    yard.active = true ∧ State.reset.active = false ∧ yard.loader.reports.length < Config.reportCapacity ∧
    yard.loader.reports = [] ∧ yard.line.transmit.any (fun x => x.body.isReport) = false ∧ yard.canPlace .low = true ∧
    Config.reportCapacity ≤ full.loader.reports.length ∧
    full.line.transmit.any (fun x => x.body.isReport && x.sending) = false ∧
    sent.line.transmit.any (fun x => x.body.isReport && x.sending) = true ∧
    yard.line.transmit.length + yard.line.muted.toList.length < Config.transmitCapacity ∧
    Config.transmitCapacity ≤ low.line.transmit.length + low.line.muted.toList.length ∧
    (tx (.stray 7 (.lane 0)) 0).cls ≠ .low ∧ (∃ x ∈ low.line.transmit, x.cls = .low ∧ x.sending = false ∧
      ∀ y ∈ low.line.transmit, x.order ≤ y.order) ∧
    (∀ x ∈ urgent.line.transmit, x.cls ≠ .low) := by decide +kernel

/-- A BERTH OFFER, a FUEL OFFER and a SWAP OFFER that draw a bid, and a BERTH OFFER of a bus the node holds. -/
theorem witness_OfferDrawsABid :
    let b := bound 4117 215 1145
    let f := frame .offer 7 15 (FrameBody.offer 41 0 (.visit b)).payload
    let w := frame .offer 7 15 (FrameBody.offer 42 0 (.visit { b with next := .fuel })).payload
    let q : SwapRequest := { run := 305, cls := 2, wall := some 700, departure := 800, need := 700 }
    let x := frame .offer 7 15 (FrameBody.offer 43 0 (.swap q)).payload
    let held := frame .offer 7 15 (FrameBody.offer 44 41 (.visit (bound 1101 1 1020))).payload
    (yard.accepts f .offer 7 ∧ offerFields f.payload 1500 = some ⟨41, 0, .visit b⟩ ∧
      (let u := yard.heard.supersede 7 ⟨41, 0, .visit b⟩; u.mayBid 7 ⟨41, 0, .visit b⟩ = true ∧ u.berthBid b = some (1, 35) ∧ u.canPlace .normal = true)) ∧
    (yard.accepts w .offer 7 ∧ (let g : OfferFields := ⟨42, 0, .visit { b with next := .fuel }⟩; offerFields w.payload 1500 = some g ∧ (yard.heard.supersede 7 g).mayBid 7 g = true ∧
      (yard.heard.supersede 7 g).fuelBid .p0 { b with next := .fuel } = some 600 ∧
      (yard.heard.supersede 7 g).fuelBid .p1 { b with next := .fuel } = none)) ∧
    (yard.accepts x .offer 7 ∧ offerFields x.payload 1500 = some ⟨43, 0, .swap q⟩ ∧
      (let u := yard.heard.supersede 7 ⟨43, 0, .swap q⟩; u.mayBid 7 ⟨43, 0, .swap q⟩ = true ∧ (u.swapBid q).isSome = true ∧ 7 ≠ yard.loader.address)) ∧
    (yard.accepts held .offer 7 ∧ ∃ e ∈ (yard.heard.supersede 7 ⟨44, 41, .visit (bound 1101 1 1020)⟩).laneEntries,
      e.visit.bus = 1101) := by decide +kernel

/-- Two fuel points of equal value, and one whose point 1 has the lower value. -/
theorem witness_OfferDrawsABid_points :
    let r := { bound 4117 215 1145 with next := .fuel }
    let g : OfferFields := ⟨42, 0, .visit r⟩
    let two := fun (q : List QueueEntry) =>
      { node 600 [] with
        loader := { (node 600 []).loader with image := { image with point1 := image.point0 } }
        point0 := { Point.powerOn image.point0 with queue := q }, point1 := Point.powerOn image.point0 }
    let equal := (two []).heard.supersede 7 g
    let lower := (two [queued { spare 78 with next := .fuel } .waiting]).heard.supersede 7 g
    (∀ u ∈ [equal, lower], u.mayBid 7 g = true ∧ u.canPlace .normal = true) ∧
    equal.fuelBid .p0 r = some 600 ∧ equal.fuelBid .p1 r = some 600 ∧
    (lower.fuelBid .p0 r).any (fun v => decide (600 < v)) = true ∧ lower.fuelBid .p1 r = some 600 := by decide +kernel

/-- Nodes with no value for an OFFER, and one whose bid and EXPECTED entry an OFFER supersedes. -/
theorem witness_OfferDrawsABid_none :
    let b := bound 4117 215 1145
    let f := frame .offer 7 15 (FrameBody.offer 41 0 (.visit b)).payload
    let again := frame .offer 5 15 (FrameBody.offer 10 9 (.visit (spare 4117))).payload
    let bare : State := { node 600 [] with point0 := Point.powerOn image.point0 }
    bare.accepts f .offer 7 ∧ (bare.heard.supersede 7 ⟨41, 0, .visit b⟩).berthBid b = none ∧
    bidder.accepts again .offer 5 ∧ offerFields again.payload 1500 = some ⟨10, 9, .visit (spare 4117)⟩ ∧ (9 : Nat) ≠ 0 ∧
    (∃ e ∈ bidder.hand.bids, e.tag = ⟨5, 9⟩) ∧ (bidder.hand.bids.map (fun e => e.tag)).Nodup ∧ bidder.accepts f .offer 7 ∧
    (∀ e ∈ bidder.hand.bids, e.stage ≠ .swap ∧ e.head = none ∧ e.tag.holder ≠ 7) ∧ State.reset.inService = false := by decide +kernel

theorem witness_ServiceBidsKeepTheirRules :
    (exampleFuel.fuelBid .p0 { bound 4117 215 1145 with next := .fuel }).isSome = true ∧
    (exampleWash.washBid .p1 bus4450).isSome = true := by decide +kernel

theorem witness_LaneFitsByCountAndLength :
    (lane []).fits image 13 12 = true ∧ (lane []).fits image 12 12 = false := by decide +kernel

theorem witness_BerthBidIsTheBestLane_cost :
    let l := lane [entry (bound 1 1 700) .parked, entry (bound 2 2 1499) .parked]
    (∀ e ∈ l.entries, e.visit.duty.departure ≤ 1499) ∧ l.entries = [entry (bound 1 1 700) .parked] ++ [entry (bound 2 2 1499) .parked] ∧
    (bound 2 2 1499).departs ≤ 1499 ∧ 699 < (bound 2 2 1499).departs ∧ (lane []).entries = [] ∧ l.entries.length < 16 := by
  decide +kernel

theorem witness_BerthBidIsTheBestLane :
    (yard.berthBid (bound 4117 215 1145)).isSome = true ∧ (node 600 []).berthBid (bound 4117 215 1145) = none := by
  decide +kernel

theorem witness_SwapBidIsTheBestHead :
    let q : SwapRequest := { run := 305, cls := 2, wall := some 700, departure := 800, need := 1499 }
    (yard.swapBid q).isSome = true ∧ (node 600 []).swapBid q = none ∧
    ∃ l ∈ yard.lanes, ∃ e ∈ l.entries.head?, l.state ≠ .unknown ∧ yard.isEligible q e = true ∧ e.visit.duty.departure ≤ 1499 := by
  decide +kernel

theorem witness_BidsAreKeptAndComparedAtTheWindowEnd :
    let f := frame .bid 9 15 [5, 8, 0x10, 0x16, 0, 29]
    bidder.accepts f .bid 9 ∧ bidFields f.payload 1500 = some ⟨⟨5, 8⟩, 4118, 29, none⟩ ∧ bidder.active = true ∧
    (bidder.hand.bids.find? (fun b => decide (b.tag = ⟨5, 9⟩))).any (fun e => decide (e.state = .taken)) = true ∧
    (bidder.hand.bids.find? (fun b => decide (b.tag = ⟨5, 6⟩))).any (fun e => decide (e.state = .computed)) = true ∧
    (bidder.hand.bids.find? (fun b => decide (b.tag = ⟨5, 7⟩))).any (fun e =>
      decide (e.state = .sent) && e.heard.any (fun x => decide (x.1 < e.value))) = true ∧
    (bidder.hand.bids.find? (fun b => decide (b.tag = ⟨5, 8⟩))).any (fun e => decide (e.state = .sent) &&
      e.heard.all (fun x => decide (e.value < x.1 ∨ (x.1 = e.value ∧ bidder.loader.address ≤ x.2)))) = true ∧
    bidder.canPlace .urgent = true ∧ ∀ b ∈ bidder.hand.bids, b.head = none := by decide +kernel

theorem witness_TakesAreKeptOrYieldedTo :
    let s := holder .takeWait
    let f := frame .take 4 15 [5, 9, 0x10, 0x15, 0, 39, 1]
    s.accepts take77 .take 5 ∧ takeFields take77.payload 1500 = some ⟨⟨3, 22⟩, 77, 40, .lane 1, none⟩ ∧
    s.hand.offer.any (fun o => decide (o.key = .bus 77) && decide (o.phase = .takeWait)) = true ∧
    bidder.accepts f .take 4 ∧ takeFields f.payload 1500 = some ⟨⟨5, 9⟩, 4117, 39, .lane 1, none⟩ ∧
    bidder.takenValue ⟨5, 9⟩ = some 40 := by decide +kernel

/-- The TAKE for the old number of a re-offer that waits. -/
theorem witness_TakesAreKeptOrYieldedTo_reoffer :
    let s := offering { openOffer 22 .reofferQueued (.bus 77) with reNumber := 23 } (holder .takeWait)
    let o : OpenOffer := { openOffer 22 .reofferQueued (.bus 77) with reNumber := 23 }
    s.accepts take77 .take 5 ∧ s.hand.offer = some o ∧ o.phase = .reofferQueued ∧
    (s.item? o.key).any (fun i => decide (i.cargo = .visit (spare 77)) && i.place.isSome) = true ∧ s.loader.address = 3 := by
  decide +kernel

/-- A TAKE of a SWAP offer in each of its two states, and one of the other form. -/
theorem witness_TakesAreKeptOrYieldedTo_swap :
    let h : HeadFields := { bus := 4401, run := 330, wall := some 1060, departure := 1120 }
    let f := frame .take 5 15 (FrameBody.take ⟨3, 22⟩ 0 30 (.lane 0) (some h)).payload
    let g := frame .take 5 15 (FrameBody.take ⟨3, 22⟩ 7 30 (.lane 0) none).payload
    (∀ ph ∈ [OfferPhase.bidding, .takeWait], let s := swapHolder ph 1
      s.accepts f .take 5 ∧ s.accepts g .take 5 ∧ s.asksFor 305 = true ∧
      (∀ l ∈ s.lanes, (l.entries.map (fun e => e.visit.bus)).Nodup) ∧
      s.hand.offer.any (fun o => decide (o.key = .swapRun 305) && decide (o.phase = ph) && decide (o.number = 22)) = true ∧
      takeFields f.payload s.clock.dayLength = some ⟨⟨3, 22⟩, 0, 30, .lane 0, some h⟩ ∧
      (takeFields g.payload s.clock.dayLength).any (fun x => decide (x.head = none)) = true) := by decide +kernel

/-- The ends of the windows: BIDDING, a TAKE heard, a first and a second expiry, of a FUEL and a BERTH item. -/
theorem witness_OwnWindowsCloseTheOffer :
    let s := holder .takeWait
    let fuelItem := { item (.visit { spare 77 with next := .fuel }) 600 with offerCount := 2 }
    (holder .bidding).active = true ∧ (holder .bidding).hand.offer.any (fun o => decide (o.phase = .bidding)) = true ∧
    s.inService = true ∧ s.hand.offer = some (openOffer 22 .takeWait (.bus 77)) ∧
    (s.item? (.bus 77)).any (fun i => decide (i.cargo = .visit (spare 77)) && decide (i.offerCount = 1)) = true ∧
    (s.hand.outbound.map OutItem.key).Nodup ∧ 1 ≤ s.hand.counter ∧ 1 ≤ s.image.strandedRetry ∧ s.canPlace .normal = true ∧
    ((withItems [fuelItem] s).item? (.bus 77)).any (fun i => decide (2 ≤ i.offerCount)) = true ∧
    s.loader.reports.length < Config.reportCapacity := by decide +kernel

/-- The first expiry of a SWAP offer whose bus is no head. -/
theorem witness_SwapOffersRebindOrAreRefused_first :
    let s := swapHolder .takeWait 1
    s.active = true ∧ s.inService = true ∧ s.hand.offer.any (fun o => decide (o.phase = .takeWait) && decide (o.takes = [])) = true ∧
    (s.item? (.swapRun 305)).any (fun i => decide (i.offerCount = 1)) = true ∧ s.asker? 305 = some (0, asker) ∧
    1 ≤ s.hand.counter ∧ s.canPlace .normal = true ∧
    s.lanes[0]? = some (lane (entry (bound 2501 310 1090) .parked :: [asker])) ∧ (2501 : Nat) ≠ asker.visit.bus ∧
    s.entriesDistinct := by
  refine ⟨?_, ?_, ?_, ?_, ?_, ?_, ?_, ?_, ?_, entriesDistinct_of (by decide +kernel)⟩ <;> decide +kernel

/-- The holder of a SWAP offer of run 305 for bus 2502, with a TAKE of a bound head, one of a spare, and none. -/
theorem witness_SwapOffersRebindOrAreRefused :
    let q : SwapRequest := { run := 305, cls := 2, wall := some 1000, departure := 1060, need := 1090 }
    let x := { entry (bound 2502 305 1060) .parked with ask := .asking }
    let take := fun (h : HeadFields) => ({ source := 5, value := 30, bus := 0, resource := .lane 0, head := some h } : HeardTake)
    let head : HeadFields := { bus := 4401, run := 330, wall := some 1060, departure := 1120 }
    let s := offering { openOffer 22 .takeWait (.swapRun 305) with takes := [take head] }
      (withItems [{ item (.swap q) 600 with place := none, offerCount := 2 }] (node 1050 [lane [entry (bound 2501 310 1090) .parked, x]]))
    s.active = true ∧ s.hand.offer.any (fun o => decide (o.phase = .takeWait) && decide (o.key = .swapRun q.run)) = true ∧
    (s.item? (.swapRun 305)).any (fun i => decide (i.cargo = .swap q) && decide (2 ≤ i.offerCount)) = true ∧
    s.asker? q.run = some (0, x) ∧ head.run ≠ 0 ∧
    s.runCalled head.run = false ∧ head.wall = some 1060 ∧
    (∀ u ∈ [take head], u = take head ∨ (take head).value < u.value) ∧
    ({ head with run := 0, wall := none, departure := 1499 } : HeadFields).run = 0 ∧
    s.loader.reports.length < Config.reportCapacity ∧ s.entriesDistinct := by
  refine ⟨?_, ?_, ?_, ?_, ?_, ?_, ?_, ?_, ?_, ?_, entriesDistinct_of (by decide +kernel)⟩ <;> decide +kernel

/-- The wall minute of the head's run in the hour that a forward shift leaves out. -/
theorem witness_SwapOffersRebindOrAreRefused_adjusted :
    let s : State := { swapHolder .takeWait 1 with
      clock := { m := 1050, shift := .forward, change := 840, isSet := true, running := true } }
    s.active = true ∧ s.asker? 305 = some (0, asker) ∧ s.runCalled 330 = false ∧ s.clock.change ≤ 850 ∧ 850 < s.clock.change + 60 ∧
    s.loader.reports.length < Config.reportCapacity ∧ s.entriesDistinct := by
  refine ⟨?_, ?_, ?_, ?_, ?_, ?_, entriesDistinct_of (by decide +kernel)⟩ <;> decide +kernel

/-- Two PARKED entries with run 305: the asking one is the second of them (log entry 52). -/
theorem witness_SwapOffersRebindOrAreRefused_asker :
    let s := { swapHolder .takeWait 2 with lanes := [lane [entry (bound 2500 305 1060) .parked], lane [asker]] }
    s.asker? 305 = some (1, asker) ∧ s.entriesDistinct := by
  refine ⟨?_, entriesDistinct_of (by decide +kernel)⟩
  decide +kernel

theorem witness_TakeMarksHoldTheirHeads :
    let k : TakeMark := { tag := ⟨7, 90⟩, run := 305, wall := some 1000, departure := 1060, value := 30 }
    let e := { entry (bound 4401 330 1120) .parked with mark := some k }
    let s := node 700 [lane [e]]
    s.active = true ∧ s.marked? ⟨7, 90⟩ = some e ∧ e.mark = some k ∧ k.wall = some 1000 ∧ k.run ≠ 0 ∧ s.runCalled k.run = false := by
  decide +kernel

/-- The node's own SWAP TAKE on the line after the end of its take wait, at a node with no mark and no CALLED entry. -/
theorem witness_TakeMarksHoldTheirHeads_over :
    let q : SwapRequest := { run := 305, cls := 2, wall := some 1000, departure := 1060, need := 1090 }
    let e := entry (bound 4401 330 690) .parked
    let h : HeadFields := { bus := 4401, run := 330, wall := some 630, departure := 690 }
    let b : BidEntry := { bidFor ⟨7, 90⟩ 0 30 .taken with
      stage := .swap, copy := none, head := some h, asked := some q, waitOver := true }
    let s := withFrames [{ tx (.take ⟨7, 90⟩ 0 30 (.lane 0) (some h)) 0 with sending := true }] (withBids [b] (node 600 [lane [e]]))
    s.active = true ∧ (s.line.transmit.find? (fun y => y.sending)).isSome = true ∧ (7 : Nat) ≠ s.loader.address ∧
    s.hand.bids.find? (fun y => decide (y.tag = ⟨7, 90⟩) && decide (y.state = .taken)) = some b ∧ b.noBinding = false ∧
    s.marked? ⟨7, 90⟩ = none ∧ s.runCalled q.run = false ∧ s.lanes[0]? = some (lane [e]) ∧ s.entriesDistinct := by
  refine ⟨?_, ?_, ?_, ?_, ?_, ?_, ?_, ?_, entriesDistinct_of (by decide +kernel)⟩ <;> decide +kernel

/-- A marked head that is due and kept by nothing else: its mark ends as a CALLED entry carries the run, by a better TAKE, and by
an OFFER that supersedes its tag or carries it anew; a TAKE that is not better leaves it. -/
theorem witness_TakeMarksHoldTheirHeads_released :
    let k : TakeMark := { tag := ⟨7, 90⟩, run := 305, wall := some 640, departure := 700, value := 30 }
    let e := { entry (bound 4401 330 690) .parked with mark := some k }
    let s := node 700 [lane [e], lane [entry (bound 9 305 700) .called]]
    let h : HeadFields := { bus := 4500, run := 0, wall := none, departure := 1499 }
    let take := fun (source value : Nat) => frame .take source 15 (FrameBody.take ⟨7, 90⟩ 0 value (.lane 0) (some h)).payload
    let offer := fun (number supersedes : Nat) => frame .offer 7 15 (FrameBody.offer number supersedes (.visit (spare 77))).payload
    s.active = true ∧ s.inService = true ∧ s.marked? ⟨7, 90⟩ = some e ∧ e.mark = some k ∧ s.runCalled k.run = true ∧
    e.isFront = true ∧ e.state = .parked ∧ e.ask ≠ .asking ∧ e.visit.duty.state = .bound ∧
    e.visit.duty.departure ≤ s.clock.m + s.image.callLead ∧ s.hand.bids = [] ∧ s.lanes[0]? = some (lane [e]) ∧
    (∀ l ∈ s.lanes, ∀ y ∈ l.entries.drop 1, y.mark = none) ∧
    (∀ x ∈ [(9, 29), (2, 30), (9, 31), (9, 30)], s.accepts (take x.1 x.2) .take x.1 ∧
      takeFields (take x.1 x.2).payload s.clock.dayLength = some ⟨⟨7, 90⟩, 0, x.2, .lane 0, some h⟩) ∧
    (∀ x ∈ [(90, 0), (91, 90)], s.accepts (offer x.1 x.2) .offer 7 ∧
      (offerFields (offer x.1 x.2).payload s.clock.dayLength).any (fun g => decide (g.number = x.1) && decide (g.supersedes = x.2)) = true) ∧
    s.loader.address = 3 ∧ s.entriesDistinct := by
  refine ⟨?_, ?_, ?_, ?_, ?_, ?_, ?_, ?_, ?_, ?_, ?_, ?_, ?_, ?_, ?_, ?_, entriesDistinct_of (by decide +kernel)⟩ <;>
    decide +kernel

/-- The node's own SWAP TAKE on the line, a due head that a bid or an own offer holds, and one that asks and is free. -/
theorem witness_TakeMarksHoldTheirHeads_others :
    let q : SwapRequest := { run := 305, cls := 2, wall := some 1000, departure := 1060, need := 1090 }
    let e := entry (bound 4401 330 690) .parked
    let h : HeadFields := { bus := 4401, run := 330, wall := some 630, departure := 690 }
    let b : BidEntry := { bidFor ⟨7, 90⟩ 0 30 .taken with stage := .swap, copy := none, head := some h, asked := some q }
    let bid := withBids [b] (node 700 [lane [e]])
    let on := withFrames [{ tx (.take ⟨7, 90⟩ 0 30 (.lane 0) (some h)) 0 with sending := true }] bid
    let asks := { e with ask := .asking }
    let own := offering (openOffer 22 .bidding (.swapRun 330)) (withItems [item (.swap { q with run := 330 }) 600] (node 700 [lane [asks]]))
    let free := offering (openOffer 22 .queued (.swapRun 330)) (withItems [item (.swap { q with run := 330 }) 600] (node 700 [lane [asks]]))
    on.active = true ∧ (on.line.transmit.find? (fun y => y.sending)).isSome = true ∧ (7 : Nat) ≠ on.loader.address ∧
    on.hand.bids.find? (fun y => decide (y.tag = ⟨7, 90⟩) && decide (y.state = .taken)) = some b ∧ b.head = some h ∧
    b.asked = some q ∧ b.waitOver = false ∧ b.noBinding = false ∧ on.lanes[0]? = some (lane [e]) ∧ e.visit.bus = h.bus ∧
    on.entriesDistinct ∧
    bid.minuteLive = true ∧ e.isDue bid.image.callLead bid.clock.m = true ∧ bid.hand.bids = [b] ∧
    own.minuteLive = true ∧ asks.ask = .asking ∧ own.hand.offer.any (fun o => decide (o.phase = .bidding)) = true ∧
    free.minuteLive = true ∧ free.lanes[0]? = some (lane [asks]) ∧ free.headWaits 0 = false ∧
    e.visit.duty.departure ≤ free.clock.m + free.image.callLead ∧
    (∀ o, free.hand.offer = some o → ∃ i ∈ free.hand.outbound, i.key = o.key) ∧ free.entriesDistinct := by
  refine ⟨?_, ?_, ?_, ?_, ?_, ?_, ?_, ?_, ?_, ?_, entriesDistinct_of (by decide +kernel), ?_, ?_, ?_, ?_, ?_, ?_, ?_, ?_, ?_,
    ?_, fun o h => ?_, entriesDistinct_of (by decide +kernel)⟩
  case refine_21 => cases h; exact ⟨_, List.mem_singleton_self _, rfl⟩
  all_goals decide +kernel

theorem witness_StrayMakesTheNodeGiveTheBusUp :
    let f := frame .stray 5 15 [0, 77, 2]
    let s := holder .bidding
    s.accepts f .stray 5 ∧ pairAt f.payload 0 = 77 ∧ s.lanes.length ≤ 6 ∧
    (s.item? (.bus 77)).any (fun i => decide (i.cargo = .visit (spare 77))) = true ∧ s.canPlace .normal = true := by decide +kernel

/-- A STRAY for a bus that waits in a queue, and for one that is PARKED or CALLED in a lane. -/
theorem witness_StrayMakesTheNodeGiveTheBusUp_places :
    let f := frame .stray 5 15 [0, 77, 2]
    let e := queued (spare 77) .waiting
    let q := withQueues [queued (spare 76) .waiting, e] [] yard
    let l := fun (st : LaneEntryState) => node 600 [lane [entry (spare 76) .called, entry (spare 77) st]]
    q.accepts f .stray 5 ∧ q.lanes.length ≤ 6 ∧ q.item? (.bus 77) = none ∧ q.canPlace .normal = true ∧ e.isFront = true ∧
    e ∈ (q.point .p0).queue ∧
    (∀ p ∈ [PointId.p0, .p1], ∀ x ∈ (q.point p).queue, x.visit.bus = 77 → x.isFront = true → p = .p0 ∧ x = e) ∧
    (∀ st ∈ [LaneEntryState.parked, .called], let s := l st
      s.accepts f .stray 5 ∧ s.lanes.length ≤ 6 ∧ s.item? (.bus 77) = none ∧ s.canPlace .normal = true ∧
      entry (spare 77) st ∈ s.laneEntries ∧ (entry (spare 77) st).isFront = true ∧ s.point0.queue = [] ∧ s.point1.queue = [] ∧
      (∀ x ∈ s.laneEntries, x.visit.bus = 77 → x.isFront = true → x = entry (spare 77) st)) := by decide +kernel

/-- An awaiting entry in a lane and one in a queue, and a run that a CALLED entry of another bus carries. -/
theorem witness_RecordFillsTheAwaitingEntry :
    let e := { entry (spare 7004) .parked with recordAwaited := some 665 }
    let x := { queued (spare 7005) .waiting with recordAwaited := some 665 }
    let s := { node 646 [lane [entry (bound 9 302 980) .called], lane [e]] with
      point0 := { Point.powerOn image.point0 with queue := [x] } }
    let f := frame .record 9 3 (bound 7004 302 980).octets
    let g := frame .record 9 3 (bound 7005 303 980).octets
    let n := frame .record 9 3 (bound 9 303 980).octets
    s.accepts f .record 9 ∧ visitFields f.payload 1500 = some (bound 7004 302 980) ∧ s.laneAwaiting? 7004 = some 1 ∧
    s.laneEntry? 1 7004 = some e ∧ (∃ y ∈ s.laneEntries, y.state = .called ∧ y.visit.duty.run = 302 ∧ y.visit.bus ≠ 7004) ∧
    s.accepts g .record 9 ∧ visitFields g.payload 1500 = some (bound 7005 303 980) ∧
    (∃ y ∈ (s.point .p0).queue, y.visit.bus = 7005 ∧ y.recordAwaited.isSome = true) ∧
    s.accepts n .record 9 ∧ (∀ y ∈ s.laneEntries, y.visit.bus = 9 → y.recordAwaited = none) := by decide +kernel

/-- A RECORD whose class differs from the entry's, and one that leaves it. -/
theorem witness_RecordFillsTheAwaitingEntry_class :
    let e := { entry (spare 7004) .parked with recordAwaited := some 665 }
    let s := node 646 [lane [e]]
    let f := frame .record 9 3 { bound 7004 302 980 with cls := 7 }.octets
    s.accepts f .record 9 ∧ visitFields f.payload 1500 = some { bound 7004 302 980 with cls := 7 } ∧
    (∀ x ∈ (s.point .p0).queue ++ (s.point .p1).queue, x.visit.bus ≠ 7004) ∧ s.laneAwaiting? 7004 = some 0 ∧
    s.laneEntry? 0 7004 = some e ∧ (7 : Nat) ≠ e.visit.cls ∧ (bound 7004 302 980).cls = e.visit.cls := by decide +kernel

/-- A RECORD that pins an ASKING entry with the run it has. -/
theorem witness_RecordFillsTheAwaitingEntry_pinned :
    let r := { bound 7004 302 980 with duty := { (bound 7004 302 980).duty with pinned := true } }
    let e := { entry (bound 7004 302 980) .parked with recordAwaited := some 665, ask := .asking }
    let s := node 646 [lane [entry (spare 8) .parked, e]]
    let f := frame .record 9 3 r.octets
    s.accepts f .record 9 ∧ visitFields f.payload 1500 = some r ∧ s.laneAwaiting? 7004 = some 0 ∧
    s.laneEntry? 0 7004 = some e ∧ e.isFront = true ∧ r.duty.pinned = true ∧ (∀ x ∈ s.laneEntries, x.state ≠ .called) := by
  decide +kernel

theorem witness_UnknownBusIsParkedAsAStray :
    let t := tag 9 7004 7 40 0
    yard.active = true ∧ (tagFields t).any (fun g => decide (readerRole g.reader = .laneEntry 2) && decide (g.bus = 7004) &&
      !isRepeat yard.field.filter[g.reader] g.bus 5 && decide (yard.bidTagsOf g.bus = [])) = true ∧ 2 < yard.image.laneCount ∧
    yard.lanes[2]? = some (lane []) ∧ (∀ e ∈ yard.laneEntries, e.visit.bus ≠ 7004) ∧ yard.item? (.bus 7004) = none ∧
    yard.canPlace .urgent = true ∧ yard.loader.reports.length + 1 < Config.reportCapacity := by decide +kernel

/-- A stray whose record the node holds in its outbound list, in a queue, in service or in another lane. -/
theorem witness_UnknownBusIsParkedAsAStray_held :
    let r := { spare 7004 with fuelOutcome := some .done }
    let l := lane [entry (spare 8) .parked, entry (spare 10) .expected]
    (tagFields (tag 5 7004 7 40 0)).any (fun g => decide (readerRole g.reader = .laneEntry 0) && decide (g.bus = 7004)) = true ∧
    (∀ e ∈ l.entries, e.visit.bus ≠ 7004) ∧ l.state ≠ .unknown ∧ l.entries.length < Config.laneCapacity ∧
    (∀ s ∈ [offering (openOffer 22 .bidding (.bus 7004)) (withItems [item (.visit r) 600] (node 600 [l])),
        withQueues [queued r .waiting] [] (node 600 [l]), node 600 [l, lane [entry r .parked]]],
      s.active = true ∧ s.lanes[0]? = some l ∧ 0 < s.image.laneCount ∧ s.recordBuses.count 7004 = 1 ∧
      s.loader.reports.length + 1 < Config.reportCapacity ∧ s.line.transmit.length + 3 ≤ Config.transmitCapacity) ∧
    (∀ s ∈ [offering (openOffer 22 .bidding (.bus 7004)) (withItems [item (.visit r) 600] (node 600 [l])),
        withQueues [queued r .waiting] [] (node 600 [l]), node 600 [l, lane [entry r .parked]]],
      s.entriesDistinct ∧ s.holdsElsewhere r (.lane 0)) ∧
    (let s := { node 600 [l] with point0 := busyPoint image.point0 [queued (spare 7004) .serving] }
     s.entriesDistinct ∧ s.holdsElsewhere { spare 7004 with litres := 275, fuelOutcome := none } (.lane 0)) := by
  refine ⟨by decide +kernel, by decide +kernel, by decide +kernel, by decide +kernel, by decide +kernel, ?_, ?_⟩
  · intro s hs
    refine ⟨entriesDistinct_of (by fin_cases hs <;> decide +kernel), (State.holdsElsewhere_of_ownRecord? (b := 7004) ?_).2⟩
    fin_cases hs <;> decide +kernel
  · exact ⟨entriesDistinct_of (by decide +kernel), (State.holdsElsewhere_of_ownRecord? (b := 7004) (by decide +kernel)).2⟩

/-- Buses whose claim is open take class, fuel_level and wash_request of the tag report, as strays (R60, R95, R156). -/
theorem test_claim_takes_the_report :
    let fields := fun (r : VisitRecord) => (r.cls, r.fuelLevel, r.washRequest, r.stray)
    runs (.tagReport (tag 5 4118 3 20 2) 50) bidder (fun t =>
      decide ((t.laneEntries.find? (fun e => e.visit.bus = 4118)).map (fun e => fields e.visit) = some (3, 20, .full, true))) = true ∧
    runs (.tagReport (tag 1 4118 3 20 2) 50)
      (withQueues [{ queued (spare 4118) .tentative with tag := some ⟨5, 8⟩ }] [] (node 600 []))
      (fun t => decide (t.point0.queue.map (fun e => fields e.visit) = [(3, 20, .full, true)])) = true := by decide +kernel

/-- A stray that the node expects in another lane or in a queue, with a bid for it. -/
theorem witness_UnknownBusIsParkedAsAStray_expected :
    let r := { spare 7004 with next := .berth }
    let l := lane [entry (spare 8) .parked]
    (tagFields (tag 5 7004 7 40 0)).any (fun g => decide (readerRole g.reader = .laneEntry 0) && decide (g.bus = 7004)) = true ∧
    (∀ s ∈ [node 600 [l, lane [entry r .expected]], withBids [bidFor ⟨5, 8⟩ 7004 30 .sent] (withQueues [queued r .expected] [] (node 600 [l]))],
      (s.active = true ∧ s.lanes[0]? = some l ∧ (∀ e ∈ l.entries, e.visit.bus ≠ 7004)) ∧
      (∀ r', r'.bus = 7004 → ¬ s.holdsElsewhere r' (.lane 0)) ∧ s.expectsElsewhere r (.lane 0) ∧
      (∀ r', r'.bus = 7004 → s.expectsElsewhere r' (.lane 0) → r' = r)) := by
  refine ⟨by decide +kernel, fun s hs => ⟨?_, heldNowhere_of ?_, (State.expectsElsewhere_of_expectedElsewhere? (b := 7004) ?_).2,
    fun r' hb => expectedOnce_of ?_ ?_ r' hb⟩⟩ <;> fin_cases hs <;> decide +kernel

/-- Full lanes: one of 16 PARKED buses, and ones with an EXPECTED or a TENTATIVE bus at the tail. -/
theorem witness_UnknownBusIsParkedAsAStray_full :
    let parked := fun (k : Nat) => (List.range k).map (fun b => entry (spare (b + 1)) .parked)
    let l := fun (st : LaneEntryState) => lane (parked 15 ++ [{ entry (spare 16) st with tag := some ⟨5, 9⟩ }])
    (tagFields (tag 5 7004 7 40 0)).any (fun g => decide (readerRole g.reader = .laneEntry 0) && decide (g.bus = 7004)) = true ∧
    (∀ st ∈ [LaneEntryState.parked, .expected, .tentative],
      let s := node 600 [l st]
      s.active = true ∧ s.lanes[0]? = some (l st) ∧ (l st).entries.length = Config.laneCapacity ∧
      (∀ x ∈ s.laneEntries, x.visit.bus ≠ 7004) ∧ ((l st).entries.map (fun x => x.visit.bus)).Nodup ∧
      s.item? (.bus 7004) = none ∧ s.bidTagsOf 7004 = [] ∧ s.loader.reports.length + 2 < Config.reportCapacity) ∧
    (∀ x ∈ (l .parked).entries, x.isFront = true) ∧
    (((l .expected).entries.filter (fun x => !x.isFront)).getLast?).any (fun x => decide (x.state = .expected)) = true ∧
    (((l .tentative).entries.filter (fun x => !x.isFront)).getLast?).any (fun x => decide (x.state = .tentative)) = true := by
  decide +kernel

theorem witness_TagAndGateReadsByTheirTests_reports :
    crc8 [(tag 0 1 0 0 0).reader, 0, 1, 0, 0, 0] ≠ (tag 0 2 0 0 0).check ∧ 16 < (tag 17 1 0 0 0).reader.toNat ∧
    2 < (tag 0 1 0 0 3).wash.toNat ∧
    (tagFields (tag 15 7004 7 40 0)).any (fun g => !yard.isConfigured (readerRole g.reader)) = true ∧
    (tagFields (tag 0 7004 7 40 0)).isSome = true ∧
    (({ yard with field := { yard.field with filter := yard.field.filter.set 0 (some { bus := 7004, time := 10 }) } } : State)).field.filter[0]
      = some { bus := 7004, time := 10 } := by decide +kernel

theorem witness_TagAndGateReadsByTheirTests :
    let t := tag 0 7004 7 40 0
    let unset : State := { yard with clock := State.reset.clock }
    let full := withItems (List.replicate 8 (item (.visit (spare 1)) 0)) yard
    yard.active = true ∧ (tagFields t).any (fun g => decide (g.reader.val = 0) && decide (g.bus = 7004)) = true ∧
    yard.image.gateReader = true ∧ isRepeat yard.field.filter[0] 7004 5 = false ∧ unset.active = true ∧
    unset.clock.isSet = false ∧ yard.clock.isSet = true ∧ (∃ e ∈ (node 600 [lane [entry (spare 7004) .parked]]).laneEntries, e.visit.bus = 7004) ∧
    Config.outboundCapacity ≤ full.hand.outbound.length ∧ yard.hand.outbound.length < Config.outboundCapacity ∧
    full.loader.reports.length < Config.reportCapacity ∧ yard.canPlace .normal = true := by decide +kernel

/-- A front entry, an EXPECTED one, a WAITING one and the SERVING one of a fuel point. -/
theorem witness_PointReadsFollowTheQueue :
    let serving := queued { spare 77 with next := .fuel } .serving
    let waiting := queued { spare 78 with next := .fuel } .waiting
    let expected := { queued { spare 79 with next := .fuel } .expected with deadline := some 620 }
    let s := { node 600 [] with point0 := busyPoint image.point0 [serving, waiting, expected] }
    s.active = true ∧ (tagFields (tag 1 78 2 40 0)).any (fun g => decide (readerRole g.reader = .pointEntry .p0)) = true ∧
    (tagFields (tag 2 77 2 40 0)).any (fun g => decide (readerRole g.reader = .pointExit .p0)) = true ∧
    (s.pointImage .p0).kind = .fuel ∧ (s.point .p0).entry? 77 = some serving ∧ (s.point .p0).entry? 78 = some waiting ∧
    (s.point .p0).entry? 79 = some expected ∧ ((s.point .p0).queue.map (fun x => x.visit.bus)).Nodup ∧ waiting.isFront = true ∧
    (∀ b ∈ s.hand.bids, expected.tag ≠ some b.tag) ∧ s.ownRecord? 79 (.point .p0) = none ∧ (s.point .p0).state = .busy ∧
    s.hand.outbound.length < Config.outboundCapacity ∧ (s.point .p0).serving? = some serving ∧
    (s.point .p0).service.isSome = true := by decide +kernel

/-- The bus in service read at the exit of a fuel point, with a full outbound list, with an older FINISHED entry that holds
CLEARING, and with nothing that holds it, a WAITING bus behind it or none. -/
theorem witness_PointReadsFollowTheQueue_leaves :
    let serving := queued { spare 77 with next := .fuel } .serving
    let s := fun (back : List QueueEntry) => { node 600 [] with point0 := busyPoint image.point0 (serving :: back) }
    let full := withItems ((List.range 8).map (fun k => item (.visit (spare (100 + k))) 600)) (s [])
    let old := { queued (spare 76) .finished with justServed := true }
    (tagFields (tag 2 77 2 40 0)).any (fun g => decide (readerRole g.reader = .pointExit .p0) && decide (g.bus = 77)) = true ∧
    (∀ u ∈ [full, s [old], s [queued (spare 78) .waiting], s []],
      u.active = true ∧ (u.pointImage .p0).kind = .fuel ∧ (u.point .p0).entry? 77 = some serving ∧
      (u.point .p0).serving? = some serving ∧ (u.point .p0).service.isSome = true ∧ (u.point .p0).startOutput = .off ∧
      ((u.point .p0).queue.map (fun x => x.visit.bus)).Nodup) ∧
    Config.outboundCapacity ≤ full.hand.outbound.length ∧ (s []).hand.outbound.length < Config.outboundCapacity ∧
    old.justServed = true ∧ (queued (spare 78) .waiting).justServed = false := by decide +kernel

/-- Exit reads of a bus with no entry, at a point in service, and in CLEARING of the served bus, held or not. -/
theorem witness_PointReadsFollowTheQueue_no_entry :
    let clearing := fun (q : List QueueEntry) => yard.setPoint .p0
      { Point.powerOn image.point0 with state := .clearing, queue := q, served := some 77 }
    let held := clearing [{ queued (spare 78) .finished with justServed := true }]
    (tagFields (tag 2 77 2 40 0)).any (fun g => decide (readerRole g.reader = .pointExit .p0) && decide (g.bus = 77)) = true ∧
    (∀ u ∈ [yard, held, clearing []], u.active = true ∧ (u.pointImage .p0).kind ≠ .none ∧ (u.point .p0).entry? 77 = none) ∧
    (yard.point .p0).state ≠ .clearing ∧
    (∀ u ∈ [held, clearing []], (u.point .p0).state = .clearing ∧ (u.point .p0).served = some 77 ∧
      (u.point .p0).startOutput = .off) ∧ (∃ x ∈ (held.point .p0).queue, x.justServed = true) := by decide +kernel

/-- The EXPECTED bus read at entry or exit of an IDLE fuel point, and at a washing lane in FAULT with room in the outbound list or none. -/
theorem witness_PointReadsFollowTheQueue_expected :
    let e := { queued { spare 79 with next := .fuel } .expected with deadline := some 620 }
    let w := { queued { spare 79 with next := .wash } .expected with deadline := some 620 }
    let idle := withQueues [e] [] (node 600 [])
    let fault := withItems [] { node 600 [] with point1 := { Point.powerOn image.point1 with state := .fault, queue := [w] } }
    let full := withItems ((List.range 8).map (fun k => item (.visit (spare (100 + k))) 600)) fault
    (tagFields (tag 1 79 2 40 0)).any (fun g => decide (readerRole g.reader = .pointEntry .p0)) = true ∧
    (tagFields (tag 3 79 2 40 0)).any (fun g => decide (readerRole g.reader = .pointEntry .p1)) = true ∧
    (tagFields (tag 2 79 2 40 0)).any (fun g => decide (readerRole g.reader = .pointExit .p0)) = true ∧
    (tagFields (tag 4 79 2 40 0)).any (fun g => decide (readerRole g.reader = .pointExit .p1)) = true ∧
    idle.active = true ∧ (idle.pointImage .p0).kind = .fuel ∧ (idle.point .p0).entry? 79 = some e ∧
    (idle.point .p0).state = .idle ∧ idle.ownRecord? 79 (.point .p0) = none ∧ idle.hand.bids = [] ∧
    (∀ s ∈ [fault, full], ∀ x ∈ [w, { w with recordAwaited := some 610 }],
      let u := s.setPoint .p1 { s.point .p1 with queue := [x] }
      u.active = true ∧ (u.pointImage .p1).kind = .wash ∧ (u.point .p1).state = .fault ∧
      (u.point .p1).entry? 79 = some x ∧ u.ownRecord? 79 (.point .p1) = none ∧ u.hand.bids = []) ∧
    w.recordAwaited = none ∧ fault.hand.outbound.length < Config.outboundCapacity ∧
    Config.outboundCapacity ≤ full.hand.outbound.length := by decide +kernel

/-- An EXPECTED bus whose record stands in the outbound list, at a fuel point in service and at an IDLE one, and at a washing lane in FAULT. -/
theorem witness_PointReadsFollowTheQueue_held :
    let r := { spare 79 with litres := 120 }
    let e := { queued { spare 79 with next := .fuel } .expected with deadline := some 620 }
    let w := { queued { spare 79 with next := .wash } .expected with deadline := some 620 }
    let holds := offering (openOffer 22 .takeWait (.bus 79)) (withItems [item (.visit r) 600] (node 600 []))
    let full := withItems (item (.visit r) 600 :: (List.range 7).map (fun k => item (.visit (spare (100 + k))) 900)) (node 600 [])
    (tagFields (tag 1 79 2 40 0)).any (fun g => decide (readerRole g.reader = .pointEntry .p0) && decide (g.bus = 79)) = true ∧
    (tagFields (tag 3 79 2 40 0)).any (fun g => decide (readerRole g.reader = .pointEntry .p1) && decide (g.bus = 79)) = true ∧
    (∀ s ∈ [withQueues [e] [] holds, { holds with point0 := busyPoint image.point0 [queued (spare 77) .serving, e] }],
      s.active = true ∧ (s.point .p0).entry? 79 = some e ∧ s.hand.bids = [] ∧ s.recordBuses.count 79 = 1 ∧
      ((s.point .p0).queue.map (fun x => x.visit.bus)).Nodup) ∧
    (∀ s ∈ [withQueues [e] [] holds, { holds with point0 := busyPoint image.point0 [queued (spare 77) .serving, e] }],
      s.entriesDistinct ∧ s.holdsElsewhere r (.point .p0)) ∧
    (∀ u ∈ [holds, full], ∀ x ∈ [w, { w with recordAwaited := some 610 }],
      let s := { u with point1 := { Point.powerOn image.point1 with state := .fault, queue := [x] } }
      (s.active = true ∧ (s.pointImage .p1).kind = .wash ∧ (s.point .p1).state = .fault ∧ (s.point .p1).entry? 79 = some x ∧
        s.hand.bids = [] ∧ (s.giveUpRecord 79 (.point .p1)).hand.outbound.length < Config.outboundCapacity) ∧
      s.entriesDistinct ∧ s.holdsElsewhere r (.point .p1)) := by
  refine ⟨by decide +kernel, by decide +kernel, by decide +kernel, fun s hs => ?_, fun u hu x hx => ?_⟩
  · refine ⟨entriesDistinct_of (by fin_cases hs <;> decide +kernel), (State.holdsElsewhere_of_ownRecord? (b := 79) ?_).2⟩
    fin_cases hs <;> decide +kernel
  · refine ⟨?_, entriesDistinct_of ?_, (State.holdsElsewhere_of_ownRecord? (b := 79) ?_).2⟩ <;>
      fin_cases hu <;> fin_cases hx <;> decide +kernel

/-- Exit reads in CLEARING of a served bus that is FINISHED, or that was read again at the entry, and of a washed one. -/
theorem witness_PointReadsFollowTheQueue_clearing :
    let clearing := fun (e : QueueEntry) => yard.setPoint .p0
      { Point.powerOn image.point0 with state := .clearing, queue := [e], served := some 77 }
    let joins := { queued (spare 77) .finished with justServed := true }
    let again := queued { spare 77 with next := .fuel } .waiting
    (tagFields (tag 2 77 2 40 0)).any (fun g => decide (readerRole g.reader = .pointExit .p0) && decide (g.bus = 77)) = true ∧
    (∀ e ∈ [joins, again], let s := clearing e
      s.active = true ∧ (s.pointImage .p0).kind ≠ .none ∧ (s.point .p0).entry? 77 = some e ∧
      (s.point .p0).state = .clearing ∧ (s.point .p0).served = some 77 ∧ (s.point .p0).startOutput = .off) ∧
    joins.state = .finished ∧ again.state = .waiting ∧ again.justServed = false ∧
    yard.hand.outbound.length < Config.outboundCapacity ∧
    (tagFields (tag 4 5501 2 40 0)).any (fun g => decide (readerRole g.reader = .pointExit .p1)) = true ∧
    ((exampleWash.point .p1).entry? 5501).any (fun e => decide (e.state = .serving)) = true := by decide +kernel

/-- A claim that is still open, an unknown bus, and full queues with and without a pending entry. -/
theorem witness_PointClaimsAndStraysWait :
    let busy := fun (q : List QueueEntry) => { node 600 [] with point0 := busyPoint image.point0 q }
    let claim := { queued { spare 4118 with next := .fuel } .tentative with tag := some ⟨5, 8⟩ }
    let claims := withBids [{ bidFor ⟨5, 8⟩ 4118 30 .sent with stage := .fuel, resource := .point .p0 }]
      (busy [queued (spare 77) .serving, claim])
    let front := fun (k : Nat) => queued (spare 77) .serving :: (List.range k).map (fun b => queued (spare (b + 1)) .waiting)
    (tagFields (tag 1 4118 2 40 0)).any (fun g => decide (readerRole g.reader = .pointEntry .p0) && decide (g.bus = 4118)) = true ∧
    (tagFields (tag 2 4118 2 40 0)).any (fun g => decide (readerRole g.reader = .pointExit .p0) && decide (g.bus = 4118)) = true ∧
    claims.active = true ∧ (claims.pointImage .p0).kind ≠ .none ∧ (claims.point .p0).entry? 4118 = some claim ∧
    claim.state = .tentative ∧ claims.ownRecord? 4118 (.point .p0) = none ∧ claims.hand.offer = none ∧
    (claims.point .p0).state = .busy ∧ ((claims.point .p0).queue.map (fun x => x.visit.bus)).Nodup ∧
    (∀ q ∈ [front 1, front 6 ++ [claim], front 6 ++ [{ claim with state := .expected }], front 7],
      let s := busy q
      (s.point .p0).state = .busy ∧ ((s.point .p0).queue.map (fun x => x.visit.bus)).Nodup ∧
      s.item? (.bus 9999) = none ∧ s.bidTagsOf 9999 = [] ∧ (∀ x ∈ (s.point .p0).queue ++ (s.point .p1).queue, x.visit.bus ≠ 9999) ∧
      s.laneEntries = [] ∧ s.loader.reports.length + 1 < Config.reportCapacity) ∧
    (front 1).length < Config.queueCapacity ∧ (front 6 ++ [claim]).length = Config.queueCapacity ∧
    ((front 6 ++ [claim]).filter (fun x => !x.isFront)).getLast? = some claim ∧
    Config.queueCapacity ≤ (front 7).length ∧ (front 7).filter (fun x => !x.isFront) = [] ∧
    (tagFields (tag 1 9999 2 40 0)).isSome = true := by decide +kernel

/-- An unknown bus and an open claim at a washing lane in FAULT, and at an IDLE one; the claim at the exit too, with room in
the outbound list or none. -/
theorem witness_PointClaimsAndStraysWait_states :
    let claim := { queued { spare 4118 with next := .wash } .tentative with tag := some ⟨5, 8⟩ }
    let s := fun (st : PointState) => withBids [{ bidFor ⟨5, 8⟩ 4118 30 .sent with stage := .wash, resource := .point .p1 }]
      { node 600 [] with point1 := { Point.powerOn image.point1 with state := st, queue := [claim] } }
    (tagFields (tag 3 4118 2 40 0)).any (fun g => decide (readerRole g.reader = .pointEntry .p1) && decide (g.bus = 4118)) = true ∧
    (tagFields (tag 3 9999 2 40 0)).any (fun g => decide (readerRole g.reader = .pointEntry .p1)) = true ∧
    (tagFields (tag 4 4118 2 40 0)).any (fun g => decide (readerRole g.reader = .pointExit .p1) && decide (g.bus = 4118)) = true ∧
    (s .fault).hand.outbound.length < Config.outboundCapacity ∧
    Config.outboundCapacity ≤ (withItems ((List.range 8).map (fun k => item (.visit (spare (100 + k))) 600)) (s .idle)).hand.outbound.length ∧
    (∀ st ∈ [PointState.fault, .idle], (s st).active = true ∧ ((s st).pointImage .p1).kind = .wash ∧
      ((s st).point .p1).entry? 4118 = some claim ∧ (s st).ownRecord? 4118 (.point .p1) = none ∧ (s st).hand.offer = none ∧
      (s st).item? (.bus 9999) = none ∧ (s st).bidTagsOf 9999 = [] ∧ (s st).laneEntries = [] ∧
      (∀ x ∈ ((s st).point .p0).queue ++ ((s st).point .p1).queue, x.visit.bus ≠ 9999) ∧
      ((s st).point .p1).queue.length < Config.queueCapacity) := by decide +kernel

/-- An open claim and a bus with no entry whose record waits at the fuel point, read at a washing lane that is BUSY or in FAULT. -/
theorem witness_PointClaimsAndStraysWait_held :
    let r := { spare 4118 with next := .fuel, litres := 120 }
    let claim := { queued { spare 4118 with next := .wash } .tentative with tag := some ⟨5, 8⟩ }
    let s := fun (st : PointState) (q : List QueueEntry) =>
      { withQueues [queued r .waiting] [] (node 600 []) with point1 := { Point.powerOn image.point1 with state := st, queue := q } }
    (tagFields (tag 3 4118 2 40 0)).any (fun g => decide (readerRole g.reader = .pointEntry .p1) && decide (g.bus = 4118)) = true ∧
    claim.state = .tentative ∧
    (∀ st ∈ [PointState.clearing, .fault, .idle], ∀ q ∈ [[claim], []],
      ((s st q).active = true ∧ ((s st q).pointImage .p1).kind = .wash ∧ ((s st q).point .p1).entry? 4118 = q.head? ∧
        q.length < Config.queueCapacity ∧ (s st q).bidTagsOf 4118 = [] ∧
        ((s st q).giveUpRecord 4118 (.point .p1)).hand.outbound.length < Config.outboundCapacity ∧
        (s st q).loader.reports.length < Config.reportCapacity ∧ (s st q).line.transmit.length + 3 ≤ Config.transmitCapacity) ∧
      (s st q).entriesDistinct ∧ (s st q).holdsElsewhere r (.point .p1)) ∧
    (let full := withItems ((List.range 8).map (fun k => item (.visit (spare (100 + k))) 900)) (s .fault [claim])
     Config.outboundCapacity ≤ (full.giveUpRecord 4118 (.point .p1)).hand.outbound.length ∧ full.entriesDistinct ∧
       full.holdsElsewhere r (.point .p1)) := by
  refine ⟨by decide +kernel, by decide +kernel, fun st hst q hq => ?_, by decide +kernel, entriesDistinct_of (by decide +kernel),
    (State.holdsElsewhere_of_ownRecord? (b := 4118) (by decide +kernel)).2⟩
  refine ⟨?_, entriesDistinct_of ?_, (State.holdsElsewhere_of_ownRecord? (b := 4118) ?_).2⟩ <;>
    fin_cases hst <;> fin_cases hq <;> decide +kernel

/-- A bus with no entry at a point that the node expects in a lane or at the other point. -/
theorem witness_PointClaimsAndStraysWait_expected :
    (tagFields (tag 3 4118 2 40 0)).any (fun g => decide (readerRole g.reader = .pointEntry .p1) && decide (g.bus = 4118)) = true ∧
    ∀ s ∈ [node 600 [lane [entry (spare 4118) .expected]], withQueues [queued (spare 4118) .expected] [] (node 600 [])],
      (s.active = true ∧ (s.point .p1).entry? 4118 = none ∧ (s.point .p1).queue.length < Config.queueCapacity ∧
        s.bidTagsOf 4118 = [] ∧ s.canPlace .urgent = true ∧ s.loader.reports.length < Config.reportCapacity) ∧
      (∀ r', r'.bus = 4118 → ¬ s.holdsElsewhere r' (.point .p1)) ∧ s.expectsElsewhere (spare 4118) (.point .p1) ∧
      (∀ r', r'.bus = 4118 → s.expectsElsewhere r' (.point .p1) → r' = spare 4118) := by
  refine ⟨by decide +kernel, fun s hs => ⟨?_, heldNowhere_of ?_, (State.expectsElsewhere_of_expectedElsewhere? (b := 4118) ?_).2,
    fun r' hb => expectedOnce_of ?_ ?_ r' hb⟩⟩ <;> fin_cases hs <;> decide +kernel

theorem witness_LaneReadsFollowTheList :
    let e := entry (spare 4117) .expected
    let l := lane [entry (bound 9 90 700) .parked, e]
    let s := node 600 [l]
    s.active = true ∧ (tagFields (tag 5 4117 2 40 0)).any (fun g => decide (readerRole g.reader = .laneEntry 0)) = true ∧
    (tagFields (tag 6 9 2 40 0)).any (fun g => decide (readerRole g.reader = .laneExit 0)) = true ∧ 0 < s.image.laneCount ∧
    s.lanes[0]? = some l ∧ l.entries.find? (fun x => decide (x.visit.bus = 4117)) = some e ∧
    (∀ b ∈ s.hand.bids, e.tag ≠ some b.tag) ∧ s.ownRecord? 4117 (.lane 0) = none ∧
    l.entries.find? (fun x => decide (x.visit.bus = 9)) = some (entry (bound 9 90 700) .parked) ∧
    (entry (bound 9 90 700) .parked).isFront = true ∧ (∀ x ∈ l.entries, x.visit.bus ≠ 5) ∧ s.canPlace .normal = true := by
  decide +kernel

/-- A listed bus read again at the entry, one whose claim is open, and an EXPECTED bus read at the exit. -/
theorem witness_LaneReadsFollowTheList_others :
    let e := { entry (spare 4118) .tentative with tag := some ⟨5, 8⟩, value := some 30 }
    (tagFields (tag 5 4118 2 40 0)).any (fun g => decide (readerRole g.reader = .laneEntry 0)) = true ∧
    (tagFields (tag 6 4117 2 40 0)).any (fun g => decide (readerRole g.reader = .laneExit 0)) = true ∧
    bidder.active = true ∧ (bidder.lanes[0]?).any (fun l => decide (l.entries.find? (fun x => decide (x.visit.bus = 4118)) = some e) &&
      decide (l.state ≠ .unknown) && l.entries.any (fun x => decide (x.visit.bus = 4117) && !x.isFront && x.tag.isSome)) = true ∧
    e.state = .tentative ∧ bidder.ownRecord? 4118 (.lane 0) = none ∧ bidder.hand.offer = none ∧
    (yard.lanes[0]?).any (fun l => (l.entries.find? (fun x => decide (x.visit.bus = 1101))).any (fun x => x.isFront)) = true ∧
    yard.headWaits 0 = false ∧ bidder.canPlace .urgent = true ∧ bidder.loader.reports.length < Config.reportCapacity := by
  decide +kernel

/-- An UNKNOWN lane, and a held head that is read again, alone in its lane and before another bus. -/
theorem witness_LaneReadsFollowTheList_heads :
    let h : HeadFields := { bus := 4401, run := 330, wall := some 630, departure := 690 }
    let s := fun (back : List LaneEntry) => withBids [{ bidFor ⟨7, 90⟩ 0 30 .sent with stage := .swap, copy := none, head := some h }]
      (node 700 [lane (entry (bound 4401 330 690) .parked :: back)])
    let unknown := node 600 [Lane.powerOn]
    (tagFields (tag 5 4401 2 40 0)).any (fun g => decide (readerRole g.reader = .laneEntry 0) && decide (g.bus = 4401)) = true ∧
    unknown.active = true ∧ unknown.lanes[0]? = some Lane.powerOn ∧ Lane.powerOn.state = .unknown ∧
    (∀ u ∈ [s [], s [entry (spare 8) .parked]], u.active = true ∧ u.headWaits 0 = true ∧
      ∀ b ∈ u.hand.bids, ∀ x ∈ b.head, u.isParkedHead b.resource x.bus = true) := by decide +kernel

/-- An EXPECTED bus, with its bid or without, and a TENTATIVE one, whose record stands in the outbound list; a listed bus in a
lane whose head asks for a swap and waits for the node's own offer. -/
theorem witness_LaneReadsFollowTheList_held :
    let r := { spare 4118 with litres := 120 }
    let l := fun (st : LaneEntryState) => lane [entry (spare 8) .parked, { entry (spare 4118) st with tag := some ⟨5, 8⟩ }]
    let s := fun (bids : List BidEntry) (st : LaneEntryState) => withBids bids
      (offering (openOffer 22 .queued (.bus 4118)) (withItems [item (.visit r) 600] (node 600 [l st])))
    let own := offering (openOffer 22 .bidding (.swapRun 330)) (withItems
      [item (.swap { run := 330, cls := 2, wall := some 630, departure := 690, need := 700 }) 600]
      (node 700 [lane [{ entry (bound 4401 330 690) .parked with ask := .asking }, entry (bound 4402 331 690) .parked]]))
    (tagFields (tag 5 4118 2 40 0)).any (fun g => decide (readerRole g.reader = .laneEntry 0) && decide (g.bus = 4118)) = true ∧
    (∀ bids ∈ [[], [bidFor ⟨5, 8⟩ 4118 30 .taken]], ∀ st ∈ [LaneEntryState.expected, .tentative],
      ((s bids st).active = true ∧ (s bids st).lanes[0]? = some (l st) ∧ (l st).state ≠ .unknown ∧
        (l st).entries.find? (fun x => decide (x.visit.bus = 4118)) = some { entry (spare 4118) st with tag := some ⟨5, 8⟩ } ∧
        r.cls = (spare 4118).cls ∧ (s bids st).loader.reports.length + 1 < Config.reportCapacity ∧
        (s bids st).line.transmit.length + 3 ≤ Config.transmitCapacity) ∧
      (s bids st).entriesDistinct ∧ (s bids st).holdsElsewhere r (.lane 0)) ∧
    (own.headHeld 0 = false ∧ own.headWaits 0 = true ∧ own.active = true ∧
      (tagFields (tag 5 4401 2 40 0)).any (fun g => decide (readerRole g.reader = .laneEntry 0) && decide (g.bus = 4401)) = true) := by
  refine ⟨by decide +kernel, fun bids hb st hst => ?_, by decide +kernel⟩
  refine ⟨?_, entriesDistinct_of ?_, (State.holdsElsewhere_of_ownRecord? (b := 4118) ?_).2⟩ <;>
    fin_cases hb <;> fin_cases hst <;> decide +kernel

theorem witness_DetectorChangesReachTheirOwners :
    let s := pinAt (.laneClear 0) true false true { yard with lanes := [Lane.powerOn] }
    let n := pinAt (.machineA .p0) true false true { node 606 [] with point0 := busyPoint image.point0 [queued (spare 77) .serving] }
    let k := pinAt .maintenanceKey true false true yard
    (s.active = true ∧ s.isPresent (.laneClear 0) = true ∧ (s.detector (.laneClear 0)).timer = true ∧
      (s.detector (.laneClear 0)).live ≠ (s.detector (.laneClear 0)).debounced ∧ s.lanes[0]? = some Lane.powerOn) ∧
    (n.isPresent (.machineA .p0) = true ∧ (n.detector (.machineA .p0)).live = true ∧ (n.point .p0).state = .busy ∧
      (n.point .p0).service.isSome = true) ∧
    (k.isPresent .maintenanceKey = true ∧ (k.detector .maintenanceKey).timer = true) ∧
    (yard.detector .maintenanceKey).timer = false := by decide +kernel

/-- An OPEN lane with a CALLED, an unconfirmed and an EXPECTED bus. -/
theorem witness_LaneClearEmptiesTheLane :
    let l := lane [entry (bound 9 90 700) .called, { entry (spare 8) .parked with unconfirmed := true },
      { entry (spare 4117) .expected with tag := some ⟨5, 9⟩ }]
    let s := pinAt (.laneClear 0) true false true (node 600 [l])
    s.active = true ∧ s.isPresent (.laneClear 0) = true ∧ (s.detector (.laneClear 0)).live = true ∧
    (s.detector (.laneClear 0)).debounced = false ∧ (s.detector (.laneClear 0)).timer = true ∧ s.lanes[0]? = some l ∧
    l.state ≠ .unknown ∧ s.loader.reports.length + 2 ≤ Config.reportCapacity ∧
    s.line.transmit.length + s.line.muted.toList.length + 2 ≤ Config.transmitCapacity := by decide +kernel

/-- A nozzle that hangs after it was lifted, a bus that leaves in CLEARING with a fault pending, and a STRAY for the buses
in service. -/
theorem witness_ServicesEndByHangingUpAndBeingLeft :
    let e := queued { spare 77 with next := .fuel } .serving
    let busy := busyPoint image.point0 [e]
    let lifted := { busy with service := busy.service.map (fun v => { v with lifted := true }) }
    let s := fun (v : Point) => pinAt (.occupied .p0) true true false (pinAt (.machineA .p0) false true true { node 606 [] with point0 := v })
    let c := fun (v : Point) => pinAt (.occupied .p0) false true true { node 606 [] with point0 := v }
    let f := frame .stray 5 15 [0, 77, 2]
    let w := frame .stray 5 15 [0x15, 0x7D, 2]
    let washed := pinAt (.occupied .p1) true true false { exampleWash with line := yard.line }
    (∀ v ∈ [busy, lifted], (s v).active = true ∧ ((s v).pointImage .p0).kind = .fuel ∧
      ((s v).detector (.machineA .p0)).live = false ∧ ((s v).detector (.machineA .p0)).timer = true ∧
      ((s v).point .p0).serving? = some e ∧ (s v).level (.occupied .p0) = true ∧ v.startOutput = .off ∧
      (pinAt (.occupied .p0) false false false (s v)).level (.occupied .p0) = false ∧
      (s v).hand.outbound.length < Config.outboundCapacity) ∧
    busy.service.any (fun v => !v.lifted) = true ∧ lifted.service.any (fun v => v.lifted) = true ∧
    (c { busy with state := .clearing, queue := [], faultPending := true }).active = true ∧
    ((c busy).detector (.occupied .p0)).live = false ∧ ((c busy).detector (.occupied .p0)).timer = true ∧
    busy.startOutput = .off ∧ (washing [] 10).startOutput ≠ .off ∧
    (s busy).accepts f .stray 5 ∧ pairAt f.payload 0 = 77 ∧ e ∈ ((s busy).point .p0).queue ∧ (s busy).canPlace .normal = true ∧
    (s busy).item? (.bus 77) = none ∧ (s busy).bidTagsOf 77 = [] ∧
    (∀ u ∈ [s busy, washed], (∀ l ∈ u.lanes, ∀ x ∈ l.entries.drop 1, x.mark = none) ∧ u.hand.bids = []) ∧
    washed.accepts w .stray 5 ∧ pairAt w.payload 0 = 5501 ∧ (washed.point .p1).startOutput ≠ .off ∧
    (washed.point .p1).queue.any (fun x => decide (x.visit.bus = 5501) && decide (x.state = .serving)) = true ∧
    ((washed.point .p1).queue.map (fun x => x.visit.bus)).Nodup ∧ washed.level (.occupied .p1) = true ∧
    washed.item? (.bus 5501) = none ∧ washed.bidTagsOf 5501 = [] := by decide +kernel

theorem witness_WashCyclesEndByDoneOrFault_done :
    let s := pinAt (.occupied .p1) true true false (pinAt (.machineA .p1) true false true exampleWash)
    let last := s.setPoint .p1 (washing [queued (spare 5501) .serving] 11)
    s.active = true ∧ (s.pointImage .p1).kind = .wash ∧ (s.detector (.machineA .p1)).timer = true ∧
    (s.point .p1).cycle.any (fun c => c.advance && decide (c.place ≤ 10)) = true ∧ (s.point .p1).state = .busy ∧
    (s.point .p1).serving?.isSome = true ∧ ((s.point .p1).queue.map (fun x => x.visit.bus)).Nodup ∧
    s.level (.occupied .p1) = true ∧ (s.point .p1).left = false ∧ s.hand.outbound.length < Config.outboundCapacity ∧
    (last.point .p1).cycle.any (fun c => c.advance && decide (11 ≤ c.place)) = true ∧
    ((s.modPoint .p1 (fun v => { v with cycle := none })).point .p1).cycle = none := by decide +kernel

/-- DONE at an orphaned cycle, with the bus gone or not, and FAULT on a cycle with a WAITING and an EXPECTED bus. -/
theorem witness_WashCyclesEndByDoneOrFault_others :
    let orphan := fun (gone : Bool) => ({ washing [] 10 with
      state := .clearing, left := gone
      cycle := some { type := .rinse, place := 10, start := 702, nominal := 3, deadline := 708, advance := false } } : Point)
    let o := fun (gone : Bool) => pinAt (.machineA .p1) true false true (exampleWash.setPoint .p1 (orphan gone))
    let q := [queued (spare 5501) .serving, queued (spare 3302) .waiting,
      { queued (spare 3303) .waiting with recordAwaited := some 720 }, queued (spare 3304) .expected]
    let f := pinAt (.machineB .p1) true false true (exampleWash.setPoint .p1 (washing q 10))
    (∀ gone ∈ [true, false], (o gone).active = true ∧ ((o gone).pointImage .p1).kind = .wash ∧
      ((o gone).detector (.machineA .p1)).timer = true ∧ ((o gone).point .p1).cycle.any (fun c => !c.advance) = true ∧
      ((o gone).point .p1).state = .clearing ∧ ((o gone).point .p1).left = gone ∧
      ((o gone).point .p1).faultPending = false ∧ (∀ x ∈ ((o gone).point .p1).queue, x.justServed = false)) ∧
    f.active = true ∧ (f.detector (.machineB .p1)).live = true ∧ (f.detector (.machineB .p1)).debounced = false ∧
    (f.detector (.machineB .p1)).timer = true ∧ (f.point .p1).cycle.isSome = true ∧
    ((f.point .p1).queue.map (fun x => x.visit.bus)).Nodup ∧ (f.point .p1).serving?.isSome = true ∧
    f.loader.reports.length + (f.point .p1).queue.length < Config.reportCapacity ∧
    f.hand.outbound.length + (f.point .p1).queue.length ≤ Config.outboundCapacity ∧
    ((pinAt (.machineB .p1) false true true f).detector (.machineB .p1)).live = false := by decide +kernel

theorem witness_PulsesAndDisplaysFollowTheirRules :
    exampleFuel.active = true ∧ (exampleFuel.pointImage .p0).kind = .fuel ∧ (exampleFuel.point .p0).state = .busy ∧
    (exampleFuel.point .p0).service.isSome = true ∧ (yard.point .p0).state ≠ .busy ∧
    State.reset.field.transfer = some GuideCodes.blank ∧ State.reset.assertReset.field.transfer = none ∧
    (exampleFuel.point .p0).qualifies = false ∧ (exampleFuel.modPoint .p0 (fun v => { v with qualifies := true })).point0.qualifies = true := by
  decide +kernel

theorem witness_LineEventsAndSlotsStartFrames :
    let owing : State := { withReports 1 yard with loader := { (withReports 1 yard).loader with retryAtQuiet := true } }
    State.reset.loader.resetHeld = false ∧ State.reset.line.phase = .quiet ∧ State.reset.line.deferral = some 0 ∧
    yard.line.phase = .busy ∧ yard.isSending = false ∧ yard.loader.retryAtQuiet = false ∧ owing.isSending = false ∧
    owing.line.phase ≠ .quiet ∧ owing.line.transmit.any (fun x => x.body.isReport) = false ∧ owing.transmitFull = false ∧
    owing.loader.reports.length = 1 ∧ isRejected (.length 41#8) = true := by decide +kernel

theorem witness_LineEventsAndSlotsStartFrames_slots :
    let s := withFrames [tx (.stray 7 (.lane 0)) 0]
      { node 600 [] with line := { (node 600 []).line with phase := .quiet, deferral := some 0 } }
    s.loader.resetHeld = false ∧ s.line.phase = .quiet ∧ s.line.deferral = some 0 ∧ s.line.muted = none ∧ s.isSending = false ∧
    s.line.transmit = [tx (.stray 7 (.lane 0)) 0] ∧ s.active = true ∧ (tx (.stray 7 (.lane 0)) 0).cls = .urgent ∧
    s.loader.address = 3 := by decide +kernel

/-- A STRAY, a BID, a REPORT, an OFFER and a TAKE of the node on the line. -/
theorem witness_OwnFramesAreHeardOrRetried :
    let on := fun (b : FrameBody) (s : State) => withFrames [{ tx b 0 with sending := true }] s
    let offered := on (.offer 22 0 (.visit (spare 77))) (holder .queued)
    (∀ b ∈ [FrameBody.stray 7 (.lane 0), .bid ⟨5, 6⟩ 4120 30 none, .report { sequence := 0, minute := 0, body := .noClock 1 0 }],
      (on b bidder).active = true ∧ (on b bidder).owesReoffer = false ∧
      ((on b bidder).line.transmit.find? (fun x => x.sending)).any (fun x => decide (x.body = b)) = true) ∧
    offered.active = true ∧ (offered.line.transmit.find? (fun x => x.sending)).isSome = true ∧
    offered.hand.offer.any (fun o => decide (o.phase = .queued) && decide (o.number = 22) && decide (o.key = .bus 77)) = true ∧
    (∃ e ∈ (on (.take ⟨5, 9⟩ 4117 40 (.lane 0) none) bidder).hand.bids, e.tag = ⟨5, 9⟩ ∧ e.state = .taken) ∧
    bidder.hand.offer = none ∧ (∀ x ∈ yard.line.transmit, x.sending = false) ∧ yard.line.muted = none := by decide +kernel

/-- The node's own SWAP OFFER and its re-offer on the line. -/
theorem witness_OwnFramesAreHeardOrRetried_swap :
    ∀ x ∈ [(OfferPhase.queued, 22), (.reofferQueued, 23)],
      let s := withFrames [{ tx (.offer x.2 0 (.swap { run := 305, cls := 2, wall := some 1000, departure := 1060, need := 1090 })) 0 with
        sending := true }] (swapHolder x.1 1)
      s.active = true ∧ (s.line.transmit.find? (fun y => y.sending)).isSome = true ∧ s.asksFor 305 = true ∧
      (∀ l ∈ s.lanes, (l.entries.map (fun e => e.visit.bus)).Nodup) ∧
      s.hand.offer.any (fun o => decide (o.key = .swapRun 305) && decide (o.phase = x.1) && decide (o.number = 22) &&
        decide (o.reNumber = 23)) = true := by decide +kernel

/-- A first and a second mismatch of a BID, and a second one of a REPORT. -/
theorem witness_OwnFramesAreHeardOrRetried_mismatches :
    let first := withFrames [{ tx (.bid ⟨5, 6⟩ 4120 30 none) 0 with sending := true }] bidder
    let second := withFrames [{ tx (.bid ⟨5, 6⟩ 4120 30 none) 0 with sending := true, mismatches := 1 }] bidder
    let r : Report := { sequence := 0, minute := 0, body := .noClock 1 0 }
    let report := withReports 1 (withFrames [{ tx (.report r) 0 with sending := true, mismatches := 1 }] bidder)
    first.active = true ∧ (first.line.transmit.find? (fun x => x.sending)).any (fun f => decide (f.mismatches = 0)) = true ∧
    (second.line.transmit.find? (fun x => x.sending)).any (fun f =>
      decide (f.mismatches ≠ 0) && decide (f.order < second.line.nextOrder)) = true ∧
    second.loader.reports.length < Config.reportCapacity ∧ report.loader.reports = [r] ∧
    (report.line.transmit.find? (fun x => x.sending)).any (fun f => decide (f.body = .report r)) = true := by decide +kernel

/-- The node's own TAKE on the line, for its own offer in each of the two states and for the old number of a re-offer that waits, and for another. -/
theorem witness_OwnFramesAreHeardOrRetried_take :
    let on := fun (number : Nat) (ph : OfferPhase) => withFrames [{ tx (.take ⟨3, number⟩ 77 40 (.lane 1) none) 0 with sending := true }]
      (offering { openOffer 22 ph (.bus 77) with reNumber := 23 } (holder ph))
    (∀ ph ∈ [OfferPhase.bidding, .takeWait, .reofferQueued], ∀ number ∈ [21, 22],
      (on number ph).active = true ∧ (on number ph).hand.offer.any (fun o => decide (o.phase = ph) && decide (o.key = .bus 77) &&
        decide (o.number = 22)) = true ∧
      ((on number ph).line.transmit.find? (fun x => x.sending)).any (fun x =>
        decide (x.body = .take ⟨3, number⟩ 77 40 (.lane 1) none)) = true) ∧
    ((on 22 .reofferQueued).item? (.bus 77)).any (fun i => decide (i.place = some .gate) && decide (i.cargo = .visit (spare 77))) = true ∧
    (on 22 .bidding).loader.address = 3 := by decide +kernel

/-- A TAKE that was being sent at a soft restart, heard, and at a first and a second mismatch, with the claim kept. -/
theorem witness_OwnFramesAreHeardOrRetried_restart :
    ∀ k ∈ [0, 1],
      let f := { tx (.take ⟨5, 9⟩ 4117 40 (.lane 0) none) 0 with sending := true, mismatches := k }
      let s : State := { bidder with line := { bidder.line with muted := some f } }
      s.active = true ∧ (∀ x ∈ s.line.transmit, x.sending = false) ∧ s.line.muted = some f ∧ f.sending = true ∧
      s.owesReoffer = false ∧ s.loader.reports.length < Config.reportCapacity ∧
      (∃ e ∈ s.laneEntries, e.state = .expected ∧ e.tag = some ⟨5, 9⟩) := by decide +kernel

/-- A TAKE on the line at a soft restart: its EXPECTED entry is kept (R44), and goes at the second mismatch of the frame
(R34, R174). -/
theorem test_take_discarded_after_restart :
    let s := withFrames [{ tx (.take ⟨5, 9⟩ 4117 40 (.lane 0) none) 0 with sending := true, mismatches := 1 }] bidder
    let kept : State → List Nat := fun t => t.laneEntries.map (fun e => e.visit.bus)
    runs (.restart (frame .control 0 3 [3, 0])) s (fun t => decide (kept t = [4117]) &&
      runs .readbackMismatch t (fun u => decide (kept u = []) && u.line.conflict && decide (u.loader.reports.map (fun r => r.body) =
        [.lineConflict 8 15 .readback]))) = true := by decide +kernel

/-- A second mismatch of a queued OFFER, at a node in service and in WAITING TIME, and of a re-offer. -/
theorem witness_OwnFramesAreHeardOrRetried_offers :
    let body := FrameBody.offer 22 0 (.visit (spare 77))
    let on := fun (b : FrameBody) (s : State) => withFrames [{ tx b 0 with sending := true, mismatches := 1 }] s
    let queuedOffer := on body (holder .queued)
    let waiting : State := { queuedOffer with loader := { queuedOffer.loader with node := .waitingTime } }
    let reoffer := on (.offer 23 22 (.visit (spare 77))) (offering { openOffer 22 .reofferQueued (.bus 77) with reNumber := 23 } (holder .queued))
    (∀ s ∈ [queuedOffer, waiting, reoffer], s.active = true ∧ s.loader.reports.length < Config.reportCapacity ∧
      (s.line.transmit.find? (fun x => x.sending)).any (fun f => decide (f.mismatches ≠ 0) && decide (f.order < s.line.nextOrder)) = true ∧
      (s.item? (.bus 77)).isSome = true ∧ s.line.transmit.length + s.line.muted.toList.length ≤ Config.transmitCapacity) ∧
    queuedOffer.inService = true ∧ waiting.inService = false ∧ queuedOffer.deadSwaps = [] ∧ queuedOffer.hand.bids = [] ∧
    queuedOffer.hand.outbound.Pairwise (fun x y => x.before y = true) ∧
    queuedOffer.hand.outbound.any (fun i => decide (i.ready ≤ queuedOffer.clock.m)) = true ∧
    queuedOffer.hand.offer.any (fun o => decide (o.phase = .queued) && decide (o.number = 22)) = true ∧
    reoffer.hand.offer.any (fun o => decide (o.phase = .reofferQueued) && decide (o.reNumber = 23)) = true ∧
    1 ≤ reoffer.hand.counter := by decide +kernel

end Sys2Proof.Tests
end

namespace Sys2Proof.Machine

open Sys2Proof

/-! ## What the operations on offers and frames leave as it is -/

/-- The node with the outbound list, the open offer, the waiting frames and the mark of R188 blanked: the part that an
operation on offers keeps. -/
def State.sansOffers (s : State) : State :=
  { s with
    hand := { outbound := [], joins := 0, offer := none, counter := 0, bids := s.hand.bids }
    line := { s.line with transmit := [], nextOrder := 0 }
    loader := { s.loader with retryAtQuiet := false } }

@[simp] theorem State.setRetry_sansOffers (v : Bool) (s : State) : (s.setRetry v).sansOffers = s.sansOffers := rfl

@[simp] theorem State.enqueue_sansOffers (b : FrameBody) (d : Nat) (s : State) :
    (s.enqueue b d).sansOffers = s.sansOffers := rfl

@[simp] theorem State.place_sansOffers (b : FrameBody) (d : Nat) (s : State) :
    (s.place b d).sansOffers = s.sansOffers := by
  rw [State.place_eq]; rfl

@[simp] theorem State.send_sansOffers (b : FrameBody) (s : State) : (s.send b).sansOffers = s.sansOffers :=
  State.place_sansOffers b _ s

@[simp] theorem State.dropFrames_sansOffers (p : FrameBody → Bool) (s : State) :
    (s.dropFrames p).sansOffers = s.sansOffers := rfl

@[simp] theorem State.modItem_sansOffers (k : ItemKey) (f : OutItem → OutItem) (s : State) :
    (s.modItem k f).sansOffers = s.sansOffers := rfl

@[simp] theorem State.removeItem_sansOffers (k : ItemKey) (s : State) : (s.removeItem k).sansOffers = s.sansOffers := rfl

@[simp] theorem State.takeNumber_sansOffers (s : State) : s.takeNumber.sansOffers = s.sansOffers := rfl

@[simp] theorem State.setOffer_sansOffers (o : Option OpenOffer) (s : State) : (s.setOffer o).sansOffers = s.sansOffers :=
  rfl

@[simp] theorem State.startOffer_sansOffers (it : OutItem) (s : State) : (s.startOffer it).sansOffers = s.sansOffers := by
  rcases State.startOffer_cases it s with ⟨-, e⟩ | ⟨-, e⟩ <;> simp [e]

@[simp] theorem State.placeReoffer_sansOffers (o : OpenOffer) (s : State) :
    (s.placeReoffer o).sansOffers = s.sansOffers := by
  unfold State.placeReoffer
  split
  · rfl
  · dsimp only; split <;> simp

@[simp] theorem State.offerTest_sansOffers (s : State) : s.offerTest.sansOffers = s.sansOffers := by
  rcases State.offerTest_cases s with e | ⟨-, o, -, -, -, e⟩ | ⟨-, -, it, rest, -, -, e⟩ <;> simp [e]

@[simp] theorem State.join_sansOffers (c : Cargo) (p : Option GuidePlace) (s : State) :
    (s.join c p).sansOffers = s.sansOffers := by
  rcases State.join_cases c p s with ⟨-, e⟩ | ⟨-, e⟩ <;> rw [e]
  rw [State.offerTest_sansOffers]; rfl

@[simp] theorem State.cancelOffer_sansOffers (k : ItemKey) (s : State) : (s.cancelOffer k).sansOffers = s.sansOffers := by
  unfold State.cancelOffer
  repeat' split
  all_goals rfl

@[simp] theorem State.testIfClosed_sansOffers (before s : State) :
    (State.testIfClosed before s).sansOffers = s.sansOffers := by
  unfold State.testIfClosed
  split <;> simp

/-- A fold of steps that keep a part of the node keeps it. -/
theorem foldl_keeps {α β : Type} (part : State → β) (f : State → α → State) (hf : ∀ t x, part (f t x) = part t)
    (l : List α) : ∀ s : State, part (l.foldl f s) = part s := by
  induction l with
  | nil => intro s; rfl
  | cons x xs ih => intro s; rw [List.foldl_cons, ih, hf]

/-- The requests of some runs taken out of the outbound list, with their open offer. -/
def State.dropRuns (s : State) (runs : List Nat) : State :=
  runs.foldl (fun t r => (t.cancelOffer (.swapRun r)).removeItem (.swapRun r)) s

@[simp] theorem State.dropRuns_nil (s : State) : s.dropRuns [] = s := rfl

theorem State.dropRuns_cons (r : Nat) (runs : List Nat) (s : State) :
    s.dropRuns (r :: runs) = ((s.cancelOffer (.swapRun r)).removeItem (.swapRun r)).dropRuns runs := rfl

@[simp] theorem State.dropRuns_sansOffers (s : State) (runs : List Nat) :
    (s.dropRuns runs).sansOffers = s.sansOffers :=
  foldl_keeps State.sansOffers _ (fun t r => by simp) runs s

/-- Swap requests are withdrawn where some entry has ceased to ask (R37). -/
theorem State.withdrawSwaps_cases (s : State) :
    (s.deadSwaps = [] ∧ s.withdrawSwaps = s) ∨
    (s.deadSwaps ≠ [] ∧ s.withdrawSwaps = (s.dropRuns s.deadSwaps).offerTest) := by
  unfold State.withdrawSwaps
  split
  · rename_i h; exact .inl ⟨h, rfl⟩
  · rename_i h; exact .inr ⟨h, rfl⟩

@[simp] theorem State.withdrawSwaps_sansOffers (s : State) : s.withdrawSwaps.sansOffers = s.sansOffers := by
  rcases State.withdrawSwaps_cases s with ⟨-, e⟩ | ⟨-, e⟩ <;> simp [e]

/-! ## The fields read off that part -/

section
variable {s t : State}

theorem State.lanes_of_offers (h : t.sansOffers = s.sansOffers) : t.lanes = s.lanes := (congrArg (fun u : State => u.lanes) h :)
theorem State.field_of_offers (h : t.sansOffers = s.sansOffers) : t.field = s.field := (congrArg (fun u : State => u.field) h :)
theorem State.clock_of_offers (h : t.sansOffers = s.sansOffers) : t.clock = s.clock := (congrArg (fun u : State => u.clock) h :)
theorem State.bids_of_offers (h : t.sansOffers = s.sansOffers) : t.hand.bids = s.hand.bids :=
  (congrArg (fun u => u.hand.bids) h :)
theorem State.reports_of_offers (h : t.sansOffers = s.sansOffers) : t.loader.reports = s.loader.reports :=
  (congrArg (fun u => u.loader.reports) h :)
theorem State.muted_of_offers (h : t.sansOffers = s.sansOffers) : t.line.muted = s.line.muted :=
  (congrArg (fun u => u.line.muted) h :)
theorem State.point_of_offers (h : t.sansOffers = s.sansOffers) (p : PointId) : t.point p = s.point p := by
  cases p
  · exact (congrArg (fun u : State => u.point0) h :)
  · exact (congrArg (fun u : State => u.point1) h :)

end

end Sys2Proof.Machine

namespace Sys2Proof.Machine

open Sys2Proof

/-! ## How often a list holds a thing, and how long it is

The two invariants of the lists (R20, R21, R30, R47, R86, R111, R170, R187) speak of counts: what each list holds stands
there at most once, and no list is longer than its capacity. An operation that adds nothing makes no count rise; the
operations that add something are few. -/

/-- A thing that a list of the node may hold at most once: a tag among the bids, a bus in a lane or a queue, a run among
the swap requests, a bus among the records. -/
inductive Spot where
  | tag (t : Tag)
  | lane (n b : Nat)
  | queue (p : PointId) (b : Nat)
  | swap (r : Nat)
  | record (b : Nat)
deriving DecidableEq

/-- A list of the node with a capacity. -/
inductive Store where
  | outbound
  | bids
  | reports
  | transmit
  | lane (n : Nat)
  | queue (p : PointId)
deriving DecidableEq

/-- The entries of lane `n`, none where there is no such lane. -/
def entriesAt (lanes : List Lane) (n : Nat) : List LaneEntry := ((lanes[n]?).map Lane.entries).getD []

/-- The bus of an entry and whether the entry stands for the bus's record. -/
def LaneEntry.slot (e : LaneEntry) : Nat × Bool := (e.visit.bus, e.isFront)

/-- The bus of an entry and whether the entry stands for the bus's record. -/
def QueueEntry.slot (e : QueueEntry) : Nat × Bool := (e.visit.bus, e.isFront)

/-- The names of the outbound items. -/
def State.keys (s : State) : List ItemKey := s.hand.outbound.map OutItem.key

/-- How often a list holds a thing. -/
def State.occurs (s : State) : Spot → Nat
  | .tag t => (s.hand.bids.map (fun b => b.tag)).count t
  | .lane n b => ((entriesAt s.lanes n).map (fun e => e.visit.bus)).count b
  | .queue p b => ((s.point p).queue.map (fun e => e.visit.bus)).count b
  | .swap r => s.keys.count (.swapRun r)
  | .record b => s.recordBuses.count b

/-- How long a list is. -/
def State.load (s : State) : Store → Nat
  | .outbound => s.hand.outbound.length
  | .bids => s.hand.bids.length
  | .reports => s.loader.reports.length
  | .transmit => s.line.transmit.length + s.line.muted.toList.length
  | .lane n => (entriesAt s.lanes n).length
  | .queue p => (s.point p).queue.length

/-- How long a list may be. -/
def Store.capacity : Store → Nat
  | .outbound => Config.outboundCapacity
  | .bids => Config.bidCapacity
  | .reports => Config.reportCapacity
  | .transmit => Config.transmitCapacity
  | .lane _ => Config.laneCapacity
  | .queue _ => Config.queueCapacity

/-- How far an operation that joins nothing to bids, lanes and queues may fill a list: the outbound list, the reports and
the frames up to their capacity. -/
def Store.slack : Store → Nat
  | .outbound => Config.outboundCapacity
  | .reports => Config.reportCapacity
  | .transmit => Config.transmitCapacity
  | _ => 0

theorem Store.slack_le_capacity (x : Store) : x.slack ≤ x.capacity := by
  cases x <;> simp [Store.slack, Store.capacity]

theorem mem_entriesAt {lanes : List Lane} {n : Nat} {e : LaneEntry} :
    e ∈ entriesAt lanes n ↔ ∃ l, lanes[n]? = some l ∧ e ∈ l.entries := by
  unfold entriesAt
  cases h : lanes[n]? <;> simp

theorem entriesAt_of_getElem? {lanes : List Lane} {n : Nat} {l : Lane} (h : lanes[n]? = some l) :
    entriesAt lanes n = l.entries := by
  simp [entriesAt, h]

/-- A statement of every lane of a list, said by number. -/
theorem forall_lanes_iff {lanes : List Lane} {P : List LaneEntry → Prop} (h0 : P []) :
    (∀ l ∈ lanes, P l.entries) ↔ ∀ n, P (entriesAt lanes n) := by
  constructor
  · intro h n
    cases hl : lanes[n]? with
    | none => simpa [entriesAt, hl] using h0
    | some l => rw [entriesAt_of_getElem? hl]; exact h l (List.mem_of_getElem? hl)
  · intro h l hl
    obtain ⟨n, hn⟩ := List.mem_iff_getElem?.1 hl
    rw [← entriesAt_of_getElem? hn]
    exact h n

/-- The capacities, list by list. -/
theorem State.withinCapacity_iff (s : State) : s.withinCapacity ↔ ∀ x : Store, s.load x ≤ x.capacity := by
  unfold State.withinCapacity
  rw [forall_lanes_iff (P := fun l => l.length ≤ Config.laneCapacity) (by simp)]
  constructor
  · rintro ⟨ho, hb, hr, hx, hl, hq⟩ (_ | _ | _ | _ | n | p)
    exacts [ho, hb, hr, hx, hl n, hq p]
  · intro h
    exact ⟨h .outbound, h .bids, h .reports, h .transmit, fun n => h (.lane n), fun p => h (.queue p)⟩

/-- Whether an entry stands for the record of a bus. -/
def LaneEntry.holds (b : Nat) (e : LaneEntry) : Bool := e.isFront && decide (e.visit.bus = b)

/-- Whether an entry stands for the record of a bus. -/
def QueueEntry.holds (b : Nat) (e : QueueEntry) : Bool := e.isFront && decide (e.visit.bus = b)

theorem count_visit_buses (l : List OutItem) (b : Nat) :
    ((l.filterMap OutItem.visit?).map (fun r => r.bus)).count b = (l.map OutItem.key).count (.bus b) := by
  induction l with
  | nil => rfl
  | cons i l ih =>
    obtain ⟨c, r, j, o, n, p⟩ := i
    cases c with
    | visit v => simp [OutItem.visit?, OutItem.key, List.count_cons, ih]
    | swap q => simpa [OutItem.visit?, OutItem.key, List.filterMap_cons] using ih

theorem count_map_filter {α : Type} (front : α → Bool) (bus : α → Nat) (l : List α) (b : Nat) :
    ((l.filter front).map bus).count b = l.countP (fun e => front e && decide (bus e = b)) := by
  rw [List.count, List.countP_map, List.countP_filter]
  congr 1
  funext e
  simp [Bool.and_comm, eq_comm, beq_eq_decide]

/-- The records of a bus: in the outbound list, in the two queues, in the lanes. -/
theorem State.occurs_record (s : State) (b : Nat) :
    s.occurs (.record b) = s.keys.count (.bus b) + s.point0.queue.countP (QueueEntry.holds b)
      + s.point1.queue.countP (QueueEntry.holds b) + s.laneEntries.countP (LaneEntry.holds b) := by
  simp only [State.occurs, State.recordBuses, List.count_append, count_visit_buses, count_map_filter]
  rfl

/-- The records of a bus after one queue is replaced. -/
theorem State.occurs_record_setPoint (s : State) (p : PointId) (v : Point) (b : Nat) :
    (s.setPoint p v).occurs (.record b) + (s.point p).queue.countP (QueueEntry.holds b)
      = s.occurs (.record b) + v.queue.countP (QueueEntry.holds b) := by
  simp only [State.occurs_record]
  cases p <;> simp only [State.setPoint, State.point, State.keys, State.laneEntries] <;> omega

/-- The records of a bus after the lanes are replaced. -/
theorem State.occurs_record_setLanes (s : State) (lanes : List Lane) (b : Nat) :
    (s.setLanes lanes).occurs (.record b) + s.laneEntries.countP (LaneEntry.holds b)
      = s.occurs (.record b) + (lanes.flatMap Lane.entries).countP (LaneEntry.holds b) := by
  simp only [State.occurs_record, State.setLanes, State.keys, State.laneEntries]
  exact Nat.add_right_comm _ _ _

/-- What the node holds once, thing by thing. -/
theorem State.entriesDistinct_iff (s : State) : s.entriesDistinct ↔ ∀ x : Spot, s.occurs x ≤ 1 := by
  unfold State.entriesDistinct
  rw [forall_lanes_iff (P := fun l => (l.map (fun e => e.visit.bus)).Nodup) (by simp)]
  simp only [List.nodup_iff_count_le_one]
  constructor
  · rintro ⟨ht, hq, hl, hk, hr⟩ (t | ⟨n, b⟩ | ⟨p, b⟩ | r | b)
    exacts [ht t, hl n b, hq p b, hk _, hr b]
  · intro h
    refine ⟨fun t => h (.tag t), fun p b => h (.queue p b), fun n b => h (.lane n b), fun k => ?_, fun b => h (.record b)⟩
    cases k with
    | swapRun r => exact h (.swap r)
    | bus b =>
      have := h (.record b)
      rw [State.occurs_record] at this
      unfold State.keys at this
      omega

/-! ## Operations that add nothing -/

/-- From `s` to `t` no list but the outbound list, the reports and the frames grows, those not past their capacities, and, where the node holds
everything once, nothing is held more often. -/
structure State.Shrinks (s t : State) : Prop where
  load : ∀ x : Store, t.load x ≤ max (s.load x) x.slack
  occurs : s.entriesDistinct → ∀ x : Spot, t.occurs x ≤ s.occurs x

/-- What a step keeps of the two invariants of the lists. -/
structure State.Keeps (s t : State) : Prop where
  capacity : s.withinCapacity → t.withinCapacity
  distinct : s.entriesDistinct → t.entriesDistinct

theorem State.Shrinks.keeps {s t : State} (h : s.Shrinks t) : s.Keeps t := by
  refine ⟨fun hc => ?_, fun hd => ?_⟩
  · rw [State.withinCapacity_iff] at hc ⊢
    exact fun x => (h.load x).trans (max_le (hc x) x.slack_le_capacity)
  · have hle := h.occurs hd
    rw [State.entriesDistinct_iff] at hd ⊢
    exact fun x => (hle x).trans (hd x)

theorem State.Keeps.refl (s : State) : s.Keeps s := ⟨id, id⟩

theorem State.Keeps.trans {s t u : State} (h : s.Keeps t) (h' : t.Keeps u) : s.Keeps u :=
  ⟨fun hc => h'.capacity (h.capacity hc), fun hd => h'.distinct (h.distinct hd)⟩

theorem State.Shrinks.refl (s : State) : s.Shrinks s := ⟨fun _ => le_max_left _ _, fun _ _ => le_rfl⟩

theorem State.Shrinks.trans {s t u : State} (h : s.Shrinks t) (h' : t.Shrinks u) : s.Shrinks u :=
  ⟨fun x => (h'.load x).trans (max_le (h.load x) (le_max_right _ _)),
    fun hd x => (h'.occurs (h.keeps.distinct hd) x).trans (h.occurs hd x)⟩

/-- A fold of steps each of which adds nothing adds nothing. -/
theorem State.Shrinks.foldl {α : Type} {f : State → α → State} (hf : ∀ (t : State) (x : α), t.Shrinks (f t x)) (l : List α) :
    ∀ s : State, s.Shrinks (l.foldl f s) := by
  induction l with
  | nil => exact State.Shrinks.refl
  | cons x xs ih => exact fun s => (hf s x).trans (ih _)

/-- What an operation on offers and frames has to show: no new item, and no more frames than there may be. -/
theorem State.Shrinks.of_offers {s t : State} (h : t.sansOffers = s.sansOffers) (hk : t.keys.Subperm s.keys)
    (hx : t.load .transmit ≤ max (s.load .transmit) Config.transmitCapacity) : s.Shrinks t := by
  have hl := State.lanes_of_offers h
  have hb := State.bids_of_offers h
  have hp := State.point_of_offers h
  have hr := State.reports_of_offers h
  refine ⟨fun x => ?_, fun _ x => ?_⟩
  · cases x with
    | outbound => exact (le_max_left _ _).trans' (by simpa [State.keys, State.load] using hk.length_le)
    | transmit => exact hx
    | bids => simp [State.load, hb]
    | reports => simp [State.load, hr]
    | lane n => simp [State.load, hl]
    | queue p => simp [State.load, hp]
  · cases x with
    | tag t => simp [State.occurs, hb]
    | lane n b => simp [State.occurs, hl]
    | queue p b => simp [State.occurs, hp]
    | swap r => exact hk.count_le _
    | record b =>
      have h0 := hp .p0
      have h1 := hp .p1
      simp only [State.point] at h0 h1
      have := hk.count_le (.bus b)
      simp only [State.occurs_record, State.laneEntries, hl, h0, h1]
      omega

/-- An operation that leaves the outbound list and the frames too. -/
theorem State.Shrinks.of_same {s t : State} (h : t.sansOffers = s.sansOffers)
    (ho : t.hand.outbound = s.hand.outbound) (hx : t.line.transmit = s.line.transmit) : s.Shrinks t :=
  .of_offers h (by rw [State.keys, ho]; exact List.Subperm.refl _)
    (by simp [State.load, hx, State.muted_of_offers h])

/-- What a change of the lanes alone has to show: no lane is longer, and each holds the entries it held, those that stand
for a record no more often. -/
theorem State.Shrinks.setLanes {s : State} {lanes : List Lane}
    (hn : List.Forall₂ (fun l' l => l'.entries.length ≤ l.entries.length) lanes s.lanes)
    (hs : s.entriesDistinct → List.Forall₂
      (fun l' l => (l'.entries.map LaneEntry.slot).Subperm (l.entries.map LaneEntry.slot)) lanes s.lanes) :
    s.Shrinks (s.setLanes lanes) := by
  refine ⟨fun x => ?_, fun hd x => ?_⟩
  · cases x with
    | lane n =>
      refine (le_max_left _ _).trans' ?_
      simp only [State.load, State.setLanes_lanes]
      generalize s.lanes = old at hn
      clear hs
      induction hn generalizing n with
      | nil => simp
      | cons h _ ih =>
        cases n with
        | zero => simpa [entriesAt] using h
        | succ n => exact ih n
    | _ => exact le_max_left _ _
  · replace hs := hs hd
    clear hd hn
    cases x with
    | lane n b =>
      simp only [State.occurs, State.setLanes_lanes]
      generalize s.lanes = old at hs
      induction hs generalizing n with
      | nil => simp
      | cons h _ ih =>
        cases n with
        | zero => simpa [entriesAt, List.count, List.countP_map, Function.comp_def, LaneEntry.slot]
            using h.countP_le (fun x => x.1 == b)
        | succ n => exact ih n
    | record b =>
      have key : (lanes.flatMap Lane.entries).countP (LaneEntry.holds b)
          ≤ (s.lanes.flatMap Lane.entries).countP (LaneEntry.holds b) := by
        generalize s.lanes = old at hs
        induction hs with
        | nil => simp
        | cons h _ ih =>
          have := h.countP_le (fun x => x.2 && decide (x.1 = b))
          simp only [List.countP_map] at this
          simp only [List.flatMap_cons, List.countP_append]
          exact Nat.add_le_add this ih
      simp only [State.occurs_record]
      exact Nat.add_le_add_left key _
    | _ => exact le_rfl

theorem State.Shrinks.setPoint {s : State} {p : PointId} {v : Point}
    (hn : v.queue.length ≤ (s.point p).queue.length)
    (hs : s.entriesDistinct → (v.queue.map QueueEntry.slot).Subperm ((s.point p).queue.map QueueEntry.slot)) :
    s.Shrinks (s.setPoint p v) := by
  refine ⟨fun x => ?_, fun hd x => ?_⟩
  · cases x with
    | queue q =>
      refine (le_max_left _ _).trans' ?_
      by_cases h : q = p
      · subst h; simpa [State.load] using hn
      · simp [State.load, State.setPoint_point_of_ne p q v s h]
    | _ => simp [State.load]
  · have hs := hs hd
    cases x with
    | queue q b =>
      by_cases h : q = p
      · subst h
        simpa [State.occurs, List.count, List.countP_map, Function.comp_def, QueueEntry.slot]
          using hs.countP_le (fun x => x.1 == b)
      · simp [State.occurs, State.setPoint_point_of_ne p q v s h]
    | record b =>
      have key := hs.countP_le (fun x => x.2 && decide (x.1 = b))
      simp only [List.countP_map] at key
      change v.queue.countP (QueueEntry.holds b) ≤ (s.point p).queue.countP (QueueEntry.holds b) at key
      simp only [State.occurs_record]
      cases p
      · exact Nat.add_le_add_right (Nat.add_le_add_right (Nat.add_le_add_left key _) _) _
      · exact Nat.add_le_add_right (Nat.add_le_add_left key _) _
    | _ => simp [State.occurs, State.keys]

theorem State.Shrinks.modPoint {s : State} {p : PointId} {f : Point → Point}
    (hn : (f (s.point p)).queue.length ≤ (s.point p).queue.length)
    (hs : s.entriesDistinct → ((f (s.point p)).queue.map QueueEntry.slot).Subperm ((s.point p).queue.map QueueEntry.slot)) :
    s.Shrinks (s.modPoint p f) := .setPoint hn hs

end Sys2Proof.Machine

namespace Sys2Proof.Machine

open Sys2Proof

/-! ## The shared operations add nothing -/

/-- An operation that touches no list. -/
theorem State.Shrinks.of_lists {s t : State} (ho : t.hand.outbound = s.hand.outbound := by rfl)
    (hb : t.hand.bids = s.hand.bids := by rfl) (hr : t.loader.reports = s.loader.reports := by rfl)
    (hx : t.line.transmit = s.line.transmit := by rfl) (hm : t.line.muted = s.line.muted := by rfl)
    (hl : t.lanes = s.lanes := by rfl) (h0 : t.point0.queue = s.point0.queue := by rfl)
    (h1 : t.point1.queue = s.point1.queue := by rfl) : s.Shrinks t := by
  have hp : ∀ p, (t.point p).queue = (s.point p).queue := by
    intro p; cases p; exacts [h0, h1]
  refine ⟨fun x => (le_max_left _ _).trans' ?_, fun _ x => ?_⟩
  · cases x <;> simp [State.load, ho, hb, hr, hx, hm, hl, hp]
  · cases x with
    | record b => simp [State.occurs_record, State.keys, State.laneEntries, ho, hl, h0, h1]
    | _ => simp [State.occurs, State.keys, ho, hb, hl, hp]

@[simp] theorem OutItem.key_with (i : OutItem) (r j o n : Nat) (p : Option GuidePlace) :
    OutItem.key { i with ready := r, joinOrder := j, offerCount := o, lastNumber := n, place := p } = i.key := rfl

theorem insertItem_perm (i : OutItem) (l : List OutItem) : (insertItem i l).Perm (i :: l) := by
  induction l with
  | nil => exact .refl _
  | cons x xs ih =>
    unfold insertItem
    split
    · exact (ih.cons x).trans (List.Perm.swap i x xs)
    · exact .refl _

theorem foldl_insertItem_perm (l : List OutItem) :
    ∀ acc, (l.foldl (fun acc i => insertItem i acc) acc).Perm (l ++ acc) := by
  induction l with
  | nil => exact fun acc => .refl _
  | cons x xs ih =>
    intro acc
    exact (ih _).trans (((insertItem_perm x acc).append_left xs).trans List.perm_middle)

theorem sortItems_perm (l : List OutItem) : (sortItems l).Perm l := by
  simpa [sortItems] using foldl_insertItem_perm l []

/-! A join (R21) -/

/-- The node with a new item at its place in the outbound list, before the test of R23. -/
def State.joined (c : Cargo) (g : Option GuidePlace) (s : State) : State :=
  { s with hand := { s.hand with
      outbound := insertItem { cargo := c, ready := s.clock.m, joinOrder := s.hand.joins, offerCount := 0,
                               lastNumber := 0, place := g } s.hand.outbound
      joins := s.hand.joins + 1 } }

theorem State.join_of_room {c : Cargo} {g : Option GuidePlace} {s : State} (h : s.outboundFull = false) :
    s.join c g = (s.joined c g).offerTest := by
  simp only [State.join, h]; rfl

theorem State.join_of_full {c : Cargo} {g : Option GuidePlace} {s : State} (h : s.outboundFull = true) :
    s.join c g = s := by
  simp [State.join, h]

/-- The name an item with a cargo has. -/
def Cargo.key : Cargo → ItemKey
  | .visit r => .bus r.bus
  | .swap q => .swapRun q.run

/-- What a cargo adds to the lists. -/
def Cargo.spot : Cargo → Spot
  | .visit r => .record r.bus
  | .swap q => .swap q.run

theorem OutItem.key_eq (i : OutItem) : i.key = i.cargo.key := by
  obtain ⟨c, r, j, o, n, p⟩ := i
  cases c <;> rfl

theorem State.joined_keys (c : Cargo) (g : Option GuidePlace) (s : State) (k : ItemKey) :
    (s.joined c g).keys.count k = s.keys.count k + if k = c.key then 1 else 0 := by
  rw [State.keys, State.joined, ((insertItem_perm _ _).map OutItem.key).count_eq, List.map_cons, List.count_cons,
    OutItem.key_eq]
  simp only [beq_iff_eq, eq_comm (a := c.key)]
  rfl

theorem State.joined_occurs (c : Cargo) (g : Option GuidePlace) (s : State) (x : Spot) :
    (s.joined c g).occurs x = s.occurs x + if x = c.spot then 1 else 0 := by
  cases x with
  | swap r =>
    simp only [State.occurs, State.joined_keys]
    cases c <;> simp [Cargo.spot, Cargo.key]
  | record b =>
    have hl : (s.joined c g).laneEntries = s.laneEntries := rfl
    have h0 : (s.joined c g).point0 = s.point0 := rfl
    have h1 : (s.joined c g).point1 = s.point1 := rfl
    simp only [State.occurs_record, State.joined_keys, hl, h0, h1]
    cases c <;> simp [Cargo.spot, Cargo.key] <;> omega
  | _ => cases c <;> simp [Cargo.spot] <;> rfl

theorem State.joined_load (c : Cargo) (g : Option GuidePlace) (s : State) (x : Store) :
    (s.joined c g).load x = s.load x + if x = .outbound then 1 else 0 := by
  cases x with
  | outbound => exact insertItem_length _ _
  | _ => rfl

/-- A change of one item that leaves its name keeps the names of the outbound list. -/
theorem State.modItem_keys {k : ItemKey} {f : OutItem → OutItem} {s : State}
    (hf : ∀ i ∈ s.hand.outbound, i.key = k → (f i).key = k) : (s.modItem k f).keys.Perm s.keys := by
  refine ((sortItems_perm _).map OutItem.key).trans (.of_eq ?_)
  rw [List.map_map]
  refine List.map_congr_left (fun i hi => ?_)
  by_cases h : i.key = k
  · simp [h, hf i hi h]
  · simp [h]

theorem State.Shrinks.modItem {k : ItemKey} {f : OutItem → OutItem} {s : State}
    (hf : ∀ i ∈ s.hand.outbound, i.key = k → (f i).key = k) : s.Shrinks (s.modItem k f) :=
  .of_offers rfl (State.modItem_keys hf).subperm (le_max_left _ _)

theorem State.removeItem_shrinks (k : ItemKey) (s : State) : s.Shrinks (s.removeItem k) :=
  .of_offers rfl ((List.filter_sublist).map OutItem.key).subperm (le_max_left _ _)

theorem State.place_shrinks (b : FrameBody) (d : Nat) (s : State) : s.Shrinks (s.place b d) := by
  refine .of_offers (State.place_sansOffers b d s) (by rw [State.place_eq]; exact .refl _) ?_
  rcases State.place_cases b d s with ⟨hf, e⟩ | ⟨-, -, ha, e⟩ | ⟨-, e⟩ <;> rw [e]
  · simp only [State.transmitFull, decide_eq_false_iff_not] at hf
    simp only [State.load, State.enqueue, insertFrame_length]
    omega
  · obtain ⟨f, hf, hd⟩ := List.any_eq_true.1 ha
    have hl := List.length_eraseP_of_mem hf hd
    have hpos := List.length_pos_of_mem hf
    simp only [State.load, State.enqueue, State.displace, State.setRetry, insertFrame_length, hl]
    omega
  · exact le_max_left _ _

theorem State.send_shrinks (b : FrameBody) (s : State) : s.Shrinks (s.send b) := State.place_shrinks b _ s

theorem State.dropFrames_shrinks (p : FrameBody → Bool) (s : State) : s.Shrinks (s.dropFrames p) :=
  .of_offers rfl (.refl _)
    ((le_max_left _ _).trans' (Nat.add_le_add_right (List.length_filter_le _ _) _))

theorem State.setOffer_shrinks (o : Option OpenOffer) (s : State) : s.Shrinks (s.setOffer o) := .of_lists

theorem State.takeNumber_shrinks (s : State) : s.Shrinks s.takeNumber := .of_lists

theorem State.startOffer_shrinks (it : OutItem) (s : State) : s.Shrinks (s.startOffer it) := by
  rcases State.startOffer_cases it s with ⟨-, e⟩ | ⟨-, e⟩ <;> rw [e]
  · have h : s.Shrinks (s.takeNumber.modItem it.key (fun i => { i with offerCount := 1 })) :=
      (State.takeNumber_shrinks s).trans (.modItem (fun i _ hi => hi))
    exact (h.trans (State.setOffer_shrinks _ _)).trans (State.send_shrinks _ _)
  · exact State.takeNumber_shrinks s

theorem State.placeReoffer_shrinks (o : OpenOffer) (s : State) : s.Shrinks (s.placeReoffer o) := by
  unfold State.placeReoffer
  split
  · exact State.setOffer_shrinks _ _
  · have h : s.Shrinks (s.takeNumber.modItem o.key (fun i => { i with offerCount := 2 })) :=
      (State.takeNumber_shrinks s).trans (.modItem (fun i _ hi => hi))
    dsimp only
    split
    · exact (h.trans (State.setOffer_shrinks _ _)).trans (State.send_shrinks _ _)
    · exact h.trans (State.setOffer_shrinks _ _)

theorem State.offerTest_shrinks (s : State) : s.Shrinks s.offerTest := by
  rcases State.offerTest_cases s with e | ⟨-, o, -, -, -, e⟩ | ⟨-, -, it, rest, -, -, e⟩ <;> rw [e]
  · exact .refl s
  · exact State.placeReoffer_shrinks o s
  · exact State.startOffer_shrinks it s

theorem State.testIfClosed_shrinks (before s : State) : s.Shrinks (State.testIfClosed before s) := by
  unfold State.testIfClosed
  split
  · exact State.offerTest_shrinks s
  · exact .refl s

theorem State.cancelOffer_shrinks (k : ItemKey) (s : State) : s.Shrinks (s.cancelOffer k) := by
  unfold State.cancelOffer
  repeat' split
  · exact (State.setOffer_shrinks none s).trans (State.dropFrames_shrinks _ _)
  all_goals exact .refl s

theorem State.dropRuns_shrinks (s : State) (runs : List Nat) : s.Shrinks (s.dropRuns runs) :=
  .foldl (fun t r => (State.cancelOffer_shrinks _ t).trans (State.removeItem_shrinks _ _)) runs s

theorem State.withdrawSwaps_shrinks (s : State) : s.Shrinks s.withdrawSwaps := by
  rcases State.withdrawSwaps_cases s with ⟨-, e⟩ | ⟨-, e⟩ <;> rw [e]
  · exact .refl s
  · exact (State.dropRuns_shrinks s _).trans (State.offerTest_shrinks _)

/-! Reports and guidance -/

theorem State.setReports_shrinks {l : List Report} {s : State}
    (h : l.length ≤ max s.loader.reports.length Config.reportCapacity) : s.Shrinks (s.setReports l) := by
  refine ⟨fun x => ?_, fun _ x => ?_⟩
  · cases x with
    | reports => exact h
    | _ => exact le_max_left _ _
  · cases x <;> exact le_rfl

theorem State.countReport_shrinks (s : State) : s.Shrinks s.countReport := .of_lists

theorem State.setRetry_shrinks (v : Bool) (s : State) : s.Shrinks (s.setRetry v) := .of_lists

theorem State.placeHeadReport_shrinks (s : State) : s.Shrinks s.placeHeadReport := by
  unfold State.placeHeadReport
  repeat' split
  · exact State.setRetry_shrinks _ s
  · exact .refl s
  · exact (State.setRetry_shrinks _ s).trans (State.place_shrinks _ _ _)

theorem State.report_shrinks (b : ReportBody) (s : State) : s.Shrinks (s.report b) := by
  have joined : ∀ l : List Report, l.length ≤ max s.loader.reports.length Config.reportCapacity →
      s.Shrinks (s.countReport.setReports l) :=
    fun l h => (State.countReport_shrinks s).trans (State.setReports_shrinks h)
  unfold State.report
  dsimp only
  repeat' split
  · exact .refl s
  · exact (joined _ (by simp; omega)).trans (State.placeHeadReport_shrinks _)
  · exact joined _ (by simp; omega)
  · exact joined _ (by simp [Config.reportCapacity] at *; omega)
  · exact ((joined _ (by simp [Config.reportCapacity] at *; omega)).trans (State.dropFrames_shrinks _ _)).trans
      (State.placeHeadReport_shrinks _)

theorem State.popReport_shrinks (s : State) : s.Shrinks s.popReport :=
  ((State.setReports_shrinks (by simp)).trans (State.setRetry_shrinks _ _)).trans (State.placeHeadReport_shrinks _)

theorem State.setGuide_shrinks (place : GuidePlace) (code : Guide) (bus : Option Nat) (s : State) :
    s.Shrinks (s.setGuide place code bus) := by
  rw [State.setGuide_eq]; exact .of_lists

theorem State.reportAdjusted_shrinks (bus run wall : Nat) (s : State) : s.Shrinks (s.reportAdjusted bus run wall) := by
  unfold State.reportAdjusted
  split
  · exact State.report_shrinks _ s
  · exact .refl s

/-! Lanes -/

theorem forall₂_map_lanes {R : Lane → Lane → Prop} {f : Lane → Lane} (h : ∀ l, R (f l) l) (lanes : List Lane) :
    List.Forall₂ R (lanes.map f) lanes := by
  rw [List.forall₂_map_left_iff]
  exact List.forall₂_same.2 (fun l _ => h l)

theorem forall₂_modify_lane {R : Lane → Lane → Prop} {f : Lane → Lane} (hr : ∀ l, R l l) {lanes : List Lane} {n : Nat}
    (h : ∀ l, lanes[n]? = some l → R (f l) l) : List.Forall₂ R (lanes.modify n f) lanes := by
  induction lanes generalizing n with
  | nil => simp
  | cons x xs ih =>
    cases n with
    | zero => simpa using ⟨h x rfl, fun l _ => hr l⟩
    | succ n => simpa using ⟨hr x, ih (fun l hl => h l (by simpa using hl))⟩

theorem forall₂_mapLanesFrom {R : Lane → Lane → Prop} {f : Nat → Lane → Lane} (h : ∀ n l, R (f n l) l)
    (lanes : List Lane) : ∀ n, List.Forall₂ R (mapLanesFrom f n lanes) lanes := by
  induction lanes with
  | nil => exact fun n => .nil
  | cons x xs ih => exact fun n => .cons (h n x) (ih _)

/-- A change of every lane that makes none longer and keeps the slots of each. -/
theorem State.Shrinks.mapLanes {s : State} {f : Lane → Lane}
    (h : ∀ l, ((f l).entries.map LaneEntry.slot).Subperm (l.entries.map LaneEntry.slot)) :
    s.Shrinks (s.setLanes (s.lanes.map f)) :=
  .setLanes (forall₂_map_lanes (fun l => by simpa using (h l).length_le) _) (fun _ => forall₂_map_lanes h _)

/-- A change of one lane that makes it no longer and, in a node that holds everything once, keeps its slots. -/
theorem State.Shrinks.modLane {s : State} {n : Nat} {f : Lane → Lane}
    (hn : ∀ l, s.lanes[n]? = some l → (f l).entries.length ≤ l.entries.length)
    (h : s.entriesDistinct → ∀ l, s.lanes[n]? = some l →
      ((f l).entries.map LaneEntry.slot).Subperm (l.entries.map LaneEntry.slot)) : s.Shrinks (s.modLane n f) :=
  .setLanes (forall₂_modify_lane (fun l => Nat.le_refl l.entries.length) hn)
    (fun hd => forall₂_modify_lane (fun l => List.Subperm.refl (l.entries.map LaneEntry.slot)) (h hd))

theorem map_slot_map {g : LaneEntry → LaneEntry} (hg : ∀ e, (g e).slot = e.slot) (l : List LaneEntry) :
    (l.map g).map LaneEntry.slot = l.map LaneEntry.slot := by
  simp [Function.comp_def, hg]

/-- Entries of every lane changed in their places, none in its bus or from or to the front part. -/
theorem State.Shrinks.mapEntries {s : State} {g : LaneEntry → LaneEntry} (hg : ∀ e, (g e).slot = e.slot) :
    s.Shrinks (s.setLanes (s.lanes.map (fun l => { l with entries := l.entries.map g }))) :=
  .mapLanes (fun l => by dsimp only; rw [map_slot_map hg])

/-- Entries of one lane changed in their places, none in its bus or from or to the front part. -/
theorem State.Shrinks.modEntries {s : State} {n : Nat} {f : Lane → Lane} {g : LaneEntry → LaneEntry}
    (hf : ∀ l, (f l).entries = l.entries.map g) (hg : ∀ e, (g e).slot = e.slot) : s.Shrinks (s.modLane n f) :=
  .modLane (fun l _ => by simp [hf]) (fun _ l _ => by rw [hf, map_slot_map hg])

/-- A lane's marks changed, its entries kept. -/
theorem State.Shrinks.modLane_same {s : State} {n : Nat} {f : Lane → Lane} (hf : ∀ l, (f l).entries = l.entries) :
    s.Shrinks (s.modLane n f) :=
  .modLane (fun l _ => by simp [hf]) (fun _ l _ => by rw [hf])

theorem State.modLaneBus_shrinks {b : Nat} {f : LaneEntry → LaneEntry} (hf : ∀ e, (f e).slot = e.slot) (s : State) :
    s.Shrinks (s.modLaneBus b f) :=
  .mapEntries (fun e => by split <;> simp [hf])

theorem State.removeLaneEntries_shrinks (p : Nat → LaneEntry → Bool) (s : State) : s.Shrinks (s.removeLaneEntries p) := by
  refine .setLanes (forall₂_mapLanesFrom (fun n l => ?_) _ 0) (fun _ => forall₂_mapLanesFrom (fun n l => ?_) _ 0)
  · rw [Lane.without_entries]; exact List.length_filter_le _ _
  · rw [Lane.without_entries]; exact ((List.filter_sublist).map _).subperm

theorem State.overfullTest_shrinks (n b : Nat) (s : State) : s.Shrinks (s.overfullTest n b) := by
  unfold State.overfullTest
  repeat' split
  · exact .refl s
  · dsimp only
    split
    · have h : s.Shrinks (s.modLane n (fun l => { l with overfull := true })) := .modLane_same (fun l => rfl)
      exact h.trans (State.report_shrinks _ _)
    · exact .modLane_same (fun l => rfl)

/-- The buses of a lane of a node that holds everything once. -/
theorem State.lane_nodup {s : State} (h : s.entriesDistinct) {n : Nat} {l : Lane} (hl : s.lanes[n]? = some l) :
    (l.entries.map (fun e => e.visit.bus)).Nodup := h.2.2.1 l (List.mem_of_getElem? hl)

/-- A call (R133) of an entry whose bus the lane holds in its front part alone. -/
theorem State.callEntry_shrinks {n : Nat} {e : LaneEntry} {s : State}
    (h : s.entriesDistinct → ∀ l, s.lanes[n]? = some l → ∀ x ∈ l.entries, x.visit.bus = e.visit.bus → x.isFront = true) :
    s.Shrinks (s.callEntry n e) := by
  refine State.Shrinks.trans (.modLane (fun l _ => by simp) (fun hd l hl => ?_))
    ((State.send_shrinks _ _).trans (State.withdrawSwaps_shrinks _))
  refine (List.Perm.of_eq ?_).subperm
  rw [List.map_map]
  refine List.map_congr_left (fun x hx => ?_)
  by_cases hb : x.visit.bus = e.visit.bus
  · simpa [hb, LaneEntry.slot, LaneEntry.isFront] using h hd l hl x hx hb
  · simp [hb]

/-- Two entries of one bus in a lane of a node that holds everything once are the same. -/
theorem State.lane_entry_unique {s : State} (hd : s.entriesDistinct) {n : Nat} {l : Lane} (hl : s.lanes[n]? = some l)
    {x e : LaneEntry} (hx : x ∈ l.entries) (he : e ∈ l.entries) (hb : x.visit.bus = e.visit.bus) : x = e :=
  List.inj_on_of_nodup_map (State.lane_nodup hd hl) hx he hb

theorem LaneEntry.isFront_of_isDue {lead m : Nat} {e : LaneEntry} (h : e.isDue lead m = true) : e.isFront = true := by
  simp only [LaneEntry.isDue, Bool.and_eq_true, decide_eq_true_eq] at h
  simp [LaneEntry.isFront, h.1]

theorem State.headTest_shrinks (n : Nat) (s : State) : s.Shrinks (s.headTest n) := by
  rcases State.headTest_cases n s with e | ⟨-, -, e, hh, hdue, eq⟩
  · rw [e]; exact .refl s
  · rw [eq]
    refine State.callEntry_shrinks (fun hd l hl x hx hb => ?_)
    rw [hl, Option.bind_some] at hh
    rw [State.lane_entry_unique hd hl hx (List.mem_of_head? hh) hb]
    exact LaneEntry.isFront_of_isDue hdue

/-! Records, bids and heads -/

theorem State.Shrinks.setBids {s t : State} (h : t = { s with hand := { s.hand with bids := t.hand.bids } })
    (hb : (t.hand.bids.map (fun b => b.tag)).Subperm (s.hand.bids.map (fun b => b.tag))) : s.Shrinks t := by
  rw [h]
  refine ⟨fun x => (le_max_left _ _).trans' ?_, fun _ x => ?_⟩
  · cases x with
    | bids => simpa [State.load] using hb.length_le
    | _ => exact le_rfl
  · cases x with
    | tag t => exact hb.count_le t
    | _ => exact le_rfl

theorem State.modBids_shrinks {f : BidEntry → BidEntry} (hf : ∀ b, (f b).tag = b.tag) (s : State) :
    s.Shrinks (s.modBids f) :=
  .setBids rfl (by simpa [Function.comp_def, hf] using List.Subperm.refl _)

theorem State.removeBid_shrinks (tag : Tag) (s : State) : s.Shrinks (s.removeBid tag) :=
  State.Shrinks.trans (.setBids rfl ((List.filter_sublist).map _).subperm) (State.dropFrames_shrinks _ _)

theorem Point.queue_filter_slots (f : QueueEntry → Bool) (q : List QueueEntry) :
    ((q.filter f).map QueueEntry.slot).Subperm (q.map QueueEntry.slot) := ((List.filter_sublist).map _).subperm

/-- Both queues changed, by functions that add nothing. -/
theorem State.Shrinks.queues {s : State} {f g : Point → Point}
    (hf : ((f s.point0).queue.map QueueEntry.slot).Subperm (s.point0.queue.map QueueEntry.slot))
    (hg : ((g s.point1).queue.map QueueEntry.slot).Subperm (s.point1.queue.map QueueEntry.slot)) :
    s.Shrinks { s with point0 := f s.point0, point1 := g s.point1 } :=
  State.Shrinks.trans (t := s.setPoint .p0 (f s.point0))
    (.setPoint (by simpa [State.point] using hf.length_le) (fun _ => hf))
    (.setPoint (p := .p1) (by simpa [State.point, State.setPoint] using hg.length_le) (fun _ => hg))

theorem State.removeQueueEntries_shrinks (p : QueueEntry → Bool) (s : State) : s.Shrinks (s.removeQueueEntries p) :=
  .queues (f := fun v => { v with queue := v.queue.filter (fun e => !p e) })
    (g := fun v => { v with queue := v.queue.filter (fun e => !p e) }) (Point.queue_filter_slots _ _)
    (Point.queue_filter_slots _ _)

theorem State.removeTentative_shrinks (tag : Tag) (s : State) : s.Shrinks (s.removeTentative tag) :=
  (State.removeLaneEntries_shrinks _ s).trans (State.removeQueueEntries_shrinks _ _)

theorem State.removeExpected_shrinks (tag : Tag) (s : State) : s.Shrinks (s.removeExpected tag) :=
  (State.removeLaneEntries_shrinks _ s).trans (State.removeQueueEntries_shrinks _ _)

theorem State.dropBid_shrinks (tag : Tag) (s : State) : s.Shrinks (s.dropBid tag) :=
  (State.removeBid_shrinks tag s).trans (State.removeTentative_shrinks tag _)

theorem State.dropClaim_shrinks (tag : Tag) (s : State) : s.Shrinks (s.dropClaim tag) :=
  (State.dropBid_shrinks tag s).trans (State.removeExpected_shrinks tag _)

theorem State.dropBidsOf_shrinks (b : Nat) (s : State) : s.Shrinks (s.dropBidsOf b) :=
  .foldl (fun t tag => State.dropBid_shrinks tag t) _ s

/-- The node without some bid entries, their BIDs and TAKEs removed. -/
def State.removeBids (s : State) (l : List BidEntry) : State := l.foldl (fun t e => t.removeBid e.tag) s

theorem State.removeBids_shrinks (s : State) (l : List BidEntry) : s.Shrinks (s.removeBids l) :=
  .foldl (fun t (e : BidEntry) => State.removeBid_shrinks e.tag t) l s

/-- The SWAP bids whose head bus no longer stands PARKED at the head of its lane (R145). -/
def State.lostBids (s : State) : List BidEntry :=
  s.hand.bids.filter (fun e => match e.head with
    | some h => !s.isParkedHead e.resource h.bus
    | none => false)

/-- A lane without the take marks that do not stand on its head (R146). -/
def Lane.markHeadOnly (l : Lane) : Lane :=
  { l with entries := l.entries.take 1 ++ (l.entries.drop 1).map (fun e => { e with mark := none }) }

/-- What becomes of lost heads: their bids go, and the marks off the heads, where there are any. -/
theorem State.dropLostHeads_cases (s : State) :
    ((∀ l ∈ s.lanes, ∀ e ∈ l.entries.drop 1, e.mark = none) ∧ s.dropLostHeads = s.removeBids s.lostBids) ∨
    s.dropLostHeads = (s.removeBids s.lostBids).setLanes (s.lanes.map Lane.markHeadOnly) := by
  have hl : (s.removeBids s.lostBids).lanes = s.lanes := State.foldl_removeBid_lanes _ s
  have hdef : s.dropLostHeads = if (s.removeBids s.lostBids).lanes.any (fun l => (l.entries.drop 1).any (fun e => e.mark.isSome))
      then (s.removeBids s.lostBids).setLanes ((s.removeBids s.lostBids).lanes.map Lane.markHeadOnly)
      else s.removeBids s.lostBids := rfl
  rw [hdef, hl]
  split
  · exact .inr rfl
  · rename_i h
    simp only [List.any_eq_true, not_exists, not_and, Bool.not_eq_true, Option.isSome_eq_false_iff, Option.isNone_iff_eq_none] at h
    exact .inl ⟨h, rfl⟩

theorem State.dropLostHeads_shrinks (s : State) : s.Shrinks s.dropLostHeads := by
  have hl : (s.removeBids s.lostBids).lanes = s.lanes := State.foldl_removeBid_lanes _ s
  have h := State.removeBids_shrinks s s.lostBids
  rcases State.dropLostHeads_cases s with ⟨-, e⟩ | e <;> rw [e]
  · exact h
  · rw [← hl]
    refine h.trans (.mapLanes (fun l => (List.Perm.of_eq ?_).subperm))
    rw [Lane.markHeadOnly, List.map_append, map_slot_map (fun e => by rfl), ← List.map_append, List.take_append_drop]

theorem State.settle_shrinks (before s : State) : s.Shrinks (State.settle before s) := by
  refine ((State.dropLostHeads_shrinks s).trans (State.withdrawSwaps_shrinks _)).trans (.foldl (fun t n => ?_) _ _)
  split
  · exact State.headTest_shrinks n t
  · exact .refl t

/-- The SWAP bids whose head bus an event has changed or leaves pinned (R145). -/
def State.changedBids (before s : State) : List BidEntry :=
  s.hand.bids.filter (fun e => match e.head with
    | some h => State.headChanged before s h.bus
    | none => false)

/-- An entry without its take mark, where an event has changed its bus or leaves it pinned (R146). -/
def State.unmarkChanged (before s : State) (e : LaneEntry) : LaneEntry :=
  if e.mark.isSome && State.headChanged before s e.visit.bus then { e with mark := none } else e

/-- What becomes of changed heads: their bids go, and their marks, where there are any. -/
theorem State.dropChangedHeads_cases (before s : State) :
    State.dropChangedHeads before s = s.removeBids (State.changedBids before s) ∨
    State.dropChangedHeads before s = (s.removeBids (State.changedBids before s)).setLanes
      (s.lanes.map (fun l => { l with entries := l.entries.map (State.unmarkChanged before s) })) := by
  have hl : (s.removeBids (State.changedBids before s)).lanes = s.lanes := State.foldl_removeBid_lanes _ s
  have hdef : State.dropChangedHeads before s =
      if (s.removeBids (State.changedBids before s)).laneEntries.any
          (fun e => e.mark.isSome && State.headChanged before s e.visit.bus) then
        (s.removeBids (State.changedBids before s)).setLanes ((s.removeBids (State.changedBids before s)).lanes.map
          (fun l => { l with entries := l.entries.map (State.unmarkChanged before s) }))
      else s.removeBids (State.changedBids before s) := rfl
  rw [hdef, hl]
  split
  · exact .inr rfl
  · exact .inl rfl

theorem State.dropChangedHeads_shrinks (before s : State) : s.Shrinks (State.dropChangedHeads before s) := by
  have hl : (s.removeBids (State.changedBids before s)).lanes = s.lanes := State.foldl_removeBid_lanes _ s
  have h := State.removeBids_shrinks s (State.changedBids before s)
  rcases State.dropChangedHeads_cases before s with e | e <;> rw [e]
  · exact h
  · rw [← hl]
    exact h.trans (.mapEntries (fun e => by unfold State.unmarkChanged; split <;> rfl))

/-- A change of every record (R36) that leaves the bus of each. -/
theorem State.mapVisits_shrinks {f : VisitRecord → VisitRecord} (hf : ∀ r, (f r).bus = r.bus) (s : State) :
    s.Shrinks (s.mapVisits f) := by
  have hkey : ∀ i, (OutItem.mapVisit f i).key = i.key := by
    rintro ⟨c, r, j, o, n, p⟩
    cases c <;> simp [OutItem.mapVisit, OutItem.key, hf]
  have hq : ∀ v : Point, (v.mapVisit f).queue.map QueueEntry.slot = v.queue.map QueueEntry.slot := by
    intro v
    simp only [Point.mapVisit, List.map_map]
    refine List.map_congr_left (fun e _ => ?_)
    simp [QueueEntry.slot, QueueEntry.mapVisit, hf, QueueEntry.isFront]
  have lanes : s.Shrinks (s.setLanes (s.lanes.map (fun l => { l with entries := l.entries.map (LaneEntry.mapVisit f) }))) :=
    .mapEntries (fun e => by simp [LaneEntry.slot, LaneEntry.mapVisit, hf, LaneEntry.isFront])
  have queues := State.Shrinks.queues (f := Point.mapVisit f) (g := Point.mapVisit f)
    (s := s.setLanes (s.lanes.map (fun l => { l with entries := l.entries.map (LaneEntry.mapVisit f) })))
    (by rw [hq]) (by rw [hq])
  have bids := State.Shrinks.setBids (s := { State.setLanes
      (s.lanes.map (fun l => { l with entries := l.entries.map (LaneEntry.mapVisit f) })) s with
      point0 := s.point0.mapVisit f, point1 := s.point1.mapVisit f })
    (t := { State.setLanes (s.lanes.map (fun l => { l with entries := l.entries.map (LaneEntry.mapVisit f) })) s with
      point0 := s.point0.mapVisit f, point1 := s.point1.mapVisit f
      hand := { s.hand with bids := s.hand.bids.map (fun b => { b with copy := b.copy.map f }) } }) rfl
    (by simpa [Function.comp_def] using List.Subperm.refl _)
  refine ((lanes.trans queues).trans bids).trans (.of_offers rfl ?_ ?_)
  · simpa [State.keys, State.mapVisits, Function.comp_def, hkey] using List.Subperm.refl _
  · simp [State.load, State.mapVisits]

@[simp] theorem bindVisit_bus (bus run : Nat) (d : Duty) (r : VisitRecord) : (bindVisit bus run d r).bus = r.bus := by
  unfold bindVisit
  repeat' split
  all_goals rfl

@[simp] theorem unbindVisit_bus (b : Nat) (r : VisitRecord) : (unbindVisit b r).bus = r.bus := by
  unfold unbindVisit
  split <;> rfl

theorem State.bindBus_shrinks (bus run wall : Nat) (pinned substituted : Bool) (s : State) :
    s.Shrinks (s.bindBus bus run wall pinned substituted) := by
  have h := (State.mapVisits_shrinks (bindVisit_bus bus run (Duty.bindTo s.clock run wall pinned substituted)) s).trans
    (State.dropChangedHeads_shrinks s _)
  unfold State.bindBus
  dsimp only
  split
  · exact h.trans (State.reportAdjusted_shrinks _ _ _ _)
  · exact h

theorem State.unbindBus_shrinks (bus : Nat) (s : State) : s.Shrinks (s.unbindBus bus) :=
  (State.mapVisits_shrinks (unbindVisit_bus bus) s).trans (State.dropChangedHeads_shrinks s _)

end Sys2Proof.Machine

namespace Sys2Proof.Machine

open Sys2Proof

/-! ## What the operations of one service point leave as it is -/

/-- The node with point `p` and all that an operation on offers may change blanked: the part that the operations of that
point keep. -/
def State.sansPoint (p : PointId) (s : State) : State := (s.setPoint p (Point.powerOn PointImage.supplied)).sansOffers

theorem State.sansPoint_of_offers {s t : State} (h : t.sansOffers = s.sansOffers) (p : PointId) :
    t.sansPoint p = s.sansPoint p := by
  have h' : ∀ u : State, u.sansPoint p = (u.sansOffers).setPoint p (Point.powerOn PointImage.supplied) := by
    intro u; cases p <;> rfl
  rw [h', h', h]

@[simp] theorem State.setPoint_sansPoint (p : PointId) (v : Point) (s : State) :
    (s.setPoint p v).sansPoint p = s.sansPoint p := by
  cases p <;> rfl

@[simp] theorem State.modPoint_sansPoint (p : PointId) (f : Point → Point) (s : State) :
    (s.modPoint p f).sansPoint p = s.sansPoint p := State.setPoint_sansPoint p _ s

@[simp] theorem State.join_sansPoint (p : PointId) (c : Cargo) (g : Option GuidePlace) (s : State) :
    (s.join c g).sansPoint p = s.sansPoint p := State.sansPoint_of_offers (State.join_sansOffers c g s) p

section
variable {s t : State} {p : PointId}

theorem State.lanes_of_point (h : t.sansPoint p = s.sansPoint p) : t.lanes = s.lanes := by
  cases p <;> exact (congrArg (fun u : State => u.lanes) h :)
theorem State.field_of_point (h : t.sansPoint p = s.sansPoint p) : t.field = s.field := by
  cases p <;> exact (congrArg (fun u : State => u.field) h :)
theorem State.clock_of_point (h : t.sansPoint p = s.sansPoint p) : t.clock = s.clock := by
  cases p <;> exact (congrArg (fun u : State => u.clock) h :)
theorem State.bids_of_point (h : t.sansPoint p = s.sansPoint p) : t.hand.bids = s.hand.bids := by
  cases p <;> exact (congrArg (fun u : State => u.hand.bids) h :)
theorem State.reports_of_point (h : t.sansPoint p = s.sansPoint p) : t.loader.reports = s.loader.reports := by
  cases p <;> exact (congrArg (fun u : State => u.loader.reports) h :)
theorem State.image_of_point (h : t.sansPoint p = s.sansPoint p) : t.image = s.image := by
  cases p <;> exact (congrArg (fun u : State => u.loader.image) h :)
theorem State.other_of_point (h : t.sansPoint p = s.sansPoint p) : t.point p.other = s.point p.other := by
  cases p
  · exact (congrArg (fun u : State => u.point1) h :)
  · exact (congrArg (fun u : State => u.point0) h :)
theorem State.point_of_point (h : t.sansPoint p = s.sansPoint p) {q : PointId} (hq : q ≠ p) : t.point q = s.point q := by
  have hq' : q = p.other := by
    cases p with
    | p0 => cases q with
      | p0 => exact absurd rfl hq
      | p1 => rfl
    | p1 => cases q with
      | p0 => rfl
      | p1 => exact absurd rfl hq
  rw [hq']
  exact State.other_of_point h

end

@[simp] theorem State.askJoin_sansPoint (p : PointId) (b : Nat) (s : State) : (s.askJoin p b).sansPoint p = s.sansPoint p := by
  rcases State.askJoin_cases p b s with ⟨e, -, -, -, -, h⟩ | ⟨-, h⟩ <;> simp [h]

@[simp] theorem State.beginFuel_sansPoint (p : PointId) (e : QueueEntry) (st : SlotState) (s : State) :
    (s.beginFuel p e st).sansPoint p = s.sansPoint p := by
  simp [State.beginFuel]

@[simp] theorem State.beginWash_sansPoint (p : PointId) (e : QueueEntry) (st : SlotState) (s : State) :
    (s.beginWash p e st).sansPoint p = s.sansPoint p := by
  simp [State.beginWash]

@[simp] theorem State.endFuel_sansPoint (p : PointId) (o : FuelOutcome) (left : Bool) (s : State) :
    (s.endFuel p o left).sansPoint p = s.sansPoint p := by
  unfold State.endFuel
  split <;> simp

@[simp] theorem State.leaveClearing_sansPoint (p : PointId) (s : State) :
    (s.leaveClearing p).sansPoint p = s.sansPoint p := by
  simp [State.leaveClearing]

@[simp] theorem State.startTests_sansPoint (p : PointId) (n : Nat) :
    ∀ s : State, (s.startTests n p).sansPoint p = s.sansPoint p := by
  induction n with
  | zero => exact fun s => rfl
  | succ n ih =>
    intro s
    unfold State.startTests
    dsimp only
    repeat' split
    all_goals simp [ih]

@[simp] theorem State.startTest_sansPoint (p : PointId) (s : State) : (s.startTest p).sansPoint p = s.sansPoint p :=
  State.startTests_sansPoint p _ s

@[simp] theorem State.clearingTest_sansPoint (p : PointId) (s : State) :
    (s.clearingTest p).sansPoint p = s.sansPoint p := by
  unfold State.clearingTest
  split <;> simp

@[simp] theorem State.countLeft_sansPoint (p : PointId) (s : State) : (s.countLeft p).sansPoint p = s.sansPoint p := by
  simp [State.countLeft]

@[simp] theorem State.takeFromQueue_sansPoint (p : PointId) (b : Nat) (s : State) :
    (s.takeFromQueue p b).sansPoint p = s.sansPoint p := by
  unfold State.takeFromQueue
  split <;> simp

@[simp] theorem State.endFuelTested_sansPoint (p : PointId) (o : FuelOutcome) (left : Bool) (s : State) :
    (s.endFuelTested p o left).sansPoint p = s.sansPoint p := by
  simp [State.endFuelTested]

@[simp] theorem State.finishFaulted_sansPoint (p : PointId) (b : Nat) (f : VisitRecord → VisitRecord) (s : State) :
    (s.finishFaulted p b f).sansPoint p = s.sansPoint p := by
  rcases State.finishFaulted_cases p b f s with ⟨-, h⟩ | ⟨e, -, ⟨-, h⟩ | ⟨-, h⟩⟩ <;> simp [h]

@[simp] theorem State.passOn_sansPoint (p : PointId) (b : Nat) (s : State) : (s.passOn p b).sansPoint p = s.sansPoint p := by
  unfold State.passOn
  split <;> simp

@[simp] theorem State.afterEntry_sansPoint (p : PointId) (b : Nat) (s : State) :
    (s.afterEntry p b).sansPoint p = s.sansPoint p := by
  unfold State.afterEntry
  split <;> simp

/-! ## The operations of a service point add nothing -/

/-- The buses of a queue of a node that holds everything once. -/
theorem State.queue_entry_unique {s : State} (hd : s.entriesDistinct) {p : PointId} {x e : QueueEntry}
    (hx : x ∈ (s.point p).queue) (he : e ∈ (s.point p).queue) (hb : x.visit.bus = e.visit.bus) : x = e :=
  List.inj_on_of_nodup_map (hd.2.1 p) hx he hb

/-- The point changed without its queue. -/
theorem State.Shrinks.modPoint_same {s : State} {p : PointId} {f : Point → Point}
    (hf : (f (s.point p)).queue = (s.point p).queue) : s.Shrinks (s.modPoint p f) :=
  .modPoint (by rw [hf]) (fun _ => by rw [hf])

/-- The entry of a bus changed in its place, where it stands for the record before and after. -/
theorem State.Shrinks.modEntry {s : State} {p : PointId} {f : Point → Point} {b : Nat} {g : QueueEntry → QueueEntry}
    (hf : (f (s.point p)).queue = ((s.point p).modEntry b g).queue)
    (hg : s.entriesDistinct → ∀ x ∈ (s.point p).queue, x.visit.bus = b → (g x).slot = x.slot) :
    s.Shrinks (s.modPoint p f) := by
  refine .modPoint (by rw [hf]; simp [Point.modEntry]) (fun hd => ?_)
  rw [hf, Point.modEntry, List.map_map]
  refine (List.Perm.of_eq (List.map_congr_left (fun x hx => ?_))).subperm
  by_cases hb : x.visit.bus = b
  · simp [hb, hg hd x hx hb]
  · simp [hb]

/-- A join with the record of a FINISHED entry that leaves its queue: the record moves (R102, R122). -/
theorem State.askJoin_shrinks (p : PointId) (b : Nat) (s : State) : s.Shrinks (s.askJoin p b) := by
  rcases State.askJoin_cases p b s with ⟨e, he, hb, hfin, hfull, h⟩ | ⟨-, h⟩ <;> rw [h]
  swap
  · exact .refl s
  have hfull' : (s.modPoint p (Point.dropEntry b)).outboundFull = false := by
    simpa [State.outboundFull] using hfull
  have hdrop : s.Shrinks (s.modPoint p (Point.dropEntry b)) :=
    .modPoint (List.length_filter_le _ _) (fun _ => Point.queue_filter_slots _ _)
  have hmoved : (s.modPoint p (Point.dropEntry b)).occurs (.record b) + 1 ≤ s.occurs (.record b) := by
    have hset := State.occurs_record_setPoint s p ((s.point p).dropEntry b) b
    have hzero : ((s.point p).dropEntry b).queue.countP (QueueEntry.holds b) = 0 := by
      simp +contextual [Point.dropEntry, List.countP_eq_zero, QueueEntry.holds]
    have hpos : 0 < (s.point p).queue.countP (QueueEntry.holds b) :=
      List.countP_pos_iff.2 ⟨e, he, by simp [QueueEntry.holds, QueueEntry.isFront, hfin, hb]⟩
    unfold State.modPoint
    omega
  rw [State.join_of_room hfull']
  refine State.Shrinks.trans ⟨fun x => ?_, fun hd x => ?_⟩ (State.offerTest_shrinks _)
  · have hx := hdrop.load x
    rw [State.joined_load]
    split
    · rename_i hout
      subst hout
      simp only [State.outboundFull, decide_eq_false_iff_not, not_le] at hfull'
      exact le_max_of_le_right hfull'
    · exact hx
  · have hx := hdrop.occurs hd x
    rw [State.joined_occurs]
    split
    · rename_i hspot
      rw [hspot, Cargo.spot, hb]
      exact hmoved
    · exact hx

theorem State.Shrinks.toHead (p : PointId) (b : Nat) (s : State) : s.Shrinks (s.modPoint p (Point.toHead b)) := by
  have h : ((Point.toHead b (s.point p)).queue).Perm (s.point p).queue := by
    simpa [Point.toHead] using List.filter_append_perm (fun e : QueueEntry => decide (e.visit.bus = b)) (s.point p).queue
  exact .modPoint h.length_eq.le (fun _ => (h.map _).subperm)

theorem QueueEntry.slot_of_front {e e' : QueueEntry} (hb : e'.visit.bus = e.visit.bus) (h : e.isFront = true)
    (h' : e'.isFront = true) : e'.slot = e.slot := by
  simp [QueueEntry.slot, hb, h, h']

theorem State.beginFuel_shrinks {p : PointId} {e : QueueEntry} {st : SlotState} {s : State}
    (h : s.entriesDistinct → ∀ x ∈ (s.point p).queue, x.visit.bus = e.visit.bus → x.isFront = true) :
    s.Shrinks (s.beginFuel p e st) := by
  unfold State.beginFuel
  dsimp only
  refine State.Shrinks.modEntry (b := e.visit.bus) (g := fun x => { x with state := .serving }) ?_ (fun hd x hx hb => ?_)
  · rfl
  · exact QueueEntry.slot_of_front rfl (h hd x hx hb) rfl

theorem State.beginWash_shrinks {p : PointId} {e : QueueEntry} {st : SlotState} {s : State}
    (h : s.entriesDistinct → ∀ x ∈ (s.point p).queue, x.visit.bus = e.visit.bus → x.isFront = true) :
    s.Shrinks (s.beginWash p e st) := by
  refine State.Shrinks.modEntry (b := e.visit.bus) (g := fun x => { x with state := .serving }) ?_ (fun hd x hx hb => ?_)
  · rfl
  · exact QueueEntry.slot_of_front rfl (h hd x hx hb) rfl

/-- The SERVING entry stands in the queue. -/
theorem Point.serving?_spec {v : Point} {e : QueueEntry} (h : v.serving? = some e) :
    e ∈ v.queue ∧ e.state = .serving ∧ e.isFront = true := by
  have hs : e.state = .serving := by simpa using List.find?_some h
  exact ⟨List.mem_of_find?_eq_some h, hs, by simp [QueueEntry.isFront, hs]⟩

/-- The first WAITING entry stands in the queue. -/
theorem Point.firstWaiting_spec {v : Point} {e : QueueEntry} (h : v.firstWaiting = some e) :
    e ∈ v.queue ∧ e.state = .waiting ∧ e.isFront = true := by
  have hs : e.state = .waiting := by simpa using List.find?_some h
  exact ⟨List.mem_of_find?_eq_some h, hs, by simp [QueueEntry.isFront, hs]⟩

/-- The served entry at the end of a fuel service (R102). -/
def QueueEntry.fuelled (o : FuelOutcome) (litres : Nat) (x : QueueEntry) : QueueEntry :=
  { x with
    state := .finished, justServed := true
    visit := { x.visit with fuelOutcome := some o, litres := litres, next := x.visit.afterFuel } }

/-- A fuel point at the end of the service of bus `b` (R102), before the record asks to join. -/
def Point.fuelEnded (b : Nat) (o : FuelOutcome) (left : Bool) (v : Point) : Point :=
  { v.modEntry b (QueueEntry.fuelled o v.delivered) with
    state := .clearing, service := none, enable := false, qualifies := false, served := some b, left := left }

theorem State.endFuel_of_serving {p : PointId} {s : State} {e : QueueEntry} (h : (s.point p).serving? = some e)
    (o : FuelOutcome) (left : Bool) :
    s.endFuel p o left = (s.modPoint p (Point.fuelEnded e.visit.bus o (left || s.pointClear p))).askJoin p e.visit.bus := by
  simp only [State.endFuel, h]; rfl

theorem State.endFuel_of_none {p : PointId} {s : State} (h : (s.point p).serving? = none) (o : FuelOutcome) (left : Bool) :
    s.endFuel p o left = s := by
  simp [State.endFuel, h]

theorem State.endFuel_shrinks (p : PointId) (o : FuelOutcome) (left : Bool) (s : State) : s.Shrinks (s.endFuel p o left) := by
  cases h : (s.point p).serving? with
  | none => rw [State.endFuel_of_none h]; exact .refl s
  | some e =>
    obtain ⟨hmem, -, hf⟩ := Point.serving?_spec h
    rw [State.endFuel_of_serving h]
    refine State.Shrinks.trans ?_ (State.askJoin_shrinks p _ _)
    refine .modEntry (b := e.visit.bus) (g := QueueEntry.fuelled o (s.point p).delivered) ?_ (fun hd x hx hb => ?_)
    · rfl
    · exact QueueEntry.slot_of_front rfl (State.queue_entry_unique hd hx hmem hb ▸ hf) rfl

theorem State.leaveClearing_shrinks (p : PointId) (s : State) : s.Shrinks (s.leaveClearing p) := .modPoint_same rfl

theorem State.startTests_shrinks (p : PointId) (n : Nat) : ∀ s : State, s.Shrinks (s.startTests n p) := by
  induction n with
  | zero => exact .refl
  | succ n ih =>
    intro s
    unfold State.startTests
    split
    · exact .refl s
    split
    · exact .refl s
    rename_i e he
    obtain ⟨hmem, -, hf⟩ := Point.firstWaiting_spec he
    have hhead := State.Shrinks.toHead p e.visit.bus s
    have hmem' : e ∈ ((s.modPoint p (Point.toHead e.visit.bus)).point p).queue := by
      simp [Point.toHead, hmem]
    have hfront : (s.modPoint p (Point.toHead e.visit.bus)).entriesDistinct →
        ∀ x ∈ ((s.modPoint p (Point.toHead e.visit.bus)).point p).queue, x.visit.bus = e.visit.bus → x.isFront = true :=
      fun hd x hx hb => State.queue_entry_unique hd hx hmem' hb ▸ hf
    split
    · exact hhead
    · exact hhead
    · rename_i st _ _ _
      have hu := hhead.trans (State.beginFuel_shrinks (st := st) hfront)
      have hw := hu.trans (State.endFuel_shrinks p .done false _)
      dsimp only
      split
      · split
        · exact (hw.trans (State.leaveClearing_shrinks p _)).trans (ih _)
        · exact hw
      · exact hu
    · split
      · exact hhead
      · exact hhead.trans (State.beginWash_shrinks hfront)
    · exact hhead

theorem State.startTest_shrinks (p : PointId) (s : State) : s.Shrinks (s.startTest p) := State.startTests_shrinks p _ s

theorem State.clearingTest_shrinks (p : PointId) (s : State) : s.Shrinks (s.clearingTest p) := by
  unfold State.clearingTest
  split
  · exact (State.leaveClearing_shrinks p s).trans (State.startTest_shrinks p _)
  · exact .refl s

theorem State.countLeft_shrinks (p : PointId) (s : State) : s.Shrinks (s.countLeft p) :=
  State.Shrinks.trans (.modPoint_same rfl) (State.clearingTest_shrinks p _)

/-- What R40 makes of a point before its test for the end of CLEARING: the record leaves the queue, and a service of the bus
ends. -/
def State.takenPoint (s : State) (p : PointId) (b : Nat) (e : QueueEntry) (v : Point) : Point :=
  let w := { v with queue := v.queue.filter (fun x => !(decide (x.visit.bus = b) && x.isFront)) }
  if e.state = .serving then
    { w with state := .clearing, service := none, enable := false, qualifies := false, served := some b
             left := (decide ((s.pointImage p).kind = .wash) && v.left) || s.pointClear p
             cycle := v.cycle.map (fun c => { c with advance := false }) }
  else w

@[simp] theorem State.takenPoint_queue (s : State) (p : PointId) (b : Nat) (e : QueueEntry) (v : Point) :
    (s.takenPoint p b e v).queue = v.queue.filter (fun x => !(decide (x.visit.bus = b) && x.isFront)) := by
  unfold State.takenPoint
  dsimp only
  split <;> rfl

/-- The record of a bus is taken from a queue, or there is none (R40). -/
theorem State.takeFromQueue_cases (p : PointId) (b : Nat) (s : State) :
    ((∀ x ∈ (s.point p).queue, x.visit.bus = b → x.isFront = false) ∧ s.takeFromQueue p b = s) ∨
    ∃ e ∈ (s.point p).queue, e.visit.bus = b ∧ e.isFront = true ∧
      (s.point p).queue.find? (fun e => decide (e.visit.bus = b) && e.isFront) = some e ∧
      s.takeFromQueue p b = (s.modPoint p (s.takenPoint p b e)).clearingTest p := by
  cases h : (s.point p).queue.find? (fun e => decide (e.visit.bus = b) && e.isFront) with
  | none =>
    refine .inl ⟨fun x hx hb => ?_, by simp [State.takeFromQueue, h]⟩
    simpa [hb] using List.find?_eq_none.1 h x hx
  | some e =>
    have hp := List.find?_some h
    simp only [Bool.and_eq_true, decide_eq_true_eq] at hp
    refine .inr ⟨e, List.mem_of_find?_eq_some h, hp.1, hp.2, rfl, ?_⟩
    simp only [State.takeFromQueue, h]
    rfl

theorem State.takeFromQueue_shrinks (p : PointId) (b : Nat) (s : State) : s.Shrinks (s.takeFromQueue p b) := by
  rcases State.takeFromQueue_cases p b s with ⟨-, h⟩ | ⟨e, -, -, -, -, h⟩ <;> rw [h]
  · exact .refl s
  · refine State.Shrinks.trans (.modPoint ?_ (fun _ => ?_)) (State.clearingTest_shrinks p _)
    · simpa using List.length_filter_le _ _
    · simpa using Point.queue_filter_slots _ _

theorem State.expireQueue_shrinks (p : PointId) (q : QueueEntry → Bool) (s : State) : s.Shrinks (s.expireQueue p q) := by
  unfold State.expireQueue
  refine State.Shrinks.trans (.modPoint ?_ (fun _ => ?_)) (.foldl (fun t e => State.report_shrinks _ t) _ _)
  · exact List.length_filter_le _ _
  · exact Point.queue_filter_slots _ _

theorem State.retryJoins_shrinks (p : PointId) (s : State) : s.Shrinks (s.retryJoins p) :=
  (State.Shrinks.foldl (fun t b => State.askJoin_shrinks p b t) _ s).trans (State.clearingTest_shrinks p _)

theorem State.endFuelTested_shrinks (p : PointId) (o : FuelOutcome) (left : Bool) (s : State) :
    s.Shrinks (s.endFuelTested p o left) :=
  (State.endFuel_shrinks p o left s).trans (State.clearingTest_shrinks p _)

end Sys2Proof.Machine

namespace Sys2Proof.Machine

open Sys2Proof

/-! ## A record given up (R38, R39) -/

/-- No entry of a bus at a place stands for the bus's record. -/
def State.pendingAt (s : State) (b : Nat) : Resource → Prop
  | .point p => (s.point p).queue.countP (QueueEntry.holds b) = 0
  | .lane n => (entriesAt s.lanes n).countP (LaneEntry.holds b) = 0

theorem State.pendingAt_point {s : State} {b : Nat} {p : PointId}
    (h : ∀ e ∈ (s.point p).queue, e.visit.bus = b → e.isFront = false) : s.pendingAt b (.point p) := by
  simp only [State.pendingAt, List.countP_eq_zero]
  intro e he hh
  simp only [QueueEntry.holds, Bool.and_eq_true, decide_eq_true_eq] at hh
  simp [h e he hh.2] at hh

theorem State.pendingAt_lane {s : State} {b n : Nat}
    (h : ∀ e ∈ entriesAt s.lanes n, e.visit.bus = b → e.isFront = false) : s.pendingAt b (.lane n) := by
  simp only [State.pendingAt, List.countP_eq_zero]
  intro e he hh
  simp only [LaneEntry.holds, Bool.and_eq_true, decide_eq_true_eq] at hh
  simp [h e he hh.2] at hh

/-- The outbound list, the open offer and the OFFERs of a bus gone. -/
def State.offerGivenUp (b : Nat) (s : State) : State := (s.cancelOffer (.bus b)).removeItem (.bus b)

/-- The record of a bus taken from a queue, but not at the place that keeps it. -/
def State.queueGivenUp (p : PointId) (b : Nat) (here : Resource) (s : State) : State :=
  if here = .point p then s else s.takeFromQueue p b

/-- The record of a bus taken from the lanes, but not at the place that keeps it. -/
def State.lanesGivenUp (b : Nat) (here : Resource) (s : State) : State :=
  s.removeLaneEntries (fun n e => decide (here ≠ .lane n) && decide (e.visit.bus = b) && e.isFront)

/-- The four steps in which a node gives up a record, before the test of R23. -/
theorem State.giveUpRecord_eq (b : Nat) (here : Resource) (s : State) :
    s.giveUpRecord b here = State.testIfClosed s
      ((((s.offerGivenUp b).queueGivenUp .p0 b here).queueGivenUp .p1 b here).lanesGivenUp b here) := rfl

theorem State.offerGivenUp_shrinks (b : Nat) (s : State) : s.Shrinks (s.offerGivenUp b) :=
  (State.cancelOffer_shrinks _ s).trans (State.removeItem_shrinks _ _)

theorem State.queueGivenUp_shrinks (p : PointId) (b : Nat) (here : Resource) (s : State) :
    s.Shrinks (s.queueGivenUp p b here) := by
  unfold State.queueGivenUp
  split
  · exact .refl s
  · exact State.takeFromQueue_shrinks p b s

theorem State.giveUpRecord_shrinks (b : Nat) (here : Resource) (s : State) : s.Shrinks (s.giveUpRecord b here) := by
  rw [State.giveUpRecord_eq]
  exact ((((State.offerGivenUp_shrinks b s).trans (State.queueGivenUp_shrinks .p0 b here _)).trans
    (State.queueGivenUp_shrinks .p1 b here _)).trans (State.removeLaneEntries_shrinks _ _)).trans
    (State.testIfClosed_shrinks _ _)

@[simp] theorem State.offerGivenUp_sansOffers (b : Nat) (s : State) : (s.offerGivenUp b).sansOffers = s.sansOffers := by
  simp [State.offerGivenUp]

@[simp] theorem State.queueGivenUp_sansPoint (p : PointId) (b : Nat) (here : Resource) (s : State) :
    (s.queueGivenUp p b here).sansPoint p = s.sansPoint p := by
  unfold State.queueGivenUp
  split <;> simp

@[simp] theorem State.offerGivenUp_lanes (b : Nat) (s : State) : (s.offerGivenUp b).lanes = s.lanes :=
  State.lanes_of_offers (State.offerGivenUp_sansOffers b s)

@[simp] theorem State.offerGivenUp_point (b : Nat) (s : State) (p : PointId) : (s.offerGivenUp b).point p = s.point p :=
  State.point_of_offers (State.offerGivenUp_sansOffers b s) p

@[simp] theorem State.queueGivenUp_lanes (p : PointId) (b : Nat) (here : Resource) (s : State) :
    (s.queueGivenUp p b here).lanes = s.lanes := State.lanes_of_point (State.queueGivenUp_sansPoint p b here s)

@[simp] theorem State.queueGivenUp_point_of_ne (p : PointId) (b : Nat) (here : Resource) (s : State) {q : PointId}
    (h : q ≠ p) : (s.queueGivenUp p b here).point q = s.point q :=
  State.point_of_point (State.queueGivenUp_sansPoint p b here s) h

/-! How many records of the bus each step takes -/

theorem State.offerGivenUp_record {s : State} (hd : s.entriesDistinct) (b : Nat) :
    (s.offerGivenUp b).occurs (.record b) + s.keys.count (.bus b) ≤ s.occurs (.record b) := by
  have h1 := (State.offerGivenUp_shrinks b s).occurs hd
  have hk : (s.offerGivenUp b).keys.count (.bus b) = 0 := by
    simp [State.keys, State.offerGivenUp, List.count_eq_zero]
  have hl : (s.offerGivenUp b).laneEntries = s.laneEntries := by simp [State.laneEntries]
  have h0 := State.offerGivenUp_point b s .p0
  have h1' := State.offerGivenUp_point b s .p1
  simp only [State.point] at h0 h1'
  simp only [State.occurs_record, hk, hl, h0, h1']
  omega

theorem State.takeFromQueue_record {s : State} (hd : s.entriesDistinct) (p : PointId) (b : Nat) :
    (s.takeFromQueue p b).occurs (.record b) + (s.point p).queue.countP (QueueEntry.holds b) ≤ s.occurs (.record b) := by
  rcases State.takeFromQueue_cases p b s with ⟨hp, h⟩ | ⟨e, -, -, -, -, h⟩
  · have : (s.point p).queue.countP (QueueEntry.holds b) = 0 := State.pendingAt_point hp
    rw [h]; omega
  · have htaken : s.Shrinks (s.modPoint p (s.takenPoint p b e)) :=
      .modPoint (by simpa using List.length_filter_le _ _) (fun _ => by simpa using Point.queue_filter_slots _ _)
    have hclear := (State.clearingTest_shrinks p (s.modPoint p (s.takenPoint p b e))).occurs
      (htaken.keeps.distinct hd) (.record b)
    have hset := State.occurs_record_setPoint s p (s.takenPoint p b e (s.point p)) b
    have hzero : (s.takenPoint p b e (s.point p)).queue.countP (QueueEntry.holds b) = 0 := by
      simp only [State.takenPoint_queue, List.countP_eq_zero, List.mem_filter, QueueEntry.holds]
      rintro x ⟨-, hx⟩ hh
      simp_all
    unfold State.modPoint at hclear h
    rw [h]
    omega

theorem State.queueGivenUp_record {s : State} (hd : s.entriesDistinct) (p : PointId) {b : Nat} {here : Resource}
    (hp : s.pendingAt b here) :
    (s.queueGivenUp p b here).occurs (.record b) + (s.point p).queue.countP (QueueEntry.holds b) ≤ s.occurs (.record b) := by
  unfold State.queueGivenUp
  split
  · rename_i hh
    subst hh
    have : (s.point p).queue.countP (QueueEntry.holds b) = 0 := hp
    omega
  · exact State.takeFromQueue_record hd p b

theorem State.lanesGivenUp_laneEntries {s : State} {b : Nat} {here : Resource} (hp : s.pendingAt b here) :
    (s.lanesGivenUp b here).laneEntries.countP (LaneEntry.holds b) = 0 := by
  simp only [List.countP_eq_zero, State.laneEntries, List.mem_flatMap]
  rintro e ⟨l, hl, he⟩ hh
  obtain ⟨n, hn⟩ := List.mem_iff_getElem?.1 hl
  rw [State.lanesGivenUp, State.removeLaneEntries_lane] at hn
  obtain ⟨l', hl', rfl⟩ := Option.map_eq_some_iff.1 hn
  rw [Lane.without_entries, List.mem_filter] at he
  by_cases hhere : here = .lane n
  · subst hhere
    exact List.countP_eq_zero.1 hp e (mem_entriesAt.2 ⟨l', hl', he.1⟩) hh
  · simp only [LaneEntry.holds, Bool.and_eq_true, decide_eq_true_eq] at hh
    simp [hhere, hh] at he

/-- A node that gives up the record of a bus everywhere but at a place where no entry stands for it holds none any more. -/
theorem State.giveUpRecord_record {s : State} (hd : s.entriesDistinct) {b : Nat} {here : Resource}
    (hp : s.pendingAt b here) : (s.giveUpRecord b here).occurs (.record b) = 0 := by
  have pend : ∀ t : State, t.lanes = s.lanes → (∀ p, here = .point p → t.point p = s.point p) → t.pendingAt b here := by
    intro t hl ht
    cases here with
    | point p => simpa [State.pendingAt, ht p rfl] using hp
    | lane n => simpa [State.pendingAt, hl] using hp
  obtain ⟨t, ht⟩ : ∃ t, t = s.offerGivenUp b := ⟨_, rfl⟩
  obtain ⟨u, hu⟩ : ∃ u, u = t.queueGivenUp .p0 b here := ⟨_, rfl⟩
  obtain ⟨v, hv⟩ : ∃ v, v = u.queueGivenUp .p1 b here := ⟨_, rfl⟩
  have hdt : t.entriesDistinct := ht ▸ (State.offerGivenUp_shrinks b s).keeps.distinct hd
  have hdu : u.entriesDistinct := hu ▸ (State.queueGivenUp_shrinks .p0 b here t).keeps.distinct hdt
  have hdv : v.entriesDistinct := hv ▸ (State.queueGivenUp_shrinks .p1 b here u).keeps.distinct hdu
  have hut : ∀ p, here = .point p → u.point p = s.point p := by
    intro p hp'
    cases p
    · simp [hu, State.queueGivenUp, hp', ht]
    · simp [hu, ht]
  have hvt : ∀ p, here = .point p → v.point p = s.point p := by
    intro p hp'
    cases p
    · rw [hv, State.queueGivenUp_point_of_ne _ _ _ _ (by simp)]; exact hut .p0 hp'
    · simpa [hv, State.queueGivenUp, hp'] using hut .p1 hp'
  have e1 := State.offerGivenUp_record hd b
  have e2 := State.queueGivenUp_record hdt .p0 (pend t (by simp [ht]) (by simp [ht]))
  have e3 := State.queueGivenUp_record hdu .p1 (pend u (by simp [hu, ht]) hut)
  have e4 := State.occurs_record_setLanes v (v.lanesGivenUp b here).lanes b
  have e5 : (v.lanesGivenUp b here).laneEntries.countP (LaneEntry.holds b) = 0 :=
    State.lanesGivenUp_laneEntries (pend v (by simp [hv, hu, ht]) hvt)
  have e6 := (State.testIfClosed_shrinks s (v.lanesGivenUp b here)).occurs
    ((State.removeLaneEntries_shrinks _ v).keeps.distinct hdv) (.record b)
  have hq0 : (t.point .p0).queue = (s.point .p0).queue := by simp [ht]
  have hq1 : (u.point .p1).queue = (s.point .p1).queue := by simp [hu, ht]
  have hl : v.laneEntries = s.laneEntries := by simp [State.laneEntries, hv, hu, ht]
  have hset : v.setLanes (v.lanesGivenUp b here).lanes = v.lanesGivenUp b here := rfl
  have e0 := State.occurs_record s b
  simp only [State.point] at hq0 hq1 e2 e3
  rw [State.giveUpRecord_eq, ← ht, ← hu, ← hv]
  rw [← ht] at e1
  rw [hset, hl] at e4
  simp only [State.laneEntries] at e4 e5 e0
  rw [hq0, ← hu] at e2
  rw [hq1, ← hv] at e3
  have e5' : (List.flatMap Lane.entries (v.lanesGivenUp b here).lanes).countP (LaneEntry.holds b) = 0 := e5
  omega

end Sys2Proof.Machine

namespace Sys2Proof.Machine

open Sys2Proof

/-! ## An entry that comes into a queue or a lane -/

/-- A queue that holds one entry beside some of those it held is no longer than it may be. -/
theorem State.capacity_of_enterQueue {s : State} {p : PointId} {v : Point} (hc : s.withinCapacity)
    (hv : v.queue.length ≤ Config.queueCapacity) : (s.setPoint p v).withinCapacity :=
  State.setPoint_capacity p v s hc hv

/-- A queue that holds, beside some of the entries it held, one of a bus that is new there. -/
theorem State.distinct_of_enterQueue {s : State} {p : PointId} {v : Point} {w : QueueEntry} {rest : List QueueEntry}
    (hd : s.entriesDistinct) (hq : v.queue.Perm (w :: rest)) (hsub : rest.Sublist (s.point p).queue)
    (hnew : ∀ e ∈ rest, e.visit.bus ≠ w.visit.bus) (hrec : w.isFront = true → s.occurs (.record w.visit.bus) = 0) :
    (s.setPoint p v).entriesDistinct := by
  rw [State.entriesDistinct_iff] at hd ⊢
  intro x
  have hx := hd x
  cases x with
  | queue q b =>
    by_cases h : q = p
    · subst h
      have hr : (rest.map (fun e => e.visit.bus)).count b ≤ 1 := ((hsub.map _).count_le b).trans hx
      have h0 : b = w.visit.bus → (rest.map (fun e => e.visit.bus)).count b = 0 := by
        rintro rfl
        simpa [List.count_eq_zero] using hnew
      simp only [State.occurs, State.setPoint_point, (hq.map _).count_eq, List.map_cons, List.count_cons]
      split
      · rename_i hb
        have := h0 (by simpa using (beq_iff_eq.1 hb).symm)
        omega
      · omega
    · simpa [State.occurs, State.setPoint_point_of_ne p q v s h] using hx
  | record b =>
    have hset := State.occurs_record_setPoint s p v b
    have hr : rest.countP (QueueEntry.holds b) ≤ (s.point p).queue.countP (QueueEntry.holds b) := hsub.countP_le
    rw [hq.countP_eq, List.countP_cons] at hset
    split at hset
    · rename_i hh
      simp only [QueueEntry.holds, Bool.and_eq_true, decide_eq_true_eq] at hh
      have := hrec hh.1
      rw [hh.2] at this
      omega
    · omega
  | _ => simpa [State.occurs, State.keys] using hx

theorem entriesAt_modify (lanes : List Lane) (n k : Nat) (f : Lane → Lane) {l : Lane} (hl : lanes[n]? = some l) :
    entriesAt (lanes.modify n f) k = if k = n then (f l).entries else entriesAt lanes k := by
  by_cases h : k = n
  · subst h
    simp [entriesAt, hl]
  · simp [entriesAt, h, Ne.symm h]

theorem countP_modify_lane (q : LaneEntry → Bool) (f : Lane → Lane) {l : Lane} (lanes : List Lane) :
    ∀ n, lanes[n]? = some l → ((lanes.modify n f).flatMap Lane.entries).countP q + l.entries.countP q
      = (lanes.flatMap Lane.entries).countP q + (f l).entries.countP q := by
  induction lanes with
  | nil => intro n h; simp at h
  | cons x xs ih =>
    intro n h
    cases n with
    | zero =>
      obtain rfl : x = l := by simpa using h
      simp; omega
    | succ n =>
      have := ih n (by simpa using h)
      simp only [List.modify_succ_cons, List.flatMap_cons, List.countP_append]
      omega

/-- A lane that holds, beside some of the entries it held, one of a bus that is new there. -/
theorem State.distinct_of_enterLane {s : State} {n : Nat} {l : Lane} {f : Lane → Lane} {w : LaneEntry}
    {rest : List LaneEntry} (hd : s.entriesDistinct) (hl : s.lanes[n]? = some l) (hq : (f l).entries.Perm (w :: rest))
    (hsub : rest.Sublist l.entries) (hnew : ∀ e ∈ rest, e.visit.bus ≠ w.visit.bus)
    (hrec : w.isFront = true → s.occurs (.record w.visit.bus) = 0) : (s.modLane n f).entriesDistinct := by
  rw [State.entriesDistinct_iff] at hd ⊢
  intro x
  have hx := hd x
  cases x with
  | lane k b =>
    simp only [State.occurs, State.modLane, State.setLanes_lanes, entriesAt_modify _ _ _ _ hl]
    split
    · rename_i hk
      subst hk
      have hr : (rest.map (fun e => e.visit.bus)).count b ≤ 1 := by
        refine ((hsub.map _).count_le b).trans ?_
        simpa [State.occurs, entriesAt_of_getElem? hl] using hx
      have h0 : b = w.visit.bus → (rest.map (fun e => e.visit.bus)).count b = 0 := by
        rintro rfl
        simpa [List.count_eq_zero] using hnew
      simp only [(hq.map _).count_eq, List.map_cons, List.count_cons]
      split
      · rename_i hb
        have := h0 (by simpa using (beq_iff_eq.1 hb).symm)
        omega
      · omega
    · exact hx
  | record b =>
    have hset := State.occurs_record_setLanes s (s.lanes.modify n f) b
    have hmod := countP_modify_lane (LaneEntry.holds b) f s.lanes n hl
    have hr : rest.countP (LaneEntry.holds b) ≤ l.entries.countP (LaneEntry.holds b) := hsub.countP_le
    have hlane : s.laneEntries = s.lanes.flatMap Lane.entries := rfl
    rw [hq.countP_eq, List.countP_cons] at hmod
    rw [hlane] at hset
    unfold State.modLane
    split at hmod
    · rename_i hh
      simp only [LaneEntry.holds, Bool.and_eq_true, decide_eq_true_eq] at hh
      have := hrec hh.1
      rw [hh.2] at this
      omega
    · omega
  | _ => exact hx

/-! ## A bus read at the entry of a service point (R94 to R96) -/

theorem queueBehind_perm (e : QueueEntry) (q : List QueueEntry) : (queueBehind e q).Perm (e :: q) := by
  simpa [queueBehind] using
    (List.perm_middle (a := e)).trans ((List.filter_append_perm QueueEntry.isFront q).cons e)

theorem parkBehind_perm (e : LaneEntry) (l : List LaneEntry) : (parkBehind e l).Perm (e :: l) := by
  simpa [parkBehind] using
    (List.perm_middle (a := e)).trans ((List.filter_append_perm LaneEntry.isFront l).cons e)

theorem Point.entry?_spec {v : Point} {b : Nat} {e : QueueEntry} (h : v.entry? b = some e) :
    e ∈ v.queue ∧ e.visit.bus = b := ⟨List.mem_of_find?_eq_some h, by simpa using List.find?_some h⟩

theorem Point.entry?_eq_none {v : Point} {b : Nat} : v.entry? b = none ↔ ∀ e ∈ v.queue, e.visit.bus ≠ b := by
  simp [Point.entry?]

/-- What R94 and R95 make of the entry of a bus that has come. -/
def QueueEntry.arrived (v : VisitRecord) (awaited : Option Nat) (e : QueueEntry) : QueueEntry :=
  { e with visit := v, state := .waiting, tag := none, value := none, deadline := none, recordAwaited := awaited }

theorem Point.waitEntry_of_entry {w : Point} {b : Nat} {e : QueueEntry} (h : w.entry? b = some e) (v : VisitRecord)
    (awaited : Option Nat) : w.waitEntry b v awaited
      = { w with queue := queueBehind (e.arrived v awaited) (w.queue.filter (fun x => decide (x.visit.bus ≠ b))) } := by
  simp only [Point.waitEntry, h]; rfl

theorem Point.waitEntry_of_none {w : Point} {b : Nat} (h : w.entry? b = none) (v : VisitRecord) (awaited : Option Nat) :
    w.waitEntry b v awaited = w := by
  simp [Point.waitEntry, h]

theorem filter_ne_length_lt {q : List QueueEntry} {e : QueueEntry} (he : e ∈ q) :
    (q.filter (fun x => decide (x.visit.bus ≠ e.visit.bus))).length < q.length :=
  List.length_filter_lt_length_iff_exists.2 ⟨e, he, by simp⟩

/-- An entry that turns into the record of its bus (R94, R95), in a node that holds the record nowhere else any more. -/
theorem State.waitEntry_keeps {s : State} {p : PointId} {b : Nat} {v : VisitRecord} {a : Option Nat}
    (hb : v.bus = b) : (s.withinCapacity → (s.modPoint p (Point.waitEntry b v a)).withinCapacity) ∧
      (s.entriesDistinct → s.occurs (.record b) = 0 → (s.modPoint p (Point.waitEntry b v a)).entriesDistinct) := by
  unfold State.modPoint
  cases h : (s.point p).entry? b with
  | none =>
    rw [Point.waitEntry_of_none h]
    have hs : s.Shrinks (s.setPoint p (s.point p)) := .setPoint le_rfl (fun _ => .refl _)
    exact ⟨hs.keeps.capacity, fun hd _ => hs.keeps.distinct hd⟩
  | some e =>
    obtain ⟨he, heb⟩ := Point.entry?_spec h
    rw [Point.waitEntry_of_entry h]
    refine ⟨fun hc => State.capacity_of_enterQueue hc ?_, fun hd hr => State.distinct_of_enterQueue hd
      (queueBehind_perm _ _) List.filter_sublist (fun x hx => ?_) (fun _ => ?_)⟩
    · have hlt := filter_ne_length_lt he
      have := State.queue_capacity hc p
      rw [(queueBehind_perm _ _).length_eq, List.length_cons, ← heb]
      omega
    · simpa [QueueEntry.arrived, hb] using (List.mem_filter.1 hx).2
    · simpa [QueueEntry.arrived, hb] using hr

/-! The record an arriving entry takes is one of its bus -/

theorem State.ownRecord?_bus {s : State} {b : Nat} {here : Resource} {r : VisitRecord} (h : s.ownRecord? b here = some r) :
    r.bus = b := (State.holdsElsewhere_of_ownRecord? h).1

theorem State.expectedElsewhere?_bus {s : State} {b : Nat} {here : Resource} {r : VisitRecord}
    (h : s.expectedElsewhere? b here = some r) : r.bus = b := (State.expectsElsewhere_of_expectedElsewhere? h).1

theorem State.claimOwn_bus (s : State) (here : Resource) (next : NextStage) (copy : VisitRecord) :
    (s.claimOwn copy.bus here next copy).bus = copy.bus := by
  unfold State.claimOwn
  split
  · rename_i r h; exact (State.ownRecord?_bus h : r.bus = _)
  · rfl

theorem State.claimedRecord_bus (s : State) (t : TagFields) (here : Resource) (next : NextStage) (copy : VisitRecord) :
    (s.claimedRecord t here next copy).1.bus = copy.bus := by
  unfold State.claimedRecord
  split
  · rename_i r h; exact (State.ownRecord?_bus h : r.bus = _)
  · rfl

theorem State.strayRecord?_bus (s : State) (t : TagFields) (here : Resource) (next : NextStage) :
    (s.strayRecord? t here next).1.bus = t.bus := by
  unfold State.strayRecord?
  repeat' split
  · rename_i r h; exact (State.ownRecord?_bus h : r.bus = _)
  · rename_i r h; exact (State.expectedElsewhere?_bus h : r.bus = _)
  · rfl

theorem State.announceStray_shrinks (b : Nat) (here : Resource) (awaited : Bool) (s : State) :
    s.Shrinks (s.announceStray b here awaited) :=
  (State.send_shrinks _ s).trans (State.report_shrinks _ _)

/-- The bid entry of a claim taken off, where there is a tag. -/
def State.freeTag (tag : Option Tag) (s : State) : State :=
  match tag with
  | some tag => s.removeBid tag
  | none => s

theorem State.freeTag_shrinks (tag : Option Tag) (s : State) : s.Shrinks (s.freeTag tag) := by
  cases tag with
  | none => exact .refl s
  | some tag => exact State.removeBid_shrinks tag s

@[simp] theorem State.freeTag_lanes (tag : Option Tag) (s : State) : (s.freeTag tag).lanes = s.lanes := by
  cases tag <;> rfl

@[simp] theorem State.freeTag_point (tag : Option Tag) (s : State) (p : PointId) : (s.freeTag tag).point p = s.point p := by
  cases tag <;> rfl

theorem State.waitClaimed_eq (p : PointId) (t : TagFields) (e : QueueEntry) (s : State) :
    s.waitClaimed p t e = State.announceStray e.visit.bus (.point p)
      (s.claimedRecord t (.point p) (s.pointImage p).kind.stageHere e.visit).2
      (((s.freeTag e.tag).giveUpRecord e.visit.bus (.point p)).modPoint p (Point.waitEntry e.visit.bus
        (s.claimedRecord t (.point p) (s.pointImage p).kind.stageHere e.visit).1
        (s.recordDeadline (s.claimedRecord t (.point p) (s.pointImage p).kind.stageHere e.visit).2))) := rfl

/-- An entry of a queue that stands for no record, where no other entry has its bus. -/
theorem State.pendingAt_of_entry {s : State} (hd : s.entriesDistinct) {p : PointId} {e : QueueEntry}
    (he : e ∈ (s.point p).queue) (hf : e.isFront = false) : s.pendingAt e.visit.bus (.point p) :=
  State.pendingAt_point (fun _ hx hb => State.queue_entry_unique hd hx he hb ▸ hf)

theorem State.waitExpected_keeps {s : State} {p : PointId} {e : QueueEntry} (he : e ∈ (s.point p).queue)
    (hf : e.isFront = false) : s.Keeps (s.waitExpected p e) := by
  have hg := State.giveUpRecord_shrinks e.visit.bus (.point p) s
  have hw := State.waitEntry_keeps (s := s.giveUpRecord e.visit.bus (.point p)) (p := p) (a := e.recordAwaited)
    (State.claimOwn_bus s (.point p) (s.pointImage p).kind.stageHere e.visit)
  exact ⟨fun hc => hw.1 (hg.keeps.capacity hc), fun hd => hw.2 (hg.keeps.distinct hd)
    (State.giveUpRecord_record hd (State.pendingAt_of_entry hd he hf))⟩

theorem State.waitClaimed_keeps {s : State} {p : PointId} {t : TagFields} {e : QueueEntry} (he : e ∈ (s.point p).queue)
    (hf : e.isFront = false) : s.Keeps (s.waitClaimed p t e) := by
  have hfree := State.freeTag_shrinks e.tag s
  have hg := State.giveUpRecord_shrinks e.visit.bus (.point p) (s.freeTag e.tag)
  have hw := State.waitEntry_keeps (s := (s.freeTag e.tag).giveUpRecord e.visit.bus (.point p)) (p := p)
    (a := s.recordDeadline (s.claimedRecord t (.point p) (s.pointImage p).kind.stageHere e.visit).2)
    (State.claimedRecord_bus s t (.point p) (s.pointImage p).kind.stageHere e.visit)
  rw [State.waitClaimed_eq]
  refine State.Keeps.trans ⟨fun hc => hw.1 ((hfree.trans hg).keeps.capacity hc), fun hd => hw.2
    ((hfree.trans hg).keeps.distinct hd) (State.giveUpRecord_record (hfree.keeps.distinct hd) ?_)⟩
    (State.announceStray_shrinks _ _ _ _).keeps
  simpa [State.pendingAt] using State.pendingAt_of_entry hd he hf

theorem State.waitPending_keeps {s : State} {p : PointId} {t : TagFields} {e : QueueEntry} (he : e ∈ (s.point p).queue)
    (hf : e.isFront = false) : s.Keeps (s.waitPending p t e) := by
  unfold State.waitPending
  split
  · exact State.waitExpected_keeps he hf
  · exact State.waitClaimed_keeps he hf

/-! A stray at a point (R96) -/

theorem State.makeQueuePlace_shrinks (p : PointId) (s : State) : s.Shrinks (s.makeQueuePlace p) := by
  unfold State.makeQueuePlace
  split
  · exact .refl s
  split
  · exact .refl s
  next e _ =>
    have hdrop : s.Shrinks ((s.freeTag e.tag).modPoint p (Point.dropEntry e.visit.bus)) :=
      (State.freeTag_shrinks e.tag s).trans
        (.modPoint (List.length_filter_le _ _) (fun _ => Point.queue_filter_slots _ _))
    change s.Shrinks (if e.state = .expected then State.report _ ((s.freeTag e.tag).modPoint p (Point.dropEntry e.visit.bus))
      else (s.freeTag e.tag).modPoint p (Point.dropEntry e.visit.bus))
    split
    · exact hdrop.trans (State.report_shrinks _ _)
    · exact hdrop

theorem State.dropExpectedOf_shrinks (b : Nat) (here : Option Resource) (s : State) : s.Shrinks (s.dropExpectedOf b here) := by
  unfold State.dropExpectedOf
  dsimp only
  refine State.Shrinks.trans (.queues (f := fun v => if here = some (.point .p0) then v else
      { v with queue := v.queue.filter (fun e => !(decide (e.visit.bus = b) && decide (e.state = .expected))) })
    (g := fun v => if here = some (.point .p1) then v else
      { v with queue := v.queue.filter (fun e => !(decide (e.visit.bus = b) && decide (e.state = .expected))) }) ?_ ?_)
    (State.removeLaneEntries_shrinks _ _)
  all_goals
    split
    · exact .refl _
    · exact Point.queue_filter_slots _ _

theorem State.clearForStray_shrinks (b : Nat) (here : Resource) (s : State) : s.Shrinks (s.clearForStray b here) := by
  unfold State.clearForStray
  dsimp only
  refine State.Shrinks.trans ?_ (State.dropBidsOf_shrinks b _)
  repeat' split
  · exact State.giveUpRecord_shrinks b here s
  · exact State.dropExpectedOf_shrinks b _ s
  · exact .refl s

/-- A node that finds no record of a bus elsewhere, and has none at the place itself, holds none. -/
theorem State.occurs_record_of_ownRecord? {s : State} {b : Nat} {here : Resource} (h : s.ownRecord? b here = none)
    (hp : s.pendingAt b here) : s.occurs (.record b) = 0 := by
  simp only [State.ownRecord?, Option.orElse_eq_orElse, Option.orElse_eq_or, Option.or_eq_none_iff] at h
  obtain ⟨ho, h0, h1, hl⟩ := h
  have hkeys : s.keys.count (.bus b) = 0 := by
    rw [List.count_eq_zero]
    intro hmem
    obtain ⟨i, hi, hk⟩ := List.mem_map.1 hmem
    cases hit : s.item? (.bus b) with
    | none => exact absurd (List.find?_eq_none.1 hit i hi) (by simp [hk])
    | some j =>
      have hj : j.key = .bus b := by simpa using List.find?_some hit
      rw [hit, Option.bind_some] at ho
      cases hc : j.cargo <;> simp [OutItem.visit?, OutItem.key, hc] at ho hj
  have hpoint : ∀ p, (if here = .point p then none else
      ((s.point p).queue.find? (fun e => decide (e.visit.bus = b) && e.isFront)).map (s.handedRecord p)) = none →
      (s.point p).queue.countP (QueueEntry.holds b) = 0 := by
    intro p h
    split at h
    · rename_i hh; subst hh; exact hp
    · rw [Option.map_eq_none_iff, List.find?_eq_none] at h
      rw [List.countP_eq_zero]
      intro e he hh
      exact h e he (by simpa [QueueEntry.holds, and_comm] using hh)
  have hlanes : s.laneEntries.countP (LaneEntry.holds b) = 0 := by
    rw [List.countP_eq_zero]
    intro e he hh
    obtain ⟨l, hlm, hel⟩ := List.mem_flatMap.1 he
    obtain ⟨n, hn⟩ := List.mem_iff_getElem?.1 hlm
    by_cases hhere : here = .lane n
    · subst hhere
      exact List.countP_eq_zero.1 hp e (mem_entriesAt.2 ⟨l, hn, hel⟩) hh
    · have := List.findSome?_eq_none_iff.1 hl n
        (by simpa [hhere] using (List.getElem?_eq_some_iff.1 hn).1)
      rw [hn, Option.bind_some, Option.map_eq_none_iff, List.find?_eq_none] at this
      exact this e hel (by simpa [LaneEntry.holds, and_comm] using hh)
  have e0 := hpoint .p0 h0
  have e1 := hpoint .p1 h1
  simp only [State.point] at e0 e1
  rw [State.occurs_record, hkeys, hlanes, e0, e1]

/-- A node that has cleared the way for a stray holds no record of the bus. -/
theorem State.clearForStray_record {s : State} (hd : s.entriesDistinct) {b : Nat} {here : Resource}
    (hp : s.pendingAt b here) : (s.clearForStray b here).occurs (.record b) = 0 := by
  have drop : ∀ t u : State, t.Shrinks u → t.entriesDistinct → t.occurs (.record b) = 0 → u.occurs (.record b) = 0 :=
    fun t u h hd h0 => by have := h.occurs hd (.record b); omega
  unfold State.clearForStray
  dsimp only
  split
  · exact drop _ _ (State.dropBidsOf_shrinks b _) ((State.giveUpRecord_shrinks b here s).keeps.distinct hd)
      (State.giveUpRecord_record hd hp)
  · rename_i hown
    have h0 := State.occurs_record_of_ownRecord? (by simpa using hown) hp
    split
    · exact drop _ _ ((State.dropExpectedOf_shrinks b _ s).trans (State.dropBidsOf_shrinks b _)) hd h0
    · exact drop _ _ (State.dropBidsOf_shrinks b s) hd h0

theorem State.strayIntoQueue_keeps {s : State} {p : PointId} {t : TagFields} (h : (s.point p).entry? t.bus = none) :
    s.Keeps (s.strayIntoQueue p t) := by
  have hm := State.makeQueuePlace_shrinks p s
  have hc := State.clearForStray_shrinks t.bus (.point p) (s.makeQueuePlace p)
  unfold State.strayIntoQueue
  dsimp only
  split
  · exact (State.report_shrinks _ s).keeps
  rename_i hroom
  refine State.Keeps.trans ⟨fun hcap => State.capacity_of_enterQueue ((hm.trans hc).keeps.capacity hcap) ?_,
    fun hd => State.distinct_of_enterQueue ((hm.trans hc).keeps.distinct hd) (queueBehind_perm _ _) (.refl _)
      (fun x hx => ?_) (fun _ => ?_)⟩ (State.announceStray_shrinks _ _ _ _).keeps
  · have hload := hc.load (.queue p)
    simp only [State.load, Store.slack] at hload
    rw [(queueBehind_perm _ _).length_eq, List.length_cons]
    omega
  all_goals
    have hnone : ∀ u : State, s.Shrinks u → ∀ x ∈ (u.point p).queue, x.visit.bus ≠ t.bus := by
      intro u hu x hx hb
      have h0 := hu.occurs hd (.queue p t.bus)
      have hs : s.occurs (.queue p t.bus) = 0 := by
        simpa [State.occurs, List.count_eq_zero] using Point.entry?_eq_none.1 h
      have hpos : 0 < u.occurs (.queue p t.bus) := List.count_pos_iff.2 (List.mem_map.2 ⟨x, hx, hb⟩)
      omega
  · rw [QueueEntry.waitingStray, State.strayRecord?_bus]
    exact hnone _ (hm.trans hc) x hx
  · rw [QueueEntry.waitingStray, State.strayRecord?_bus]
    exact State.clearForStray_record (hm.keeps.distinct hd)
      (State.pendingAt_point (fun x hx hb => absurd hb (hnone _ hm x hx)))

end Sys2Proof.Machine

namespace Sys2Proof.Machine

open Sys2Proof

/-! ## A STRAY of another station (R39) -/

theorem State.answerStray_shrinks (b source : Nat) (here : Resource) (s : State) : s.Shrinks (s.answerStray b source here) := by
  unfold State.answerStray
  split
  · exact (State.place_shrinks _ _ s).trans (State.giveUpRecord_shrinks b here _)
  · exact .refl s

theorem State.onStray_shrinks (source b : Nat) (s : State) : s.Shrinks (s.onStray source b) :=
  ((((State.dropBidsOf_shrinks b s).trans (State.dropExpectedOf_shrinks b none _)).trans
    (State.answerStray_shrinks b source (.lane 6) _)).trans
    ((State.cancelOffer_shrinks _ _).trans (State.testIfClosed_shrinks _ _))).trans (State.settle_shrinks s _)

/-! ## Reads at the entry of a lane (R57 to R62) -/

theorem State.classTest_shrinks (n b old : Nat) (s : State) : s.Shrinks (s.classTest n b old) := by
  unfold State.classTest
  split
  · exact .refl s
  · exact State.overfullTest_shrinks n b s

/-- What R58 and R60 make of the entry of a bus that has come. -/
def LaneEntry.arrived (v : VisitRecord) (awaited : Option Nat) (e : LaneEntry) : LaneEntry :=
  { e with visit := v, state := .parked, tag := none, value := none, deadline := none, recordAwaited := awaited }

theorem Lane.entry?_spec {l : Lane} {b : Nat} {e : LaneEntry} (h : l.entries.find? (fun e => e.visit.bus = b) = some e) :
    e ∈ l.entries ∧ e.visit.bus = b := ⟨List.mem_of_find?_eq_some h, by simpa using List.find?_some h⟩

theorem Lane.parkEntry_of_entry {l : Lane} {b : Nat} {e : LaneEntry}
    (h : l.entries.find? (fun e => e.visit.bus = b) = some e) (v : VisitRecord) (awaited : Option Nat) :
    l.parkEntry b v awaited
      = { l with entries := parkBehind (e.arrived v awaited) (l.entries.filter (fun x => decide (x.visit.bus ≠ b))) } := by
  simp only [Lane.parkEntry, h]; rfl

theorem Lane.parkEntry_of_none {l : Lane} {b : Nat} (h : l.entries.find? (fun e => e.visit.bus = b) = none) (v : VisitRecord)
    (awaited : Option Nat) : l.parkEntry b v awaited = l := by
  simp [Lane.parkEntry, h]

theorem lane_filter_ne_length_lt {q : List LaneEntry} {e : LaneEntry} (he : e ∈ q) :
    (q.filter (fun x => decide (x.visit.bus ≠ e.visit.bus))).length < q.length :=
  List.length_filter_lt_length_iff_exists.2 ⟨e, he, by simp⟩

/-- A lane that is changed to one no longer than it may be. -/
theorem State.capacity_of_enterLane {s : State} {n : Nat} {f : Lane → Lane} (hc : s.withinCapacity)
    (h : ∀ l, s.lanes[n]? = some l → (f l).entries.length ≤ Config.laneCapacity) : (s.modLane n f).withinCapacity := by
  refine State.setLanes_capacity _ s hc (fun l hl => ?_)
  obtain ⟨k, hk⟩ := List.mem_iff_getElem?.1 hl
  rw [List.getElem?_modify] at hk
  split at hk
  · next hn =>
    obtain ⟨l', hl', rfl⟩ := Option.map_eq_some_iff.1 hk
    exact h l' (hn ▸ hl')
  · exact State.lane_capacity hc (List.mem_of_getElem? (by simpa using hk))

/-- An entry that turns into the record of its bus (R58, R60), in a node that holds the record nowhere else any more. -/
theorem State.parkEntry_keeps {s : State} {n b : Nat} {v : VisitRecord} {a : Option Nat} (hb : v.bus = b) :
    (s.withinCapacity → (s.modLane n (Lane.parkEntry b v a)).withinCapacity) ∧
      (s.entriesDistinct → s.occurs (.record b) = 0 → (s.modLane n (Lane.parkEntry b v a)).entriesDistinct) := by
  cases hl : s.lanes[n]? with
  | none =>
    have hs : s.Shrinks (s.modLane n (Lane.parkEntry b v a)) :=
      .modLane (fun l h => by simp [hl] at h) (fun _ l h => by simp [hl] at h)
    exact ⟨hs.keeps.capacity, fun hd _ => hs.keeps.distinct hd⟩
  | some l =>
    have only : ∀ k, s.lanes[n]? = some k → k = l := fun k hk => by simpa [hl] using hk.symm
    cases h : l.entries.find? (fun e => e.visit.bus = b) with
    | none =>
      have hsame := Lane.parkEntry_of_none h v a
      have hs : s.Shrinks (s.modLane n (Lane.parkEntry b v a)) :=
        .modLane (fun k hk => by rw [only k hk, hsame]) (fun _ k hk => by rw [only k hk, hsame])
      exact ⟨hs.keeps.capacity, fun hd _ => hs.keeps.distinct hd⟩
    | some e =>
      obtain ⟨he, heb⟩ := Lane.entry?_spec h
      have heq := Lane.parkEntry_of_entry h v a
      refine ⟨fun hc => State.capacity_of_enterLane hc (fun k hk => ?_), fun hd hr => State.distinct_of_enterLane hd hl
        (by rw [heq]; exact parkBehind_perm _ _) List.filter_sublist (fun x hx => ?_) (fun _ => ?_)⟩
      · have hlt := lane_filter_ne_length_lt he
        have hle := State.lane_capacity hc (List.mem_of_getElem? hl)
        rw [only k hk, heq, (parkBehind_perm _ _).length_eq, List.length_cons, ← heb]
        omega
      · simpa [LaneEntry.arrived, hb] using (List.mem_filter.1 hx).2
      · simpa [LaneEntry.arrived, hb] using hr

/-- An entry of a lane that stands for no record, where no other entry has its bus. -/
theorem State.pendingAt_of_lane_entry {s : State} (hd : s.entriesDistinct) {n : Nat} {l : Lane} {e : LaneEntry}
    (hl : s.lanes[n]? = some l) (he : e ∈ l.entries) (hf : e.isFront = false) : s.pendingAt e.visit.bus (.lane n) :=
  State.pendingAt_lane (fun x hx hb => by
    rw [entriesAt_of_getElem? hl] at hx
    exact State.lane_entry_unique hd hl hx he hb ▸ hf)

section
variable {s : State} {n : Nat} {l : Lane} {e : LaneEntry}

theorem State.parkExpected_keeps (hl : s.lanes[n]? = some l) (he : e ∈ l.entries) (hf : e.isFront = false) :
    s.Keeps (s.parkExpected n e) := by
  have hg := State.giveUpRecord_shrinks e.visit.bus (.lane n) s
  have hw := State.parkEntry_keeps (s := s.giveUpRecord e.visit.bus (.lane n)) (n := n) (a := e.recordAwaited)
    (State.claimOwn_bus s (.lane n) .parked e.visit)
  exact State.Keeps.trans ⟨fun hc => hw.1 (hg.keeps.capacity hc), fun hd => hw.2 (hg.keeps.distinct hd)
    (State.giveUpRecord_record hd (State.pendingAt_of_lane_entry hd hl he hf))⟩ (State.classTest_shrinks _ _ _ _).keeps

theorem State.parkClaimed_eq (n : Nat) (t : TagFields) (e : LaneEntry) (s : State) :
    s.parkClaimed n t e = State.classTest n e.visit.bus e.visit.cls (State.announceStray e.visit.bus (.lane n)
      (s.claimedRecord t (.lane n) .parked e.visit).2
      (((s.freeTag e.tag).giveUpRecord e.visit.bus (.lane n)).modLane n (Lane.parkEntry e.visit.bus
        (s.claimedRecord t (.lane n) .parked e.visit).1
        (s.recordDeadline (s.claimedRecord t (.lane n) .parked e.visit).2)))) := rfl

theorem State.parkClaimed_keeps (t : TagFields) (hl : s.lanes[n]? = some l) (he : e ∈ l.entries) (hf : e.isFront = false) :
    s.Keeps (s.parkClaimed n t e) := by
  have hfree := State.freeTag_shrinks e.tag s
  have hg := State.giveUpRecord_shrinks e.visit.bus (.lane n) (s.freeTag e.tag)
  have hw := State.parkEntry_keeps (s := (s.freeTag e.tag).giveUpRecord e.visit.bus (.lane n)) (n := n)
    (a := s.recordDeadline (s.claimedRecord t (.lane n) .parked e.visit).2)
    (State.claimedRecord_bus s t (.lane n) .parked e.visit)
  rw [State.parkClaimed_eq]
  refine State.Keeps.trans ⟨fun hc => hw.1 ((hfree.trans hg).keeps.capacity hc), fun hd => hw.2
    ((hfree.trans hg).keeps.distinct hd) (State.giveUpRecord_record (hfree.keeps.distinct hd) ?_)⟩
    ((State.announceStray_shrinks _ _ _ _).trans (State.classTest_shrinks _ _ _ _)).keeps
  simpa [State.pendingAt] using State.pendingAt_of_lane_entry hd hl he hf

end

theorem Lane.reenter_of_entry {l : Lane} {b : Nat} {e : LaneEntry}
    (h : l.entries.find? (fun e => e.visit.bus = b) = some e) :
    l.reenter b = { l with
      entries := parkBehind { e with unconfirmed := false } (l.entries.filter (fun x => decide (x.visit.bus ≠ b))) } := by
  simp only [Lane.reenter, h]

theorem Lane.reenter_of_none {l : Lane} {b : Nat} (h : l.entries.find? (fun e => e.visit.bus = b) = none) :
    l.reenter b = l := by
  simp [Lane.reenter, h]

/-- A re-entry moves an entry within its lane (R59). -/
theorem Lane.reenter_slots {l : Lane} {b : Nat} :
    ((l.reenter b).entries.map LaneEntry.slot).Subperm (l.entries.map LaneEntry.slot) := by
  cases h : l.entries.find? (fun e => e.visit.bus = b) with
  | none => rw [Lane.reenter_of_none h]
  | some e =>
    obtain ⟨he, heb⟩ := Lane.entry?_spec h
    rw [Lane.reenter_of_entry h]
    refine (((parkBehind_perm _ _).map LaneEntry.slot).subperm).trans ?_
    have hsplit : (e :: l.entries.filter (fun x => decide (x.visit.bus ≠ b))).Subperm l.entries := by
      refine List.cons_subperm_of_not_mem_of_mem ?_ he List.filter_sublist.subperm
      simp [heb]
    obtain ⟨m, hp, hs⟩ := hsplit
    exact ⟨m.map LaneEntry.slot, hp.map _, hs.map _⟩

theorem State.reenter_shrinks (n b : Nat) (s : State) : s.Shrinks (s.modLane n (Lane.reenter b)) :=
  .modLane (fun l _ => by simpa using (Lane.reenter_slots (l := l) (b := b)).length_le) (fun _ _ _ => Lane.reenter_slots)

/-! A stray at a lane (R61, R62) -/

theorem State.makeLanePlace_shrinks (n : Nat) (s : State) : s.Shrinks (s.makeLanePlace n) := by
  unfold State.makeLanePlace
  split
  · exact .refl s
  split
  · exact .refl s
  split
  · exact .refl s
  next e _ =>
    have hdrop : s.Shrinks ((s.freeTag e.tag).removeLaneEntries
        (fun k x => decide (k = n) && decide (x.visit.bus = e.visit.bus))) :=
      (State.freeTag_shrinks e.tag s).trans (State.removeLaneEntries_shrinks _ _)
    change s.Shrinks (if e.state = .expected then State.report _ ((s.freeTag e.tag).removeLaneEntries _)
      else (s.freeTag e.tag).removeLaneEntries _)
    split
    · exact hdrop.trans (State.report_shrinks _ _)
    · exact hdrop

/-- A lane that does not hold a bus does not come to hold it by an operation that adds nothing. -/
theorem State.Shrinks.lane_free {s t : State} (h : s.Shrinks t) (hd : s.entriesDistinct) {n b : Nat}
    (hs : ∀ e ∈ entriesAt s.lanes n, e.visit.bus ≠ b) : ∀ e ∈ entriesAt t.lanes n, e.visit.bus ≠ b := by
  have h0 : s.occurs (.lane n b) = 0 := by simpa [State.occurs, List.count_eq_zero] using hs
  have hle := h.occurs hd (.lane n b)
  have h1 : t.occurs (.lane n b) = 0 := by omega
  simpa [State.occurs, List.count_eq_zero] using h1

/-- A bus that a lane does not hold comes into it once the node has given up what it had of it (R38, R61). -/
theorem State.strayInserted_keeps {s : State} {n : Nat} {e : LaneEntry}
    (hroom : (entriesAt s.lanes n).length < Config.laneCapacity) :
    (s.withinCapacity → ((s.clearForStray e.visit.bus (.lane n)).modLane n
      (fun l => { l with entries := parkBehind e l.entries })).withinCapacity) ∧
    (s.entriesDistinct → (∀ x ∈ entriesAt s.lanes n, x.visit.bus ≠ e.visit.bus) →
      ((s.clearForStray e.visit.bus (.lane n)).modLane n
        (fun l => { l with entries := parkBehind e l.entries })).entriesDistinct) := by
  have hc := State.clearForStray_shrinks e.visit.bus (.lane n) s
  refine ⟨fun hcap => State.capacity_of_enterLane (hc.keeps.capacity hcap) (fun k hk => ?_), fun hd h => ?_⟩
  · have hload := hc.load (.lane n)
    simp only [State.load, Store.slack, entriesAt_of_getElem? hk] at hload
    rw [(parkBehind_perm _ _).length_eq, List.length_cons]
    omega
  · have hd' := hc.keeps.distinct hd
    have hnone : ∀ x ∈ entriesAt (s.clearForStray e.visit.bus (.lane n)).lanes n, x.visit.bus ≠ e.visit.bus :=
      hc.lane_free hd h
    cases hk : (s.clearForStray e.visit.bus (.lane n)).lanes[n]? with
    | none => exact (State.Shrinks.modLane (fun l h => by simp [hk] at h) (fun _ l h => by simp [hk] at h)).keeps.distinct hd'
    | some k =>
      rw [entriesAt_of_getElem? hk] at hnone
      exact State.distinct_of_enterLane hd' hk (parkBehind_perm _ _) (.refl _) hnone
        (fun _ => State.clearForStray_record hd (State.pendingAt_lane (fun x hx hb => absurd hb (h x hx))))

/-- What follows the insertion of a stray: its announcement, and the OVERFULL test where the lane is too full (R49). -/
theorem State.strayAnnounced_shrinks (b n len : Nat) (i : Image) (awaited : Bool) (o : Option Lane) (s : State) :
    s.Shrinks (match o with
      | some l => if len < l.occupied i then (s.announceStray b (.lane n) awaited).overfullTest n b
        else s.announceStray b (.lane n) awaited
      | none => s.announceStray b (.lane n) awaited) := by
  have hann := State.announceStray_shrinks b (.lane n) awaited s
  repeat' split
  · exact hann.trans (State.overfullTest_shrinks _ _ _)
  · exact hann
  · exact hann

theorem State.strayIntoLane_keeps {s : State} {n : Nat} {t : TagFields}
    (h : ∀ e ∈ entriesAt s.lanes n, e.visit.bus ≠ t.bus) : s.Keeps (s.strayIntoLane n t) := by
  have hm := State.makeLanePlace_shrinks n s
  unfold State.strayIntoLane
  dsimp only
  split
  · exact .refl s
  next l hl =>
  split
  · have hmark : s.Shrinks (s.modLane n (fun l => { l with overfull := true })) := .modLane_same (fun _ => rfl)
    exact (hmark.trans (State.report_shrinks _ _)).keeps
  next hroom =>
  rw [Nat.not_le, ← entriesAt_of_getElem? hl] at hroom
  refine State.Keeps.trans ?_ (State.strayAnnounced_shrinks _ _ _ _ _ _ _).keeps
  have hb := State.strayRecord?_bus (s.makeLanePlace n) t (.lane n) .parked
  have hins := State.strayInserted_keeps (e := LaneEntry.parkedStray ((s.makeLanePlace n).strayRecord? t (.lane n) .parked).1
    (s.recordDeadline ((s.makeLanePlace n).strayRecord? t (.lane n) .parked).2)) hroom
  simp only [LaneEntry.parkedStray, hb] at hins
  exact ⟨fun hc => hins.1 (hm.keeps.capacity hc), fun hd => hins.2 (hm.keeps.distinct hd) (hm.lane_free hd h)⟩

theorem State.laneEntryRead_keeps (n : Nat) (t : TagFields) (s : State) : s.Keeps (s.laneEntryRead n t) := by
  have settled : ∀ u : State, s.Keeps u → s.Keeps (State.settle s u) :=
    fun u hu => hu.trans (State.settle_shrinks s u).keeps
  unfold State.laneEntryRead
  split
  · exact .refl s
  next l hl =>
  split
  · exact .refl s
  split
  · next hnone =>
    refine settled _ (State.strayIntoLane_keeps (fun e he => ?_))
    rw [entriesAt_of_getElem? hl] at he
    simpa using List.find?_eq_none.1 hnone e he
  next e hent =>
    have he := (Lane.entry?_spec hent).1
    split
    · exact settled _ (State.reenter_shrinks n t.bus s).keeps
    · exact settled _ (State.reenter_shrinks n t.bus s).keeps
    · next hst => exact settled _ (State.parkClaimed_keeps t hl he (by simp [LaneEntry.isFront, hst]))
    · next hst =>
      have hf : e.isFront = false := by simp [LaneEntry.isFront, hst]
      split
      · exact settled _ (State.parkClaimed_keeps t hl he hf)
      · exact settled _ (State.parkExpected_keeps hl he hf)

/-! ## Reads at the exit of a lane, lane-clear, timeouts and lane control (R56, R64 to R72) -/

theorem State.sendGone_shrinks (n : Nat) (e : LaneEntry) (s : State) : s.Shrinks (s.sendGone n e) := State.send_shrinks _ s

theorem markInFront_slots (b : Nat) (l : List LaneEntry) : (markInFront b l).map LaneEntry.slot = l.map LaneEntry.slot := by
  induction l with
  | nil => rfl
  | cons e es ih =>
    unfold markInFront
    split
    · rfl
    · rw [List.map_cons, List.map_cons, ih]
      split <;> rfl

theorem State.laneExitRead_shrinks (n : Nat) (t : TagFields) (s : State) : s.Shrinks (s.laneExitRead n t) := by
  unfold State.laneExitRead
  split
  · exact .refl s
  split
  · exact State.send_shrinks _ s
  next e _ =>
  refine State.Shrinks.trans ?_ (State.settle_shrinks s _)
  refine State.Shrinks.trans ?_ (State.sendGone_shrinks n e _)
  refine State.Shrinks.trans ?_ (State.removeLaneEntries_shrinks _ _)
  split
  · exact .modLane (fun l _ => by simpa using (List.Perm.of_eq (markInFront_slots t.bus l.entries)).length_eq.le)
      (fun _ l _ => (List.Perm.of_eq (markInFront_slots t.bus l.entries)).subperm)
  · exact State.freeTag_shrinks e.tag s

theorem State.laneClear_shrinks (n : Nat) (s : State) : s.Shrinks (s.laneClear n) := by
  unfold State.laneClear
  split
  · exact .refl s
  split
  · exact .modLane (fun _ _ => Nat.zero_le _) (fun _ _ _ => List.nil_subperm)
  · refine State.Shrinks.trans ((State.removeLaneEntries_shrinks _ s).trans (.foldl (fun t e => ?_) _ _))
      (State.settle_shrinks s _)
    split
    · exact State.sendGone_shrinks n e t
    · exact State.report_shrinks _ t

theorem State.expireLanes_shrinks (q : LaneEntry → Bool) (s : State) : s.Shrinks (s.expireLanes q) := by
  unfold State.expireLanes
  dsimp only
  split
  · exact .refl s
  · exact ((State.removeLaneEntries_shrinks _ s).trans
      (.foldl (fun t (g : Nat × LaneEntry) => State.report_shrinks _ t) _ _)).trans (State.settle_shrinks s _)

theorem State.closeLane_shrinks (n : Nat) (s : State) : s.Shrinks (s.closeLane n) := by
  unfold State.closeLane
  repeat' split
  · exact .modLane_same (fun _ => rfl)
  all_goals exact .refl s

theorem State.openLane_shrinks (n : Nat) (s : State) : s.Shrinks (s.openLane n) := by
  unfold State.openLane
  repeat' split
  · exact .modLane_same (fun _ => rfl)
  all_goals exact .refl s

theorem State.onControl_shrinks (source : Nat) (payload : List Byte) {onLane : Nat → State → State}
    {onPoint : PointId → State → State} (s : State) (hl : ∀ n, s.Shrinks (onLane n s)) (hp : ∀ p, s.Shrinks (onPoint p s)) :
    s.Shrinks (s.onControl source payload onLane onPoint) := by
  unfold State.onControl
  repeat' split
  · exact .refl s
  · exact hl _
  · exact .refl s
  · exact hp _
  · exact .refl s

theorem State.setClosed_shrinks (v : Bool) (p : PointId) (s : State) : s.Shrinks (s.setClosed v p) := .modPoint_same rfl

theorem State.clearPoint_shrinks (p : PointId) (s : State) : s.Shrinks (s.clearPoint p) := by
  have idled : s.Shrinks ((s.modPoint p (fun v => { v with state := .idle })).startTest p) :=
    State.Shrinks.trans (.modPoint_same rfl) (State.startTest_shrinks p _)
  unfold State.clearPoint
  repeat' split
  · exact .refl s
  · exact idled
  · exact .modPoint_same rfl
  · exact .refl s
  · exact idled
  · exact .refl s

end Sys2Proof.Machine

namespace Sys2Proof.Machine

open Sys2Proof

/-- A further change of a point that keeps its queue. -/
theorem State.Shrinks.thenPoint {s t : State} {p : PointId} {f : Point → Point} (h : s.Shrinks t)
    (hf : (f (t.point p)).queue = (t.point p).queue) : s.Shrinks (t.modPoint p f) := h.trans (.modPoint_same hf)

@[simp] theorem State.send_point (b : FrameBody) (s : State) (p : PointId) : (s.send b).point p = s.point p := by
  rw [State.send, State.place_eq]; cases p <;> rfl

@[simp] theorem State.report_point (b : ReportBody) (s : State) (p : PointId) : (s.report b).point p = s.point p := by
  rw [State.report_eq]; cases p <;> rfl

/-! ## A bus passed on, and reads at the entry of a point (R93 to R96, R119) -/

/-- Every entry of a bus in a queue stands for its record. -/
def State.frontAt (s : State) (p : PointId) (b : Nat) : Prop :=
  ∀ x ∈ (s.point p).queue, x.visit.bus = b → x.isFront = true

theorem State.frontAt_of_entry {s : State} (hd : s.entriesDistinct) {p : PointId} {b : Nat} {e : QueueEntry}
    (h : (s.point p).entry? b = some e) (hf : e.isFront = true) : s.frontAt p b := by
  obtain ⟨he, heb⟩ := Point.entry?_spec h
  exact fun x hx hb => State.queue_entry_unique hd hx he (hb.trans heb.symm) ▸ hf

/-- A record that becomes FINISHED in its place. -/
theorem State.finish_shrinks {s : State} {p : PointId} {b : Nat} {g : QueueEntry → QueueEntry}
    (hg : ∀ x, (g x).visit.bus = x.visit.bus ∧ (g x).isFront = true) (h : s.entriesDistinct → s.frontAt p b) :
    s.Shrinks (s.modPoint p (Point.modEntry b g)) :=
  .modEntry rfl (fun hd x hx hb => QueueEntry.slot_of_front (hg x).1 (h hd x hx hb) (hg x).2)

theorem State.finishFaulted_shrinks {s : State} {p : PointId} {b : Nat} {f : VisitRecord → VisitRecord}
    (hf : ∀ r, (f r).bus = r.bus) (h : s.entriesDistinct → s.frontAt p b) : s.Shrinks (s.finishFaulted p b f) := by
  have hfin : s.Shrinks (s.modPoint p (Point.modEntry b (fun x =>
      { x with state := .finished, visit := f x.visit, passedOn := true }))) := State.finish_shrinks (fun x => ⟨hf _, rfl⟩) h
  unfold State.finishFaulted
  split
  · exact .refl s
  dsimp only
  split
  · exact hfin
  · exact hfin.trans (State.askJoin_shrinks p b _)

theorem State.passOn_shrinks (p : PointId) (b : Nat) (s : State) : s.Shrinks (s.passOn p b) := by
  unfold State.passOn
  split
  · next h =>
    obtain ⟨e, he, hw⟩ := (Option.any_eq_true _ _).1 h
    refine State.finishFaulted_shrinks (fun _ => rfl) (fun hd => State.frontAt_of_entry hd he ?_)
    simp [QueueEntry.isFront, of_decide_eq_true hw]
  · exact .refl s

theorem State.afterEntry_shrinks (p : PointId) (b : Nat) (s : State) : s.Shrinks (s.afterEntry p b) := by
  unfold State.afterEntry
  split
  · exact State.passOn_shrinks p b s
  · exact State.startTest_shrinks p s

theorem State.pointEntryRead_keeps (p : PointId) (t : TagFields) (s : State) : s.Keeps (s.pointEntryRead p t) := by
  have after : ∀ u : State, s.Keeps u → s.Keeps (State.settle s (u.afterEntry p t.bus)) :=
    fun u hu => hu.trans ((State.afterEntry_shrinks p t.bus u).trans (State.settle_shrinks s _)).keeps
  unfold State.pointEntryRead
  split
  · next h => exact after _ (State.strayIntoQueue_keeps h)
  · next e h =>
    split
    · exact .refl s
    · next hf => exact after _ (State.waitPending_keeps (Point.entry?_spec h).1 (by simpa using hf))

/-! ## Services at a fuel point (R98 to R106) -/

theorem State.onPulse_shrinks (p : PointId) (s : State) : s.Shrinks (s.onPulse p) := by
  unfold State.onPulse
  dsimp only
  split
  · exact .setPoint le_rfl (fun _ => .refl _)
  · exact .refl s

theorem State.nozzleLifted_shrinks (p : PointId) (s : State) : s.Shrinks (s.nozzleLifted p) := by
  unfold State.nozzleLifted
  split
  · exact .modPoint_same rfl
  · exact .refl s

theorem State.nozzleHung_shrinks (p : PointId) (s : State) : s.Shrinks (s.nozzleHung p) := by
  have hq : s.Shrinks (s.modPoint p (fun v => { v with qualifies := false })) := .modPoint_same rfl
  unfold State.nozzleHung
  dsimp only
  repeat' split
  · exact hq.trans (State.endFuelTested_shrinks p _ _ _)
  · exact hq
  · exact hq

theorem State.nozzleTimeout_shrinks (p : PointId) (s : State) : s.Shrinks (s.nozzleTimeout p) := by
  unfold State.nozzleTimeout
  repeat' split
  · exact State.endFuelTested_shrinks p _ _ s
  all_goals exact .refl s

theorem State.driveOff_shrinks (p : PointId) (s : State) : s.Shrinks (s.driveOff p) := by
  unfold State.driveOff
  split
  · exact State.endFuelTested_shrinks p _ _ s
  · exact .refl s

theorem State.measureFlow_shrinks (p : PointId) (s : State) : s.Shrinks (s.measureFlow p) := .modPoint_same rfl

theorem State.beginInterval_shrinks (p : PointId) (s : State) : s.Shrinks (s.beginInterval p) := .modPoint_same rfl

theorem State.flowFault_shrinks (p : PointId) (s : State) : s.Shrinks (s.flowFault p) := by
  unfold State.flowFault
  dsimp only
  split
  · split
    · refine State.Shrinks.trans ?_ (State.endFuelTested_shrinks p _ _ _)
      exact (State.report_shrinks _ s).thenPoint rfl
    · exact .refl s
  · exact .refl s

/-! ## Reads at the exit of a point (R101, R103, R104, R123, R124) -/

section
variable {s : State} {p : PointId} {b : Nat}

theorem State.leaveUnfuelled_shrinks (h : s.entriesDistinct → s.frontAt p b) : s.Shrinks (s.leaveUnfuelled p b) := by
  refine State.Shrinks.trans ?_ (State.askJoin_shrinks p b _)
  exact State.finish_shrinks (fun _ => ⟨rfl, rfl⟩) h

theorem State.leaveUnwashed_shrinks (h : s.entriesDistinct → s.frontAt p b) : s.Shrinks (s.leaveUnwashed p b) := by
  refine State.Shrinks.trans ?_ (State.askJoin_shrinks p b _)
  exact State.finish_shrinks (fun _ => ⟨rfl, rfl⟩) h

theorem State.leaveArrived_shrinks (h : s.entriesDistinct → s.frontAt p b) : s.Shrinks (s.leaveArrived p b) := by
  unfold State.leaveArrived
  split
  · exact State.finishFaulted_shrinks (fun _ => rfl) h
  · exact State.leaveUnwashed_shrinks h

end

theorem State.countExit_shrinks (p : PointId) (b : Nat) (s : State) : s.Shrinks (s.countExit p b) := by
  unfold State.countExit
  split
  · exact State.countLeft_shrinks p s
  · exact .refl s

/-- Once the record of a bus waits, the queue holds no pending entry of the bus. -/
theorem State.waitEntry_frontAt {s : State} {p : PointId} {b : Nat} {v : VisitRecord} {a : Option Nat} :
    (s.modPoint p (Point.waitEntry b v a)).frontAt p b := by
  intro x hx hb
  rw [State.modPoint_point] at hx
  cases h : (s.point p).entry? b with
  | none =>
    rw [Point.waitEntry_of_none h] at hx
    exact absurd hb (Point.entry?_eq_none.1 h x hx)
  | some e =>
    rw [Point.waitEntry_of_entry h] at hx
    rcases List.mem_cons.1 ((queueBehind_perm _ _).mem_iff.1 hx) with rfl | hx
    · rfl
    · simp [hb] at hx

theorem State.waitPending_frontAt (p : PointId) (t : TagFields) (e : QueueEntry) (s : State) :
    (s.waitPending p t e).frontAt p e.visit.bus := by
  unfold State.waitPending
  split
  · exact State.waitEntry_frontAt
  · rw [State.waitClaimed_eq]
    simpa only [State.frontAt, State.announceStray, State.report_point, State.send_point] using State.waitEntry_frontAt

/-- A bus whose pending entry is at the exit: it waits, and then leaves (R95, R104, R124). -/
theorem State.leavePending_keeps {s : State} {p : PointId} {t : TagFields} {e : QueueEntry} {leave : State → State}
    (he : (s.point p).entry? t.bus = some e) (hf : e.isFront = false)
    (hleave : ∀ u : State, u.frontAt p t.bus → u.Shrinks (leave u)) :
    s.Keeps (State.settle s ((leave (s.waitPending p t e)).countExit p t.bus)) := by
  obtain ⟨hmem, hb⟩ := Point.entry?_spec he
  exact (State.waitPending_keeps hmem hf).trans (((hleave _ (hb ▸ State.waitPending_frontAt p t e s)).trans
    (State.countExit_shrinks p _ _)).trans (State.settle_shrinks s _)).keeps

theorem State.fuelExitRead_keeps (p : PointId) (t : TagFields) (s : State) : s.Keeps (s.fuelExitRead p t) := by
  unfold State.fuelExitRead
  dsimp only
  split
  · exact (State.countExit_shrinks p _ s).keeps
  next e h =>
  split
  · exact (State.driveOff_shrinks p s).keeps
  · next hst =>
    exact ((State.leaveUnfuelled_shrinks (fun hd => State.frontAt_of_entry hd h (by simp [QueueEntry.isFront, hst]))).trans
      (State.countExit_shrinks p _ _)).keeps
  · exact (State.countExit_shrinks p _ s).keeps
  all_goals
    next hst =>
    exact State.leavePending_keeps (leave := State.leaveUnfuelled p t.bus) h (by simp [QueueEntry.isFront, hst])
      (fun u hu => State.leaveUnfuelled_shrinks (fun _ => hu))

theorem State.washExitRead_keeps (p : PointId) (t : TagFields) (s : State) : s.Keeps (s.washExitRead p t) := by
  unfold State.washExitRead
  dsimp only
  split
  · exact (State.countExit_shrinks p _ s).keeps
  next e h =>
  split
  · exact (State.Shrinks.modPoint_same rfl).keeps
  · next hst =>
    exact ((State.leaveUnwashed_shrinks (fun hd => State.frontAt_of_entry hd h (by simp [QueueEntry.isFront, hst]))).trans
      (State.countExit_shrinks p _ _)).keeps
  · exact (State.countExit_shrinks p _ s).keeps
  all_goals
    next hst =>
    exact State.leavePending_keeps (leave := State.leaveArrived p t.bus) h (by simp [QueueEntry.isFront, hst])
      (fun u hu => State.leaveArrived_shrinks (fun _ => hu))

theorem State.pointExitRead_keeps (p : PointId) (t : TagFields) (s : State) : s.Keeps (s.pointExitRead p t) := by
  unfold State.pointExitRead
  split
  · exact State.fuelExitRead_keeps p t s
  · exact State.washExitRead_keeps p t s
  · exact .refl s

theorem State.pointCleared_shrinks (p : PointId) (s : State) : s.Shrinks (s.pointCleared p) := by
  unfold State.pointCleared
  dsimp only
  repeat' split
  · exact State.countLeft_shrinks p s
  · exact .modPoint_same rfl
  · exact .refl s

/-! ## Cycles and faults of a washing lane (R121 to R127) -/

theorem State.finishWash_shrinks (p : PointId) (st : PointState) (o : VisitRecord → WashOutcome) (s : State) :
    s.Shrinks (s.finishWash p st o) := by
  unfold State.finishWash
  split
  · exact .modPoint_same rfl
  next e h =>
  obtain ⟨hmem, -, hf⟩ := Point.serving?_spec h
  refine State.Shrinks.trans ?_ (State.askJoin_shrinks p _ _)
  exact .modEntry (b := e.visit.bus) (g := fun x =>
      { x with
        state := .finished, justServed := decide (st = .clearing)
        visit := { x.visit with washOutcome := some (o x.visit), next := .berth } })
    rfl (fun hd x hx hb => QueueEntry.slot_of_front rfl (State.queue_entry_unique hd hx hmem hb ▸ hf) rfl)

theorem State.washDone_shrinks (p : PointId) (s : State) : s.Shrinks (s.washDone p) := by
  have ended : ∀ (t : State) (o : VisitRecord → WashOutcome), s.Shrinks t →
      s.Shrinks (State.clearingTest p (if (s.point p).state = .busy then t.finishWash p .clearing o else t)) := by
    intro t o ht
    refine State.Shrinks.trans ?_ (State.clearingTest_shrinks p _)
    split
    · exact ht.trans (State.finishWash_shrinks p _ _ t)
    · exact ht
  unfold State.washDone
  dsimp only
  split
  · exact .refl s
  · refine ended _ _ (.modPoint_same ?_)
    split
    · unfold Point.advanceStencil
      split <;> rfl
    · rfl

theorem State.dropPending_shrinks (p : PointId) (tag : Option Tag) (b : Nat) (s : State) :
    s.Shrinks ((s.freeTag tag).modPoint p (Point.dropEntry b)) :=
  (State.freeTag_shrinks tag s).trans (.modPoint (List.length_filter_le _ _) (fun _ => Point.queue_filter_slots _ _))

theorem State.faultEntry_shrinks (p : PointId) (s : State) (e : QueueEntry) : s.Shrinks (State.faultEntry p s e) := by
  unfold State.faultEntry
  split
  · exact State.passOn_shrinks p _ s
  · exact (State.dropPending_shrinks p e.tag e.visit.bus s).trans (State.report_shrinks _ _)
  · exact State.dropPending_shrinks p e.tag e.visit.bus s
  · exact .refl s
  · exact .refl s

theorem State.emptyQueue_shrinks (p : PointId) (s : State) : s.Shrinks (s.emptyQueue p) :=
  .foldl (State.faultEntry_shrinks p) _ s

theorem State.washFault_shrinks (p : PointId) (cause : WashFaultCause) (s : State) : s.Shrinks (s.washFault p cause) := by
  unfold State.washFault
  dsimp only
  split
  · exact .refl s
  · refine State.Shrinks.trans (State.Shrinks.trans ?_ (State.report_shrinks _ _)) (State.emptyQueue_shrinks p _)
    refine State.Shrinks.thenPoint (State.Shrinks.trans ?_ (State.finishWash_shrinks p .fault _ _)) rfl
    exact .modPoint_same rfl

theorem State.doneTimeout_shrinks (p : PointId) (s : State) : s.Shrinks (s.doneTimeout p) := by
  unfold State.doneTimeout
  repeat' split
  · exact State.washFault_shrinks p _ s
  all_goals exact .refl s

/-! ## A minute event at a point -/

theorem State.expireRecords_shrinks (p : PointId) (q : QueueEntry → Bool) (s : State) : s.Shrinks (s.expireRecords p q) := by
  refine .modPoint (by simp) (fun _ => (List.Perm.of_eq ?_).subperm)
  simp only [List.map_map]
  refine List.map_congr_left (fun e _ => ?_)
  simp only [Function.comp_apply]
  split <;> rfl

theorem State.pointMinute_shrinks (p : PointId) (completes : Bool) (s : State) : s.Shrinks (s.pointMinute p completes) := by
  have measured : s.Shrinks (if completes then (s.measureFlow p).flowFault p else s) := by
    split
    · exact (State.measureFlow_shrinks p s).trans (State.flowFault_shrinks p _)
    · exact .refl s
  unfold State.pointMinute
  split
  · exact .refl s
  · exact (((((measured.trans (State.nozzleTimeout_shrinks p _)).trans (State.expireQueue_shrinks p _ _)).trans
      (State.expireRecords_shrinks p _ _)).trans (State.retryJoins_shrinks p _))).trans (State.beginInterval_shrinks p _)
  · exact (((State.doneTimeout_shrinks p s).trans (State.expireQueue_shrinks p _ _)).trans
      (State.expireRecords_shrinks p _ _)).trans (State.retryJoins_shrinks p _)

end Sys2Proof.Machine

namespace Sys2Proof.Machine

open Sys2Proof

@[simp] theorem State.report_lanes (b : ReportBody) (s : State) : (s.report b).lanes = s.lanes := by
  rw [State.report_eq]

/-! ## Calls and swap requests at a minute event (R131, R140, R141) -/

theorem State.setAsk_shrinks (n b : Nat) (a : AskState) (s : State) : s.Shrinks (s.setAsk n b a) :=
  .modEntries (g := fun e => if e.visit.bus = b then { e with ask := a } else e) (fun _ => rfl)
    (fun e => by split <;> rfl)

theorem State.blockRun_shrinks (n : Nat) (e : LaneEntry) (cause : BlockedCause) (s : State) : s.Shrinks (s.blockRun n e cause) :=
  (State.report_shrinks _ s).trans (State.setAsk_shrinks n _ _ _)

/-- A join of what the node does not hold yet. -/
theorem State.join_keeps {c : Cargo} {g : Option GuidePlace} {s : State} (h : s.entriesDistinct → s.occurs c.spot = 0) :
    s.Keeps (s.join c g) := by
  cases hf : s.outboundFull with
  | true => rw [State.join_of_full hf]; exact .refl s
  | false =>
    rw [State.join_of_room hf]
    refine State.Keeps.trans ⟨fun hc => ?_, fun hd => ?_⟩ (State.offerTest_shrinks _).keeps
    · rw [State.withinCapacity_iff] at hc ⊢
      intro x
      have hx := hc x
      rw [State.joined_load]
      split
      · next hout =>
        subst hout
        simpa [State.outboundFull, State.load, Store.capacity] using hf
      · exact hx
    · have h0 := h hd
      rw [State.entriesDistinct_iff] at hd ⊢
      intro x
      have hx := hd x
      rw [State.joined_occurs]
      split
      · next hs => rw [hs, h0]
      · exact hx

theorem State.occurs_swap_of_item? {s : State} {r : Nat} (h : s.item? (.swapRun r) = none) : s.occurs (.swap r) = 0 := by
  simpa [State.occurs, State.keys, List.count_eq_zero, State.item?] using h

theorem State.askSwap_keeps (n : Nat) (e : LaneEntry) (ahead : List LaneEntry) (s : State) : s.Keeps (s.askSwap n e ahead) := by
  unfold State.askSwap
  split
  · exact .refl s
  · next h =>
    simp only [Bool.or_eq_true, not_or, Bool.not_eq_true, Option.isSome_eq_false_iff, Option.isNone_iff_eq_none] at h
    refine (State.setAsk_shrinks n _ _ s).keeps.trans (State.join_keeps (fun _ => ?_))
    exact State.occurs_swap_of_item? (r := e.visit.duty.run) h.2

/-- Every entry of a bus in a lane stands for its record. -/
def State.frontIn (s : State) (n b : Nat) : Prop := ∀ x ∈ entriesAt s.lanes n, x.visit.bus = b → x.isFront = true

theorem State.dealDue_cases (n b : Nat) (s : State) :
    State.dealDue n s b = s ∨
    (∃ e, e.visit.bus = b ∧ State.dealDue n s b = s.callEntry n e) ∨
    (∃ e, State.dealDue n s b = s.blockRun n e .pinned) ∨
    ∃ e ahead, State.dealDue n s b = s.askSwap n e ahead := by
  unfold State.dealDue
  split
  · next e h =>
    obtain ⟨l, -, hl⟩ := Option.map_eq_some_iff.1 h
    split
    · exact .inl rfl
    · exact .inr (.inl ⟨e, by simpa using List.find?_some (congrArg Prod.snd hl), rfl⟩)
  · next ahead e _ h =>
    split
    · exact .inl rfl
    split
    · exact .inr (.inr (.inl ⟨e, rfl⟩))
    · exact .inr (.inr (.inr ⟨e, ahead, rfl⟩))
  · exact .inl rfl

/-- A lane whose entries are changed in their places, each kept in its bus and none moved out of the front part. -/
theorem State.frontIn_of_map {s : State} {n k b : Nat} {g : LaneEntry → LaneEntry} (h : s.frontIn n b)
    (hg : ∀ x, (g x).visit.bus = x.visit.bus ∧ (x.isFront = true → (g x).isFront = true)) :
    (s.modLane k (fun l => { l with entries := l.entries.map g })).frontIn n b := by
  intro x hx hb
  cases hl : s.lanes[k]? with
  | none =>
    have : entriesAt (s.modLane k (fun l => { l with entries := l.entries.map g })).lanes n = entriesAt s.lanes n := by
      by_cases hn : n = k
      · subst hn; simp [entriesAt, State.modLane, hl]
      · simp [entriesAt, State.modLane, Ne.symm hn]
    exact h x (this ▸ hx) hb
  | some l =>
    simp only [State.modLane, State.setLanes_lanes, entriesAt_modify _ _ _ _ hl] at hx
    split at hx
    · next hn =>
      subst hn
      obtain ⟨y, hy, rfl⟩ := List.mem_map.1 hx
      exact (hg y).2 (h y (by rwa [entriesAt_of_getElem? hl]) ((hg y).1.symm.trans hb))
    · exact h x hx hb

theorem State.frontIn_of_lanes {s t : State} {n b : Nat} (hl : t.lanes = s.lanes) (h : s.frontIn n b) : t.frontIn n b :=
  fun x hx => h x (hl ▸ hx)

/-- An entry taken by R131 leaves the front part of its lane as it is. -/
theorem State.dealDue_frontIn {s : State} {n b c : Nat} (h : s.frontIn n c) : (State.dealDue n s b).frontIn n c := by
  have asked : ∀ (t : State) e a, t.frontIn n c → (t.setAsk n e a).frontIn n c := fun t e a ht =>
    State.frontIn_of_map ht (fun x => by split <;> exact ⟨rfl, id⟩)
  rcases State.dealDue_cases n b s with e | ⟨e, -, eq⟩ | ⟨e, eq⟩ | ⟨e, ahead, eq⟩ <;> rw [‹State.dealDue n s b = _›]
  · exact h
  · refine State.frontIn_of_lanes (State.lanes_of_offers (t := s.callEntry n e) (by simp [State.callEntry]; rfl)) ?_
    refine State.frontIn_of_map h (fun x => ?_)
    split
    · exact ⟨rfl, fun _ => rfl⟩
    · exact ⟨rfl, id⟩
  · exact asked _ _ _ (State.frontIn_of_lanes (State.report_lanes _ s) h)
  · unfold State.askSwap
    split
    · exact h
    · exact State.frontIn_of_lanes (State.lanes_of_offers (State.join_sansOffers _ _ _)) (asked s _ _ h)

theorem State.dealDue_capacity {s : State} {n b : Nat} (h : s.withinCapacity) : (State.dealDue n s b).withinCapacity := by
  rcases State.dealDue_cases n b s with e | ⟨e, -, eq⟩ | ⟨e, eq⟩ | ⟨e, ahead, eq⟩ <;> rw [‹State.dealDue n s b = _›]
  · exact h
  · exact State.callEntry_capacity n e s h
  · exact (State.blockRun_shrinks n e _ s).keeps.capacity h
  · exact (State.askSwap_keeps n e ahead s).capacity h

theorem State.dealDue_distinct {s : State} {n b : Nat} (h : s.entriesDistinct) (hf : s.frontIn n b) :
    (State.dealDue n s b).entriesDistinct := by
  rcases State.dealDue_cases n b s with e | ⟨e, hb, eq⟩ | ⟨e, eq⟩ | ⟨e, ahead, eq⟩ <;> rw [‹State.dealDue n s b = _›]
  · exact h
  · exact (State.callEntry_shrinks (fun _ l hl x hx hxb => hf x (by rwa [entriesAt_of_getElem? hl])
      (hxb.trans hb))).keeps.distinct h
  · exact (State.blockRun_shrinks n e _ s).keeps.distinct h
  · exact (State.askSwap_keeps n e ahead s).distinct h

theorem State.foldl_dealDue_distinct (n : Nat) (l : List Nat) : ∀ {s : State}, s.entriesDistinct → (∀ b ∈ l, s.frontIn n b) →
    (l.foldl (State.dealDue n) s).entriesDistinct := by
  induction l with
  | nil => exact fun h _ => h
  | cons b l ih =>
    exact fun h hf => ih (State.dealDue_distinct h (hf b (by simp)))
      (fun c hc => State.dealDue_frontIn (hf c (List.mem_cons_of_mem b hc)))

/-- The buses R131 takes stand in the front part of the lane. -/
theorem mem_takenBuses {lead m : Nat} {l : List LaneEntry} {b : Nat} (h : b ∈ takenBuses lead m l) :
    ∃ e ∈ l, e.visit.bus = b ∧ e.isFront = true := by
  cases l with
  | nil => simp [takenBuses] at h
  | cons x xs =>
    rcases List.mem_append.1 h with h | h
    · split at h
      · next hd =>
        rw [List.mem_singleton] at h
        exact ⟨x, by simp, h.symm, LaneEntry.isFront_of_isDue (Bool.and_elim_left hd)⟩
      · simp at h
    · obtain ⟨e, he, rfl⟩ := List.mem_map.1 h
      obtain ⟨hm, hd⟩ := List.mem_filter.1 he
      exact ⟨e, List.mem_cons_of_mem x hm, rfl, LaneEntry.isFront_of_isDue (Bool.and_elim_left hd)⟩

theorem State.callLane_keeps (s : State) (n : Nat) : s.Keeps (s.callLane n) := by
  unfold State.callLane
  split
  · exact .refl s
  next l hl =>
  split
  · exact .refl s
  · refine ⟨foldl_capacity _ (fun t b => State.dealDue_capacity) _ s, fun hd => State.foldl_dealDue_distinct n _ hd ?_⟩
    intro b hb x hx hxb
    obtain ⟨e, he, heb, hf⟩ := mem_takenBuses hb
    rw [entriesAt_of_getElem? hl] at hx
    exact State.lane_entry_unique hd hl hx he (hxb.trans heb.symm) ▸ hf

/-- A fold of steps each of which keeps the two invariants. -/
theorem State.Keeps.foldl {α : Type} {f : State → α → State} (hf : ∀ (t : State) (x : α), t.Keeps (f t x)) (l : List α) :
    ∀ s : State, s.Keeps (l.foldl f s) := by
  induction l with
  | nil => exact State.Keeps.refl
  | cons x xs ih => exact fun s => (hf s x).trans (ih _)

theorem State.callTimes_keeps (s : State) : s.Keeps s.callTimes := .foldl State.callLane_keeps _ s

/-! ## Late runs, take marks and the asking bus (R139, R146 to R149) -/

theorem State.reportLate_shrinks (s : State) (x : Standing) : s.Shrinks (s.reportLate x) := by
  unfold State.reportLate
  split
  · exact .refl s
  · exact State.Shrinks.trans .of_lists (State.report_shrinks _ _)

theorem State.lateTest_shrinks (q : Standing → Bool) (s : State) : s.Shrinks (s.lateTest q) :=
  .foldl State.reportLate_shrinks _ s

theorem State.lateCalled_shrinks (s : State) : s.Shrinks s.lateCalled := .foldl State.reportLate_shrinks _ s

theorem State.clearMark_shrinks (tag : Tag) (s : State) : s.Shrinks (s.clearMark tag) := by
  unfold State.clearMark
  split
  · exact .refl s
  · exact State.modLaneBus_shrinks (f := fun x => { x with mark := none }) (fun _ => rfl) s

theorem State.bindTaken_shrinks (b : Nat) (k : TakeMark) (s : State) : s.Shrinks (s.bindTaken b k) := by
  have h : s.Shrinks (s.modLaneBus b (fun x => { x with mark := none })) :=
    State.modLaneBus_shrinks (f := fun x => { x with mark := none }) (fun _ => rfl) s
  unfold State.bindTaken
  dsimp only
  split
  · exact h
  · exact (h.trans (State.bindBus_shrinks _ _ _ _ _ _)).trans
      (State.modLaneBus_shrinks (f := fun x => { x with ask := .none }) (fun _ => rfl) _)

theorem State.bindMark_shrinks (tag : Tag) (s : State) : s.Shrinks (s.bindMark tag) := by
  unfold State.bindMark
  repeat' split
  · exact .refl s
  · exact .refl s
  · exact State.bindTaken_shrinks _ _ s

theorem State.rebindAsker_shrinks (run : Nat) (h : HeadFields) (s : State) : s.Shrinks (s.rebindAsker run h) := by
  unfold State.rebindAsker
  split
  · exact .refl s
  next e _ =>
  refine State.Shrinks.trans ?_ (State.modLaneBus_shrinks (f := fun x =>
    { x with ask := .none, visit := { x.visit with duty := { x.visit.duty with substituted := true } } }) (fun _ => rfl) _)
  split
  · exact State.bindBus_shrinks _ _ _ _ _ s
  · exact State.unbindBus_shrinks _ s

theorem State.refuseSwap_shrinks (run : Nat) (s : State) : s.Shrinks (s.refuseSwap run) := by
  unfold State.refuseSwap
  split
  · exact .refl s
  · exact State.blockRun_shrinks _ _ _ s

theorem State.pullOutMinute_keeps (s : State) : s.Keeps s.pullOutMinute :=
  (State.callTimes_keeps s).trans (State.lateTest_shrinks _ _).keeps

end Sys2Proof.Machine

namespace Sys2Proof.Machine

open Sys2Proof

/-! ## The holder's offer (R25 to R29) -/

theorem State.showTaker_shrinks (it : OutItem) (t : HeardTake) (s : State) : s.Shrinks (s.showTaker it t) := by
  unfold State.showTaker
  split
  · exact State.setGuide_shrinks _ _ _ s
  · exact .refl s

theorem State.commit_shrinks (o : OpenOffer) (t : HeardTake) (s : State) : s.Shrinks (s.commit o t) := by
  unfold State.commit
  split
  · exact State.setOffer_shrinks _ s
  next it _ =>
  refine State.Shrinks.trans ?_ (State.offerTest_shrinks _)
  have shown := (((State.removeItem_shrinks o.key s).trans (State.setOffer_shrinks none _)).trans
    (State.dropFrames_shrinks FrameBody.isOffer _)).trans (State.showTaker_shrinks it t _)
  split
  · exact shown.trans (State.rebindAsker_shrinks _ _ _)
  · exact shown

@[simp] theorem skipStage_bus (r : VisitRecord) : (skipStage r).bus = r.bus := by
  unfold skipStage
  split <;> rfl

theorem State.skipItem_shrinks {k : ItemKey} {r : VisitRecord} (hk : k = .bus r.bus) (s : State) : s.Shrinks (s.skipItem k r) :=
  .modItem (fun i _ _ => by simp [OutItem.key_eq, Cargo.key, hk])

theorem State.strandItem_shrinks (it : OutItem) (r : VisitRecord) (s : State) : s.Shrinks (s.strandItem it r) := by
  have waits : s.Shrinks ((s.report (.stranded r.bus r.cls r.duty.departure)).modItem it.key (fun i =>
      { i with ready := s.clock.m + s.image.strandedRetry, joinOrder := s.hand.joins, offerCount := 0, lastNumber := 0 })) :=
    (State.report_shrinks _ s).trans (.modItem (fun _ _ h => h))
  have counted := fun t : State => (State.Shrinks.of_lists : t.Shrinks t.countJoin)
  unfold State.strandItem
  dsimp only
  split
  · exact (waits.trans (counted _)).trans (State.setGuide_shrinks _ _ _ _)
  · exact waits.trans (counted _)

theorem State.item?_spec {s : State} {k : ItemKey} {it : OutItem} (h : s.item? k = some it) :
    it ∈ s.hand.outbound ∧ it.key = k := ⟨List.mem_of_find?_eq_some h, by simpa using List.find?_some h⟩

theorem State.secondExpiry_shrinks (o : OpenOffer) (s : State) : s.Shrinks (s.secondExpiry o) := by
  unfold State.secondExpiry
  split
  · exact State.setOffer_shrinks _ s
  next it hit =>
  have closed := State.setOffer_shrinks none s
  refine State.Shrinks.trans ?_ (State.offerTest_shrinks _)
  split
  · exact (closed.trans (State.removeItem_shrinks _ _)).trans (State.refuseSwap_shrinks _ _)
  next r hr =>
  have hk : o.key = .bus r.bus := by rw [← (State.item?_spec hit).2, OutItem.key_eq, hr]; rfl
  split
  · exact closed.trans (State.skipItem_shrinks hk _)
  · exact closed.trans (State.skipItem_shrinks hk _)
  · exact closed.trans (State.strandItem_shrinks _ _ _)

theorem State.offerWindowEnd_shrinks (s : State) : s.Shrinks s.offerWindowEnd := by
  unfold State.offerWindowEnd
  repeat' split
  · exact State.setOffer_shrinks _ s
  all_goals exact .refl s

theorem State.takeWaitEnd_shrinks (s : State) : s.Shrinks s.takeWaitEnd := by
  unfold State.takeWaitEnd
  split
  · exact .refl s
  split
  · exact .refl s
  refine State.Shrinks.trans ?_ (State.settle_shrinks s _)
  repeat' split
  · exact State.commit_shrinks _ _ s
  · exact State.placeReoffer_shrinks _ s
  · exact State.secondExpiry_shrinks _ s

theorem State.ownOfferHeard_shrinks (number : Nat) (s : State) : s.Shrinks (s.ownOfferHeard number) := by
  unfold State.ownOfferHeard
  repeat' split
  · exact .refl s
  · exact (State.setOffer_shrinks _ s).trans (.modItem (fun _ _ h => h))
  · exact .refl s

theorem State.ownOfferDiscarded_shrinks (number : Nat) (s : State) : s.Shrinks (s.ownOfferDiscarded number) := by
  unfold State.ownOfferDiscarded
  repeat' split
  · exact .refl s
  · refine State.Shrinks.trans ?_ (State.offerTest_shrinks _)
    exact (State.setOffer_shrinks _ s).trans (.modItem (fun _ _ h => h))
  · exact State.placeReoffer_shrinks _ s
  · exact .refl s

/-! ## Hearing an OFFER (R24, R30, R31, R35) -/

/-- Entries of every lane and of both queues changed in their places, none in its bus or from or to the front part. -/
theorem State.Shrinks.allEntries {s : State} {g : LaneEntry → LaneEntry} {h : QueueEntry → QueueEntry}
    (hg : ∀ e, (g e).slot = e.slot) (hh : ∀ e, (h e).slot = e.slot) :
    s.Shrinks { s.setLanes (s.lanes.map (fun l => { l with entries := l.entries.map g })) with
      point0 := { s.point0 with queue := s.point0.queue.map h }, point1 := { s.point1 with queue := s.point1.queue.map h } } := by
  have hq : ∀ q : List QueueEntry, ((q.map h).map QueueEntry.slot).Subperm (q.map QueueEntry.slot) := by
    intro q
    rw [List.map_map]
    exact (List.Perm.of_eq (List.map_congr_left (fun e _ => hh e))).subperm
  exact (State.Shrinks.mapEntries hg).trans (.queues (f := fun v => { v with queue := v.queue.map h })
    (g := fun v => { v with queue := v.queue.map h }) (hq _) (hq _))

theorem State.clearTag_shrinks (tag : Tag) (s : State) : s.Shrinks (s.clearTag tag) :=
  .allEntries (g := fun e => if e.state = .expected ∧ e.tag = some tag then { e with tag := none } else e)
    (h := fun e => if e.state = .expected ∧ e.tag = some tag then { e with tag := none } else e)
    (fun e => by split <;> rfl) (fun e => by split <;> rfl)

theorem State.supersede_shrinks (h : Nat) (f : OfferFields) (s : State) : s.Shrinks (s.supersede h f) := by
  have old : s.Shrinks (if f.supersedes = 0 then s else
      (s.dropClaim { holder := h, number := f.supersedes }).clearMark { holder := h, number := f.supersedes }) := by
    split
    · exact .refl s
    · exact (State.dropClaim_shrinks _ s).trans (State.clearMark_shrinks _ _)
  have ends := fun t : State => ((State.clearTag_shrinks { holder := h, number := f.number } t).trans
    (State.clearMark_shrinks { holder := h, number := f.number } _)).trans (State.settle_shrinks s _)
  unfold State.supersede
  dsimp only
  split
  · exact (old.trans (.foldl (fun t tag => State.dropClaim_shrinks tag t) _ _)).trans (ends _)
  · exact old.trans (ends _)

/-! ### The bid -/

/-- A bid may join the list (R30): its tag is new among fewer than 4 bids. -/
structure State.BidFits (s : State) (b : BidEntry) : Prop where
  room : s.hand.bids.length < Config.bidCapacity
  tag : ∀ e ∈ s.hand.bids, e.tag ≠ b.tag

/-- The entry of a bid may join its lane or queue (R30, R50, R90, R117): its bus stands there in no entry, and there is
room. -/
structure State.EntryFits (s : State) (b : BidEntry) : Prop where
  lane : ∀ r n, b.copy = some r → b.resource = .lane n → (entriesAt s.lanes n).length < Config.laneCapacity ∧
    ∀ e ∈ entriesAt s.lanes n, e.visit.bus ≠ r.bus
  queue : ∀ r p, b.copy = some r → b.resource = .point p → (s.point p).queue.length < Config.queueCapacity ∧
    ∀ e ∈ (s.point p).queue, e.visit.bus ≠ r.bus

theorem State.addBid_keeps {s : State} {b : BidEntry} (h : s.BidFits b) :
    s.Keeps { s with hand := { s.hand with bids := s.hand.bids ++ [b] } } := by
  refine ⟨fun hc => ?_, fun hd => ?_⟩
  · rw [State.withinCapacity_iff] at hc ⊢
    intro x
    have hx := hc x
    cases x with
    | bids => simpa [State.load, Store.capacity] using h.room
    | _ => exact hx
  · rw [State.entriesDistinct_iff] at hd ⊢
    intro x
    have hx := hd x
    cases x with
    | tag t =>
      by_cases ht : t = b.tag
      · subst ht
        have h0 : (s.hand.bids.map (fun e => e.tag)).count b.tag = 0 := by simpa [List.count_eq_zero] using h.tag
        simp [State.occurs, h0]
      · have : [b.tag].count t = 0 := by simp [List.count_eq_zero, ht]
        simpa [State.occurs, this] using hx
    | _ => exact hx

theorem State.placeTentative_keeps {s : State} {b : BidEntry} (h : s.EntryFits b) : s.Keeps (s.placeTentative b) := by
  unfold State.placeTentative
  split
  · next r n hr hn =>
    obtain ⟨hroom, hnew⟩ := h.lane r n hr hn
    cases hl : s.lanes[n]? with
    | none =>
      exact (State.Shrinks.modLane (fun l h => by simp [hl] at h) (fun _ l h => by simp [hl] at h)).keeps
    | some l =>
      rw [entriesAt_of_getElem? hl] at hroom hnew
      refine ⟨fun hc => State.capacity_of_enterLane hc (fun k hk => ?_), fun hd => State.distinct_of_enterLane hd hl
        List.perm_append_comm (.refl _) hnew (fun hf => absurd hf (by simp [LaneEntry.isFront]))⟩
      obtain rfl : l = k := by simpa [hl] using hk
      simpa using hroom
  · next r p hr hp =>
    obtain ⟨hroom, hnew⟩ := h.queue r p hr hp
    exact ⟨fun hc => State.capacity_of_enterQueue hc (by simpa using hroom), fun hd => State.distinct_of_enterQueue hd
      List.perm_append_comm (.refl _) hnew (fun hf => absurd hf (by simp [QueueEntry.isFront]))⟩
  · exact .refl s

theorem State.makeBid_keeps {s : State} {b : BidEntry} (h : s.BidFits b) (he : s.EntryFits b) : s.Keeps (s.makeBid b) := by
  unfold State.makeBid
  split
  · exact ((State.addBid_keeps h).trans (State.placeTentative_keeps ⟨he.lane, he.queue⟩)).trans (State.send_shrinks _ _).keeps
  · exact .refl s

/-- The lane of a berth bid has room for an entry (R50, R52). -/
theorem State.berthBid_room {s : State} {r : VisitRecord} {b : Nat × Nat} (h : s.berthBid r = some b) :
    (entriesAt s.lanes b.1).length < Config.laneCapacity := by
  have priced : ∀ n c, s.berthPrice r n = some c → (entriesAt s.lanes n).length < Config.laneCapacity := by
    intro n c hp
    unfold State.berthPrice at hp
    split at hp
    · simp at hp
    next l hl =>
    dsimp only at hp
    split at hp
    · next hfit =>
      rw [entriesAt_of_getElem? hl]
      exact of_decide_eq_true (Bool.and_elim_left hfit.2.2)
    · simp at hp
  unfold State.berthBid at h
  obtain ⟨best, hbest, rfl⟩ := Option.map_eq_some_iff.1 h
  refine List.foldlRecOn (motive := fun acc => ∀ x, acc = some x → (entriesAt s.lanes x.1).length < Config.laneCapacity)
    _ _ (by simp) (fun acc hacc n _ x hx => ?_) best hbest
  split at hx
  · exact hacc x hx
  next cost free hp =>
  unfold betterLane at hx
  repeat' split at hx
  all_goals obtain rfl := Option.some.inj hx
  · exact priced n _ hp
  · exact priced n _ hp
  · exact hacc _ rfl

/-- The point of a fuel bid has room for an entry (R90). -/
theorem State.fuelBid_room {s : State} {p : PointId} {r : VisitRecord} {v : Nat} (h : s.fuelBid p r = some v) :
    (s.point p).queue.length < Config.queueCapacity := by
  by_contra hc
  simp [State.fuelBid, Nat.not_lt.1 hc] at h

/-- The point of a wash bid has room for an entry (R117). -/
theorem State.washBid_room {s : State} {p : PointId} {r : VisitRecord} {v : Nat} (h : s.washBid p r = some v) :
    (s.point p).queue.length < Config.queueCapacity := by
  by_contra hc
  simp [State.washBid, Nat.not_lt.1 hc] at h

theorem bestPoint_spec {a b : Option Nat} {x : PointId × Nat} (h : bestPoint a b = some x) :
    (x.1 = .p0 ∧ a = some x.2) ∨ (x.1 = .p1 ∧ b = some x.2) := by
  unfold bestPoint at h
  repeat' split at h
  all_goals simp_all
  all_goals obtain rfl := h; simp

/-- What the node decides to bid is the offered bus at a resource that has room, under the tag of the offer (R30). -/
theorem State.decideBid_spec {s : State} {h : Nat} {f : OfferFields} {b : BidEntry} (hb : s.decideBid h f = some b) :
    b.tag = { holder := h, number := f.number } ∧ (∀ x, b.copy = some x → ∃ r, f.cargo = .visit r ∧ x.bus = r.bus) ∧
      (b.copy.isSome → ∀ n, b.resource = .lane n → (entriesAt s.lanes n).length < Config.laneCapacity) ∧
      (b.copy.isSome → ∀ p, b.resource = .point p → (s.point p).queue.length < Config.queueCapacity) := by
  unfold State.decideBid at hb
  dsimp only at hb
  split at hb
  · split at hb
    · simp at hb
    · obtain ⟨x, -, rfl⟩ := Option.map_eq_some_iff.1 hb
      simp
  next r hr =>
  split at hb
  · obtain ⟨x, hx, rfl⟩ := Option.map_eq_some_iff.1 hb
    refine ⟨rfl, fun y hy => ⟨r, hr, by cases hy; rfl⟩, by simp, fun _ p hp => ?_⟩
    obtain rfl : x.1 = p := by simpa using hp
    rcases bestPoint_spec hx with ⟨e, hv⟩ | ⟨e, hv⟩ <;> rw [e] <;> exact State.fuelBid_room hv
  · obtain ⟨x, hx, rfl⟩ := Option.map_eq_some_iff.1 hb
    refine ⟨rfl, fun y hy => ⟨r, hr, by cases hy; rfl⟩, by simp, fun _ p hp => ?_⟩
    obtain rfl : x.1 = p := by simpa using hp
    rcases bestPoint_spec hx with ⟨e, hv⟩ | ⟨e, hv⟩ <;> rw [e] <;> exact State.washBid_room hv
  · obtain ⟨x, hx, rfl⟩ := Option.map_eq_some_iff.1 hb
    refine ⟨rfl, fun y hy => ⟨r, hr, by cases hy; rfl⟩, fun _ n hn => ?_, by simp⟩
    obtain rfl : x.1 = n := by simpa using hn
    exact State.berthBid_room hx

theorem State.mayBid_spec {s : State} {h : Nat} {f : OfferFields} (hm : s.mayBid h f = true) :
    s.inService = true ∧ s.hand.bids.length < Config.bidCapacity ∧
      (∀ e ∈ s.hand.bids, e.tag ≠ { holder := h, number := f.number }) ∧
      ∀ r, f.cargo = .visit r → s.holdsEntry r.bus = false ∧
        ∀ e ∈ s.hand.bids, e.stage ≠ .swap → e.bus ≠ r.bus := by
  simp only [State.mayBid, Bool.and_eq_true, decide_eq_true_eq, Bool.not_eq_true', List.any_eq_false] at hm
  obtain ⟨⟨⟨hs, hl⟩, ht⟩, hv⟩ := hm
  refine ⟨hs, hl, ht, fun r hr => ?_⟩
  simp only [hr, Bool.and_eq_true, Bool.not_eq_true', List.any_eq_false, decide_eq_true_eq, not_and] at hv
  exact hv

theorem State.holdsEntry_eq_false {s : State} {b : Nat} (h : s.holdsEntry b = false) :
    (∀ n, ∀ e ∈ entriesAt s.lanes n, e.visit.bus ≠ b) ∧ ∀ p, ∀ e ∈ (s.point p).queue, e.visit.bus ≠ b := by
  simp only [State.holdsEntry, Bool.or_eq_false_iff, List.any_eq_false, decide_eq_true_eq] at h
  obtain ⟨⟨hl, h0⟩, h1⟩ := h
  refine ⟨fun n e he => ?_, fun p => by cases p; exacts [h0, h1]⟩
  obtain ⟨l, hn, hel⟩ := mem_entriesAt.1 he
  exact hl e (List.mem_flatMap.2 ⟨l, List.mem_of_getElem? hn, hel⟩)

theorem State.offerHeard_keeps (h : Nat) (f : OfferFields) (s : State) : s.Keeps (s.offerHeard h f) := by
  have hs := (State.supersede_shrinks h f s).keeps
  unfold State.offerHeard
  dsimp only
  split
  · next hm =>
    split
    · next b hb =>
      obtain ⟨htag, hcopy, hlane, hqueue⟩ := State.decideBid_spec hb
      obtain ⟨-, hroom, hnew, hbus⟩ := State.mayBid_spec hm
      refine hs.trans (State.makeBid_keeps ⟨hroom, fun e he => htag ▸ hnew e he⟩ ⟨fun x n hx hn => ?_, fun x p hx hp => ?_⟩)
      all_goals
        obtain ⟨r, hr, hxr⟩ := hcopy x hx
        obtain ⟨hno, hno'⟩ := State.holdsEntry_eq_false (hbus r hr).1
        rw [hxr]
      · exact ⟨hlane (by simp [hx]) n hn, hno n⟩
      · exact ⟨hqueue (by simp [hx]) p hp, hno' p⟩
    · exact hs
  · exact hs

/-! ## BIDs, TAKEs and the end of the bid window (R26, R27, R32 to R34, R146) -/

theorem State.bidHeard_shrinks (source : Nat) (f : BidFields) (s : State) : s.Shrinks (s.bidHeard source f) :=
  State.modBids_shrinks (fun b => by split <;> rfl) s

theorem State.ownBidHeard_shrinks (tag : Tag) (value : Nat) (s : State) : s.Shrinks (s.ownBidHeard tag value) :=
  State.modBids_shrinks (fun b => by split <;> rfl) s

theorem State.expectTag_shrinks (tag : Tag) (s : State) : s.Shrinks (s.expectTag tag) := by
  refine .allEntries (g := fun e => if e.state = .tentative ∧ e.tag = some tag then
      { e with state := .expected, deadline := some (s.clock.m + s.image.expectedTimeout) } else e)
    (h := fun e => if e.state = .tentative ∧ e.tag = some tag then
      { e with state := .expected, deadline := some (s.clock.m + s.image.expectedTimeout) } else e)
    (fun e => ?_) (fun e => ?_)
  · split
    · next h => simp [LaneEntry.slot, LaneEntry.isFront, h.1]
    · rfl
  · split
    · next h => simp [QueueEntry.slot, QueueEntry.isFront, h.1]
    · rfl

theorem State.makeTake_shrinks (e : BidEntry) (s : State) : s.Shrinks (s.makeTake e) := by
  unfold State.makeTake
  split
  · refine State.Shrinks.trans (State.Shrinks.trans ?_ (State.expectTag_shrinks _ _)) (State.send_shrinks _ _)
    exact State.modBids_shrinks (fun b => by split <;> rfl) s
  · exact State.dropBid_shrinks _ s

theorem State.bidWindowEnd_shrinks (tag : Tag) (s : State) : s.Shrinks (s.bidWindowEnd tag) := by
  unfold State.bidWindowEnd
  split
  · exact .refl s
  split
  · exact .refl s
  · exact (State.dropBid_shrinks tag s).trans (State.settle_shrinks s _)
  · refine State.Shrinks.trans ?_ (State.settle_shrinks s _)
    split
    · exact State.dropBid_shrinks tag s
    · exact State.makeTake_shrinks _ s

theorem State.holderTake_shrinks (source : Nat) (f : TakeFields) (s : State) : s.Shrinks (s.holderTake source f) := by
  unfold State.holderTake
  split
  · exact .refl s
  dsimp only
  repeat' split
  · exact .refl s
  · exact State.commit_shrinks _ _ s
  · exact State.setOffer_shrinks _ s

theorem State.takerTake_shrinks (source : Nat) (f : TakeFields) (s : State) : s.Shrinks (s.takerTake source f) := by
  unfold State.takerTake
  repeat' split
  · exact State.dropClaim_shrinks _ s
  all_goals exact .refl s

theorem State.markTake_shrinks (source : Nat) (f : TakeFields) (s : State) : s.Shrinks (s.markTake source f) := by
  unfold State.markTake
  repeat' split
  · exact State.clearMark_shrinks _ s
  all_goals exact .refl s

theorem State.takeHeard_shrinks (source : Nat) (f : TakeFields) (s : State) : s.Shrinks (s.takeHeard source f) :=
  (((State.holderTake_shrinks source f s).trans (State.takerTake_shrinks source f _)).trans
    (State.markTake_shrinks source f _)).trans (State.settle_shrinks s _)

theorem State.setMark_shrinks (e : BidEntry) (s : State) : s.Shrinks (s.setMark e) := by
  unfold State.setMark
  repeat' split
  · exact .refl s
  · exact State.modLaneBus_shrinks (fun x => by split <;> rfl) s
  · exact .refl s

theorem State.ownTakeHeard_shrinks (f : TakeFields) (s : State) : s.Shrinks (s.ownTakeHeard f) := by
  have ht := State.holderTake_shrinks s.loader.address f s
  unfold State.ownTakeHeard
  dsimp only
  split
  · exact ht.trans (State.settle_shrinks s _)
  · refine State.Shrinks.trans ?_ (State.settle_shrinks s _)
    have marked := fun e => (ht.trans (State.removeBid_shrinks f.tag _)).trans (State.setMark_shrinks e _)
    split
    · exact (marked _).trans (State.bindMark_shrinks _ _)
    · exact marked _

theorem State.takeMarkEnd_shrinks (tag : Tag) (s : State) : s.Shrinks (s.takeMarkEnd tag) := by
  refine State.Shrinks.trans ?_ ((State.bindMark_shrinks tag _).trans (State.settle_shrinks s _))
  exact State.modBids_shrinks (fun b => by split <;> rfl) s

/-! ## DUTY, RECORD and minute events (R12 to R16, R23, R36, R42) -/

theorem LaneEntry.pinned_slot (e : LaneEntry) : e.pinned.slot = e.slot := by
  unfold LaneEntry.pinned
  split <;> rfl

theorem State.onDuty_shrinks (source : Nat) (payload : List Byte) (s : State) : s.Shrinks (s.onDuty source payload) := by
  unfold State.onDuty
  split
  · exact .refl s
  split
  · exact .refl s
  split
  · exact .refl s
  split
  · exact (State.unbindBus_shrinks _ s).trans (State.settle_shrinks s _)
  · refine State.Shrinks.trans ?_ (State.settle_shrinks s _)
    split
    · exact (State.bindBus_shrinks _ _ _ _ _ s).trans (State.modLaneBus_shrinks LaneEntry.pinned_slot _)
    · exact State.bindBus_shrinks _ _ _ _ _ s

theorem State.unbindOthers_shrinks (b run : Nat) (s : State) : s.Shrinks (s.unbindOthers b run) := by
  unfold State.unbindOthers
  split
  · exact .refl s
  · exact State.mapVisits_shrinks (fun r => by split <;> rfl) s

theorem LaneEntry.takeRecord_slot (r : VisitRecord) (d : Duty) (e : LaneEntry) : (e.takeRecord r d).slot = e.slot := by
  unfold LaneEntry.takeRecord
  dsimp only
  split
  · rw [LaneEntry.pinned_slot]; rfl
  · rfl

theorem State.laneTakesRecord_shrinks (n : Nat) (r : VisitRecord) (d : Duty) (s : State) :
    s.Shrinks (s.laneTakesRecord n r d) := by
  refine State.Shrinks.trans ?_ (State.classTest_shrinks _ _ _ _)
  exact .modEntries (g := fun e => if e.visit.bus = r.bus then e.takeRecord r d else e) (fun _ => rfl)
    (fun e => by split <;> simp [LaneEntry.takeRecord_slot])

theorem State.queueTakesRecord_shrinks (p : PointId) (r : VisitRecord) (d : Duty) (s : State) :
    s.Shrinks (s.queueTakesRecord p r d) := by
  have taken : s.Shrinks (s.modPoint p (Point.modEntry r.bus (fun e =>
      { e with visit := e.visit.takeRecord r d, recordAwaited := none }))) := .modEntry rfl (fun _ _ _ _ => rfl)
  unfold State.queueTakesRecord
  dsimp only
  split
  · exact (taken.trans (State.askJoin_shrinks _ _ _)).trans (State.clearingTest_shrinks _ _)
  · exact taken

theorem State.onRecord_shrinks (r : VisitRecord) (s : State) : s.Shrinks (s.onRecord r) := by
  have freed : ∀ c : Bool, s.Shrinks (if c then s else s.unbindOthers r.bus r.duty.run) := by
    intro c
    split
    · exact .refl s
    · exact State.unbindOthers_shrinks _ _ s
  have done : ∀ t : State, t.Shrinks (State.settle s (State.dropChangedHeads s t)) :=
    fun t => (State.dropChangedHeads_shrinks s t).trans (State.settle_shrinks s _)
  unfold State.onRecord
  dsimp only
  split
  · exact ((freed _).trans (State.queueTakesRecord_shrinks _ _ _ _)).trans (done _)
  split
  · exact ((freed _).trans (State.queueTakesRecord_shrinks _ _ _ _)).trans (done _)
  split
  · exact ((freed _).trans (State.laneTakesRecord_shrinks _ _ _ _)).trans (done _)
  · exact .refl s

theorem State.expireLaneRecords_shrinks (q : LaneEntry → Bool) (s : State) : s.Shrinks (s.expireLaneRecords q) :=
  .mapEntries (fun e => by split <;> rfl)

theorem State.expireDutyWait_shrinks (q : VisitRecord → Bool) (s : State) : s.Shrinks (s.expireDutyWait q) :=
  State.mapVisits_shrinks (fun r => by split <;> rfl) s

theorem State.handoverMinute_shrinks (s : State) : s.Shrinks s.handoverMinute :=
  (State.expireDutyWait_shrinks _ s).trans (State.offerTest_shrinks _)

theorem State.lanesMinute_shrinks (s : State) : s.Shrinks s.lanesMinute :=
  ((State.expireLanes_shrinks _ s).trans (State.expireLaneRecords_shrinks _ _)).trans (State.settle_shrinks s _)

end Sys2Proof.Machine

namespace Sys2Proof.Machine

open Sys2Proof

/-! ## The yard clock (R2 to R9) -/

theorem State.slotBoundary_shrinks (k : Nat) (s : State) : s.Shrinks (s.slotBoundary k) :=
  State.Shrinks.trans (t := s.applyPlans k) .of_lists ((State.startTest_shrinks .p0 _).trans (State.startTest_shrinks .p1 _))

theorem State.ownerMinute_keeps (boundary : Option Nat) (completes : Bool) (s : State) (o : Owner) :
    s.Keeps (State.ownerMinute boundary completes s o) := by
  unfold State.ownerMinute
  split
  · split
    · exact (State.slotBoundary_shrinks _ s).keeps
    · exact .refl s
  · exact (State.handoverMinute_shrinks s).keeps
  · exact (State.pointMinute_shrinks _ completes s).keeps
  · exact (State.lanesMinute_shrinks s).keeps
  · exact State.pullOutMinute_keeps s

theorem State.raiseMinute_keeps (order : List Owner) (boundary : Option Nat) (completes : Bool) (s : State) :
    s.Keeps (s.raiseMinute order boundary completes) :=
  .foldl (State.ownerMinute_keeps boundary completes) _ s

/-- The outbound list with items changed that keep their names, in any order. -/
theorem State.Shrinks.outbound {s : State} {l : List OutItem} (h : (l.map OutItem.key).Perm s.keys) :
    s.Shrinks { s with hand := { s.hand with outbound := l } } :=
  .of_offers rfl h.subperm (le_max_left _ _)

theorem sortItems_map_keys {f : OutItem → OutItem} (hf : ∀ i, (f i).key = i.key) (l : List OutItem) :
    ((sortItems (l.map f)).map OutItem.key).Perm (l.map OutItem.key) := by
  refine ((sortItems_perm _).map OutItem.key).trans (.of_eq ?_)
  rw [List.map_map]
  exact List.map_congr_left (fun i _ => hf i)

theorem State.carryAll_shrinks (old : Nat) (s : State) : s.Shrinks (s.carryAll old) := by
  have entries := State.Shrinks.allEntries (s := s) (g := LaneEntry.carry old) (h := QueueEntry.carry old)
    (fun _ => rfl) (fun _ => rfl)
  exact (entries.trans (.outbound (l := carryItems old s.hand.outbound) (sortItems_map_keys (f := fun i =>
    { i with ready := carryMinute old i.ready }) (fun _ => rfl) _))).trans .of_lists

theorem State.unbindAll_shrinks (s : State) : s.Shrinks s.unbindAll := by
  have asks : ∀ t : State, t.Shrinks t.clearAsks := fun t =>
    .mapEntries (g := fun e => { e with ask := .none, mark := none }) (fun _ => rfl)
  have bids : ∀ t : State, t.Shrinks t.clearBindings := fun t => State.modBids_shrinks (fun b => by split <;> rfl) t
  have late : ∀ t : State, t.Shrinks t.clearLate := fun t => .of_lists
  exact ((((State.mapVisits_shrinks (f := VisitRecord.unbind) (fun _ => rfl) s).trans (asks _)).trans (bids _)).trans (late _)).trans
    (State.withdrawSwaps_shrinks _)

theorem State.rollover_shrinks (s : State) : s.Shrinks s.rollover := by
  unfold State.rollover
  refine State.Shrinks.trans ?_ (State.carryAll_shrinks _ _)
  exact ((State.lateCalled_shrinks s).trans (State.unbindAll_shrinks _)).trans .of_lists

theorem State.minuteEvent_keeps (order : List Owner) (s : State) : s.Keeps (s.minuteEvent order) := by
  unfold State.minuteEvent
  split
  · exact State.Keeps.trans (State.Shrinks.of_lists (t := { s with clock := { s.clock with m := s.clock.m + 1 } })).keeps
      (State.raiseMinute_keeps order _ true _)
  · exact (State.rollover_shrinks s).keeps.trans (State.raiseMinute_keeps order _ true _)

theorem State.reconvertAll_shrinks (s : State) : s.Shrinks s.reconvertAll :=
  (State.mapVisits_shrinks (f := fun r => { r with duty := r.duty.reconvert s.clock }) (fun _ => rfl) s).trans
    (.foldl (fun t (x : Nat × Nat × Nat) => State.reportAdjusted_shrinks x.1 x.2.1 x.2.2 t) _ _)

theorem State.acceptTime_keeps (f : TimeFields) (shift : Shift) (order : List Owner) (s : State) :
    s.Keeps (s.acceptTime f shift order) := by
  have set : s.Shrinks { s with clock := timeClock f shift, loader := { s.loader with node := .inService } } := .of_lists
  have begun : ∀ t : State, t.Shrinks ((t.beginInterval .p0).beginInterval .p1) := fun t =>
    (State.beginInterval_shrinks .p0 t).trans (State.beginInterval_shrinks .p1 _)
  have raised : ∀ (c : Bool) (b : Option Nat) (t : State), t.Keeps (if c then t.raiseMinute order b false else t) := by
    intro c b t
    split
    · exact State.raiseMinute_keeps order b false t
    · exact .refl t
  unfold State.acceptTime
  refine State.Keeps.trans (State.Shrinks.trans ?_ (begun _)).keeps (raised _ _ _)
  split
  · exact set
  · exact set.trans (State.reconvertAll_shrinks _)

theorem State.onTime_keeps (source : Nat) (payload : List Byte) (order : List Owner) (s : State) :
    s.Keeps (s.onTime source payload order) := by
  unfold State.onTime
  dsimp only
  split
  · exact .refl s
  split
  · exact .refl s
  · exact State.acceptTime_keeps _ _ _ s

/-! ## The Field Interface (R153 to R163, R194) -/

/-- A bus with no outbound item and no entry: the node holds no record of it. -/
theorem State.occurs_record_of_holdsEntry {s : State} {b : Nat} (hi : s.item? (.bus b) = none) (he : s.holdsEntry b = false) :
    s.occurs (.record b) = 0 := by
  obtain ⟨hlane, hqueue⟩ := State.holdsEntry_eq_false he
  have hkeys : s.keys.count (.bus b) = 0 := by simpa [State.keys, List.count_eq_zero, State.item?] using hi
  have hq : ∀ p, (s.point p).queue.countP (QueueEntry.holds b) = 0 := fun p =>
    List.countP_eq_zero.2 (fun e hm hh => hqueue p e hm (by simpa [QueueEntry.holds] using (Bool.and_elim_right hh)))
  have hl : s.laneEntries.countP (LaneEntry.holds b) = 0 := by
    refine List.countP_eq_zero.2 (fun e hm hh => ?_)
    obtain ⟨l, hl, hel⟩ := List.mem_flatMap.1 hm
    obtain ⟨n, hn⟩ := List.mem_iff_getElem?.1 hl
    exact hlane n e (mem_entriesAt.2 ⟨l, hn, hel⟩) (by simpa [LaneEntry.holds] using (Bool.and_elim_right hh))
  have h0 := hq .p0
  have h1 := hq .p1
  simp only [State.point] at h0 h1
  rw [State.occurs_record, hkeys, hl, h0, h1]

theorem State.letIn_keeps {t : TagFields} {s : State} (hi : s.item? (.bus t.bus) = none) (he : s.holdsEntry t.bus = false) :
    s.Keeps (s.letIn t) := by
  unfold State.letIn
  refine State.Keeps.trans ?_ (State.setGuide_shrinks _ _ _ _).keeps
  refine State.Keeps.trans (State.send_shrinks _ s).keeps (State.join_keeps (fun _ => ?_))
  have hsend := State.place_sansOffers (.arrive t.bus t.cls t.fuel t.wash s.clock.m) Config.broadcast s
  refine State.occurs_record_of_holdsEntry (b := t.bus) ?_ ?_
  · rw [State.send, State.place_eq]
    exact hi
  · have hl := State.lanes_of_offers hsend
    have h0 := State.point_of_offers hsend .p0
    have h1 := State.point_of_offers hsend .p1
    simp only [State.point] at h0 h1
    simpa [State.holdsEntry, State.laneEntries, State.send, gateRecord, hl, h0, h1] using he

theorem State.gateRead_keeps (t : TagFields) (s : State) : s.Keeps (s.gateRead t) := by
  have refused : ∀ b : ReportBody, s.Keeps ((s.report b).setGuide .gate .hold (some t.bus)) := fun b =>
    ((State.report_shrinks b s).trans (State.setGuide_shrinks _ _ _ _)).keeps
  unfold State.gateRead
  split
  · exact refused _
  split
  · exact .refl s
  next h =>
  split
  · exact refused _
  · simp only [Bool.or_eq_true, not_or, Bool.not_eq_true, Option.isSome_eq_false_iff, Option.isNone_iff_eq_none] at h
    exact State.letIn_keeps h.1 h.2

theorem State.handRead_keeps (role : ReaderRole) (t : TagFields) (s : State) : s.Keeps (s.handRead role t) := by
  unfold State.handRead
  split
  · exact State.gateRead_keeps t s
  · refine State.Keeps.trans ?_ (State.pointEntryRead_keeps _ t _)
    split
    · exact .refl s
    · exact (State.setGuide_shrinks _ _ _ s).keeps
  · exact (State.setGuide_shrinks _ _ _ s).keeps.trans (State.pointExitRead_keeps _ t _)
  · exact State.laneEntryRead_keeps _ t s
  · exact (State.laneExitRead_shrinks _ t s).keeps

theorem State.tagReport_keeps (t : TagOctets) (now : Nat) (s : State) : s.Keeps (s.tagReport t now) := by
  unfold State.tagReport
  dsimp only
  split
  · exact (State.Shrinks.of_lists).keeps
  split
  · exact (State.Shrinks.of_lists).keeps
  · exact State.Keeps.trans (State.Shrinks.of_lists).keeps (State.handRead_keeps _ _ _)

theorem State.levelChange_shrinks (pin : Pin) (level : Bool) (s : State) : s.Shrinks (s.levelChange pin level) := by
  unfold State.levelChange
  dsimp only
  repeat' split
  all_goals exact .of_lists

theorem State.raiseChange_shrinks (pin : Pin) (level : Bool) (s : State) : s.Shrinks (s.raiseChange pin level) := by
  unfold State.raiseChange
  split
  · split
    · exact State.laneClear_shrinks _ s
    · exact .refl s
  · split
    · exact .refl s
    · exact State.pointCleared_shrinks _ s
  · split
    · split
      · exact State.nozzleLifted_shrinks _ s
      · exact State.nozzleHung_shrinks _ s
    · split
      · exact State.washDone_shrinks _ s
      · exact .refl s
    · exact .refl s
  · split
    · exact State.washFault_shrinks _ _ s
    · exact State.startTest_shrinks _ s
  · exact .refl s

theorem State.debounced_shrinks (pin : Pin) (s : State) : s.Shrinks (s.debounced pin) := by
  unfold State.debounced
  dsimp only
  split
  · exact State.Shrinks.trans .of_lists (State.raiseChange_shrinks pin _ _)
  · exact .refl s

theorem State.pulse_shrinks (p : PointId) (s : State) : s.Shrinks (s.pulse p) := by
  unfold State.pulse
  split
  · exact State.onPulse_shrinks p s
  · exact .refl s

theorem State.transferEnd_shrinks (s : State) : s.Shrinks s.transferEnd := by
  unfold State.transferEnd
  split
  · exact .refl s
  · exact .of_lists

/-! ## The Line Interface (R169 to R178) -/

/-- The state of the line replaced, with no more frames than there were or may be. -/
theorem State.Shrinks.line {s : State} {l : Line} (h : l.transmit.length + l.muted.toList.length ≤ max
    (s.line.transmit.length + s.line.muted.toList.length) Config.transmitCapacity) : s.Shrinks { s with line := l } := by
  refine ⟨fun x => ?_, fun _ x => ?_⟩
  · cases x with
    | transmit => exact h
    | _ => exact le_max_left _ _
  · cases x <;> exact le_rfl

theorem State.charBegin_shrinks (s : State) : s.Shrinks s.charBegin := by
  unfold State.charBegin
  split
  · exact .of_lists
  · exact .refl s

theorem State.lineQuiet_shrinks (s : State) : s.Shrinks s.lineQuiet := by
  unfold State.lineQuiet
  split
  · exact .refl s
  dsimp only
  split
  · exact State.Shrinks.trans .of_lists (State.placeHeadReport_shrinks _)
  · exact .of_lists

theorem State.lineJam_shrinks (s : State) : s.Shrinks s.lineJam := by
  unfold State.lineJam
  split
  · exact .of_lists
  · exact .refl s

theorem State.roundEnd_shrinks (s : State) : s.Shrinks s.roundEnd := by
  unfold State.roundEnd
  split
  · exact .of_lists
  · exact .refl s

theorem State.ignoreLine_shrinks (s : State) : s.Shrinks s.ignoreLine :=
  State.Shrinks.trans (State.charBegin_shrinks s) .of_lists

theorem toList_map_length {α β : Type} (o : Option α) (f : α → β) : (o.map f).toList.length = o.toList.length := by
  cases o <;> rfl

theorem State.markSending_shrinks (f : TxFrame) (s : State) : s.Shrinks (s.markSending f) :=
  .line (by simp [toList_map_length])

theorem State.transmitStart_shrinks (c : Nat) (s : State) : s.Shrinks (s.transmitStart c) := by
  unfold State.transmitStart
  repeat' split
  · exact .refl s
  · exact State.markSending_shrinks _ s
  · exact .of_lists
  · exact .refl s

theorem State.hearOwn_keeps (body : FrameBody) (s : State) : s.Keeps (s.hearOwn body) := by
  unfold State.hearOwn
  split
  · exact (State.ownOfferHeard_shrinks _ s).keeps.trans (State.offerHeard_keeps _ _ _)
  · exact (State.ownBidHeard_shrinks _ _ s).keeps
  · exact (State.ownTakeHeard_shrinks _ s).keeps
  · exact (State.popReport_shrinks s).keeps
  all_goals exact .refl s

theorem State.tellDiscard_shrinks (body : FrameBody) (s : State) : s.Shrinks (s.tellDiscard body) := by
  unfold State.tellDiscard
  split
  · exact (State.ownOfferDiscarded_shrinks _ s).trans (State.settle_shrinks s _)
  · exact (State.dropBid_shrinks _ s).trans (State.settle_shrinks s _)
  · exact (State.dropClaim_shrinks _ s).trans (State.settle_shrinks s _)
  · exact .of_lists
  all_goals exact .refl s

theorem State.frameOut_shrinks (f : TxFrame) (s : State) : s.Shrinks (s.frameOut f) :=
  .line (le_max_of_le_left (Nat.add_le_add_right (List.length_filter_le _ _) _))

theorem State.retryReoffer_shrinks (s : State) : s.Shrinks s.retryReoffer := by
  unfold State.retryReoffer
  split
  · exact State.offerTest_shrinks s
  · exact .refl s

/-- The frame that a soft restart left on the line is gone. -/
theorem State.Shrinks.unmuted {s : State} {l : Line} (ht : l.transmit = s.line.transmit) (hm : l.muted = none) :
    s.Shrinks { s with line := l } :=
  .line (le_max_of_le_left (by simp [ht, hm]))

theorem State.frameHeard_keeps (s : State) : s.Keeps s.frameHeard := by
  unfold State.frameHeard
  split
  · exact (((State.frameOut_shrinks _ s).keeps.trans (State.hearOwn_keeps _ _))).trans (State.retryReoffer_shrinks _).keeps
  split
  · split
    · exact (State.Shrinks.trans (.unmuted (l := { s.line with muted := none, sent := [], receiver := .ignoring }) rfl rfl)
        (State.retryReoffer_shrinks _)).keeps
    · exact .refl s
  · exact .refl s

theorem State.flagConflict_shrinks (kind destination : Nat) (cause : ConflictCause) (s : State) :
    s.Shrinks (s.flagConflict kind destination cause) :=
  State.Shrinks.trans (t := { s with line := { s.line with conflict := true } }) .of_lists (State.report_shrinks _ _)

theorem State.discardSent_shrinks (f : TxFrame) (s : State) : s.Shrinks (s.discardSent f) :=
  ((State.tellDiscard_shrinks f.body s).trans (State.flagConflict_shrinks _ _ _ _)).trans (State.retryReoffer_shrinks _)

theorem State.mismatch_shrinks (s : State) : s.Shrinks s.mismatch := by
  unfold State.mismatch
  dsimp only
  split
  · split
    · exact .line (by simp)
    · refine State.Shrinks.trans (.line (le_max_of_le_left ?_)) (State.discardSent_shrinks _ _)
      exact Nat.add_le_add_right (List.length_filter_le _ _) _
  split
  · split
    · exact .refl s
    split
    · exact .line (by simp [toList_map_length])
    · exact State.Shrinks.trans (.unmuted (l := { s.line with muted := none, sent := [] }) rfl rfl)
        (State.discardSent_shrinks _ _)
  · exact .refl s

theorem State.receive_keeps (f : RxFrame) {handle : FrameKind → Nat → State → State}
    (h : ∀ (k : FrameKind) (n : Nat) (t : State), t.Keeps (handle k n t)) (s : State) : s.Keeps (s.receive f handle) := by
  have ignored := (State.ignoreLine_shrinks s).keeps
  unfold State.receive
  split
  · exact .refl s
  dsimp only
  split
  · exact ignored
  split
  · exact ignored
  · exact ignored.trans (State.flagConflict_shrinks _ _ _ _).keeps
  · exact ignored.trans (h _ _ _)

theorem onKind_keeps {k : FrameKind} {act : Nat → State → State} (h : ∀ (n : Nat) (t : State), t.Keeps (act n t))
    (kind : FrameKind) (source : Nat) (s : State) : s.Keeps (onKind k act kind source s) := by
  unfold onKind
  split
  · exact h source s
  · exact .refl s

theorem onAction_keeps {a : ControlAction} {payload : List Byte} {act : Nat → State → State}
    (h : ∀ (n : Nat) (t : State), t.Keeps (act n t)) (kind : FrameKind) (source : Nat) (s : State) :
    s.Keeps (onAction a payload act kind source s) := by
  refine onKind_keeps (fun n t => ?_) kind source s
  split
  · exact h n t
  · exact .refl t

theorem State.acceptPlan_shrinks (p : PointId) (f : PlanFields) (s : State) : s.Shrinks (s.acceptPlan p f) := by
  have table : ∀ t : SlotTable, s.Shrinks (s.setTable p t) := fun t => by cases p <;> exact .of_lists
  unfold State.acceptPlan
  dsimp only
  split
  · exact (table _).thenPoint rfl
  · exact table _

theorem State.onPlan_shrinks (source : Nat) (payload : List Byte) (s : State) : s.Shrinks (s.onPlan source payload) := by
  unfold State.onPlan
  split
  · exact .refl s
  split
  · exact .refl s
  split
  · exact .refl s
  split
  · exact .refl s
  · exact State.acceptPlan_shrinks _ _ s

theorem State.onOffer_keeps (payload : List Byte) (source : Nat) (s : State) : s.Keeps (s.onOffer payload source) := by
  unfold State.onOffer
  split
  · exact State.offerHeard_keeps _ _ s
  · exact .refl s

theorem State.onBid_shrinks (payload : List Byte) (source : Nat) (s : State) : s.Shrinks (s.onBid payload source) := by
  unfold State.onBid
  split
  · exact State.bidHeard_shrinks _ _ s
  · exact .refl s

theorem State.onTake_shrinks (payload : List Byte) (source : Nat) (s : State) : s.Shrinks (s.onTake payload source) := by
  unfold State.onTake
  split
  · exact State.takeHeard_shrinks _ _ s
  · exact .refl s

theorem State.onRecordFrame_shrinks (payload : List Byte) (s : State) : s.Shrinks (s.onRecordFrame payload) := by
  unfold State.onRecordFrame
  split
  · exact State.onRecord_shrinks _ s
  · exact .refl s

end Sys2Proof.Machine

namespace Sys2Proof.Machine

open Sys2Proof

/-! ## Start-up (R181 to R186) -/

/-- The lists cut down, the lanes and queues emptied. -/
theorem State.Shrinks.of_cleared {s t : State} (ho : t.hand.outbound.Sublist s.hand.outbound)
    (hb : t.hand.bids.Sublist s.hand.bids) (hr : t.loader.reports.Sublist s.loader.reports)
    (hx : t.line.transmit.Sublist s.line.transmit) (hm : t.line.muted.toList.Sublist s.line.muted.toList)
    (hl : ∀ l ∈ t.lanes, l.entries = []) (hq : ∀ p, (t.point p).queue = []) : s.Shrinks t := by
  have hlane : ∀ n, entriesAt t.lanes n = [] := by
    intro n
    cases h : t.lanes[n]? with
    | none => simp [entriesAt, h]
    | some l => rw [entriesAt_of_getElem? h, hl l (List.mem_of_getElem? h)]
  have hall : t.laneEntries = [] := List.flatMap_eq_nil_iff.2 hl
  refine ⟨fun x => (le_max_left _ _).trans' ?_, fun _ x => ?_⟩
  · cases x with
    | outbound => exact ho.length_le
    | bids => exact hb.length_le
    | reports => exact hr.length_le
    | transmit => exact Nat.add_le_add hx.length_le hm.length_le
    | lane n => simp [State.load, hlane]
    | queue p => simp [State.load, hq]
  · have hkeys : t.keys.Sublist s.keys := ho.map _
    cases x with
    | tag g => exact (hb.map _).count_le g
    | lane n b => simp [State.occurs, hlane]
    | queue p b => simp [State.occurs, hq]
    | swap r => exact hkeys.count_le _
    | record b =>
      have h0 := hq .p0
      have h1 := hq .p1
      have hk := hkeys.count_le (.bus b)
      simp only [State.point] at h0 h1
      simp only [State.occurs_record, h0, h1, hall, List.countP_nil]
      omega

theorem State.powerOn_shrinks (s : State) : s.Shrinks s.powerOn :=
  .of_cleared (List.nil_sublist _) (List.nil_sublist _) (List.nil_sublist _) (List.nil_sublist _) (List.nil_sublist _)
    (fun _ h => absurd h (by simp [State.powerOn, State.powerOnValues, State.reset])) (fun p => by cases p <;> rfl)

theorem State.assertReset_shrinks (s : State) : s.Shrinks s.assertReset :=
  State.Shrinks.trans (State.powerOn_shrinks s) .of_lists

theorem State.enterWaiting_shrinks (address : Nat) (i : Image) (s : State) : s.Shrinks (s.enterWaiting address i) :=
  .of_cleared (.refl _) (.refl _) (.refl _) (.refl _) (.refl _)
    (fun l hl => by obtain rfl := List.eq_of_mem_replicate hl; rfl) (fun p => by cases p <;> rfl)

theorem State.enterFault_shrinks (s : State) : s.Shrinks s.enterFault := by
  unfold State.enterFault State.startTransfer
  split <;> exact .of_lists

theorem State.configReadEnd_shrinks (strap : BitVec 4) (octets : List (Option Byte)) (s : State) :
    s.Shrinks (s.configReadEnd strap octets) := by
  unfold State.configReadEnd
  split
  · exact .refl s
  dsimp only
  split
  · exact State.enterFault_shrinks s
  · exact State.enterWaiting_shrinks _ _ s

/-! ## The soft restart and POLL (R182, R189) -/

theorem State.emptyQueues_shrinks (s : State) : s.Shrinks s.emptyQueues := by
  have lineOnly : s.Shrinks { s with line := s.emptyQueues.line } := by
    refine .line (le_max_of_le_right ?_)
    have : s.emptyQueues.line.muted.toList.length ≤ 1 := by cases s.emptyQueues.line.muted <;> simp
    simp only [State.emptyQueues, List.length_nil, Config.transmitCapacity] at this ⊢
    omega
  exact lineOnly.trans (State.Shrinks.trans (State.setReports_shrinks (l := []) (Nat.zero_le _)) .of_lists)

theorem State.restartHandover_shrinks (s : State) : s.Shrinks s.restartHandover := by
  have entries := (State.removeLaneEntries_shrinks (fun _ e => decide (e.state = .tentative)) s).trans
    (State.removeQueueEntries_shrinks (fun e => decide (e.state = .tentative)) _)
  refine entries.trans (State.Shrinks.trans (State.setOffer_shrinks none _) (State.Shrinks.trans
    (.setBids (t := { State.setOffer none _ with hand := { (State.setOffer none _).hand with bids := [] } }) rfl
      List.nil_subperm) ?_))
  exact .outbound (sortItems_map_keys (f := fun i => { i with ready := s.clock.m, offerCount := 0, lastNumber := 0 })
    (fun _ => rfl) _)

theorem State.bindMarks_shrinks (s : State) : s.Shrinks s.bindMarks :=
  .foldl (fun t (x : Nat × TakeMark) => State.bindTaken_shrinks x.1 x.2 t) _ s

theorem State.freeFault_shrinks (p : PointId) (s : State) : s.Shrinks (s.freeFault p) :=
  .modPoint_same (by split <;> rfl)

theorem State.testFreed_shrinks (before : State) (p : PointId) (s : State) : s.Shrinks (State.testFreed before p s) := by
  unfold State.testFreed
  split
  · exact State.startTest_shrinks p s
  · exact .refl s

theorem State.softRestart_shrinks (s : State) : s.Shrinks s.softRestart :=
  (((((((State.emptyQueues_shrinks s).trans (State.restartHandover_shrinks _)).trans (State.bindMarks_shrinks _)).trans
    (State.freeFault_shrinks .p0 _)).trans (State.freeFault_shrinks .p1 _)).trans (State.settle_shrinks s _)).trans
    ((State.testFreed_shrinks s .p0 _).trans (State.testFreed_shrinks s .p1 _))).trans (State.offerTest_shrinks _)

theorem State.onRestart_shrinks (destination source : Nat) (s : State) : s.Shrinks (s.onRestart destination source) := by
  unfold State.onRestart
  split
  · exact State.softRestart_shrinks s
  · exact .refl s

theorem State.onPoll_shrinks (source : Nat) (s : State) : s.Shrinks (s.onPoll source) := by
  unfold State.onPoll
  split
  · exact .refl s
  split
  · exact State.setReports_shrinks (by simp)
  · exact State.report_shrinks _ s

/-! ## One step -/

section
variable {f : State → State} {s : State}

theorem State.whenActive_keeps (h : s.Keeps (f s)) : s.Keeps (s.whenActive f) := by
  unfold State.whenActive
  split
  · exact h
  · exact .refl s

theorem State.whenMinute_keeps (h : s.Keeps (f s)) : s.Keeps (s.whenMinute f) := by
  unfold State.whenMinute
  split
  · exact h
  · exact .refl s

theorem State.whenPowered_keeps (h : s.Keeps (f s)) : s.Keeps (s.whenPowered f) := by
  unfold State.whenPowered
  split
  · exact .refl s
  · exact h

end

theorem State.expireBus_shrinks (bus : Nat) (s : State) : s.Shrinks (s.expireBus bus) :=
  ((State.expireLanes_shrinks _ s).trans (State.expireQueue_shrinks _ _ _)).trans (State.expireQueue_shrinks _ _ _)

theorem State.expireRecordsOf_shrinks (bus : Nat) (s : State) : s.Shrinks (s.expireRecordsOf bus) :=
  ((State.expireLaneRecords_shrinks _ s).trans (State.expireRecords_shrinks _ _ _)).trans (State.expireRecords_shrinks _ _ _)

/-- A CONTROL of one action that adds nothing. -/
theorem State.receiveControl_keeps (a : ControlAction) (f : RxFrame) {onLane : Nat → State → State}
    {onPoint : PointId → State → State} (hl : ∀ n t, State.Shrinks t (onLane n t)) (hp : ∀ p t, State.Shrinks t (onPoint p t))
    (s : State) : s.Keeps (s.receive f (onAction a f.payload (fun source => State.onControl source f.payload onLane onPoint))) :=
  State.receive_keeps f (onAction_keeps (fun n t => (State.onControl_shrinks n f.payload t (hl · t) (hp · t)).keeps)) s

theorem keeps_of_next {s u t : State} (hu : s.Keeps u)
    (h : (Host.Outcome.next u : Host.Outcome State Fault Refusal) = .next t) : s.Keeps t := by
  cases h
  exact hu

/-- Every command keeps the capacities of the lists and what each of them holds once. -/
theorem exec_keeps {c : Instr} {s t : State} (h : exec c s = .next t) : s.Keeps t := by
  cases c with
  | powerOn => exact keeps_of_next (State.powerOn_shrinks s).keeps h
  | resetAssert => exact keeps_of_next (State.assertReset_shrinks s).keeps h
  | configReadEnd strap octets => exact keeps_of_next (State.configReadEnd_shrinks strap octets s).keeps h
  | minuteEvent order => exact keeps_of_next (State.whenMinute_keeps (State.minuteEvent_keeps order s)) h
  | dutyWaitExpiry bus => exact keeps_of_next (State.whenMinute_keeps (State.expireDutyWait_shrinks _ s).keeps) h
  | expectedTimeout bus => exact keeps_of_next (State.whenMinute_keeps (State.expireBus_shrinks bus s).keeps) h
  | recordDeadline bus => exact keeps_of_next (State.whenMinute_keeps (State.expireRecordsOf_shrinks bus s).keeps) h
  | offerStart => exact keeps_of_next (State.offerTest_shrinks s).keeps h
  | joinRetry p => exact keeps_of_next (State.whenMinute_keeps (State.retryJoins_shrinks p s).keeps) h
  | callTimeDue => exact keeps_of_next (State.whenMinute_keeps (State.callTimes_keeps s)) h
  | runLate bus => exact keeps_of_next (State.whenMinute_keeps (State.lateTest_shrinks _ s).keeps) h
  | nozzleTimeout p => exact keeps_of_next (State.whenMinute_keeps (State.nozzleTimeout_shrinks p s).keeps) h
  | flowFault p => exact keeps_of_next (State.whenMinute_keeps (State.flowFault_shrinks p s).keeps) h
  | doneTimeout p => exact keeps_of_next (State.whenMinute_keeps (State.doneTimeout_shrinks p s).keeps) h
  | time f order => exact keeps_of_next (State.receive_keeps f (onKind_keeps (fun n t => State.onTime_keeps n _ order t)) s) h
  | duty f => exact keeps_of_next (State.receive_keeps f (onKind_keeps (fun n t => (State.onDuty_shrinks n _ t).keeps)) s) h
  | plan f => exact keeps_of_next (State.receive_keeps f (onKind_keeps (fun n t => (State.onPlan_shrinks n _ t).keeps)) s) h
  | openLane f =>
    exact keeps_of_next (State.receiveControl_keeps .openLane f State.openLane_shrinks (State.setClosed_shrinks false) s) h
  | closeLane f =>
    exact keeps_of_next (State.receiveControl_keeps .closeLane f State.closeLane_shrinks (State.setClosed_shrinks true) s) h
  | clearPoint f =>
    exact keeps_of_next (State.receiveControl_keeps .clearPoint f (fun _ t => .refl t) State.clearPoint_shrinks s) h
  | restart f =>
    exact keeps_of_next (State.receive_keeps f (onAction_keeps (fun n t => (State.onRestart_shrinks _ n t).keeps)) s) h
  | poll f => exact keeps_of_next (State.receive_keeps f (onKind_keeps (fun n t => (State.onPoll_shrinks n t).keeps)) s) h
  | offer f => exact keeps_of_next (State.receive_keeps f (onKind_keeps (fun n t => State.onOffer_keeps _ n t)) s) h
  | bid f => exact keeps_of_next (State.receive_keeps f (onKind_keeps (fun n t => (State.onBid_shrinks _ n t).keeps)) s) h
  | take f => exact keeps_of_next (State.receive_keeps f (onKind_keeps (fun n t => (State.onTake_shrinks _ n t).keeps)) s) h
  | stray f => exact keeps_of_next (State.receive_keeps f (onKind_keeps (fun n t => (State.onStray_shrinks n _ t).keeps)) s) h
  | record f =>
    exact keeps_of_next (State.receive_keeps f (onKind_keeps (fun _ t => (State.onRecordFrame_shrinks _ t).keeps)) s) h
  | otherFrame f => exact keeps_of_next (State.receive_keeps f (fun _ _ t => .refl t) s) h
  | bidWindowEnd tag => exact keeps_of_next (State.whenActive_keeps (State.bidWindowEnd_shrinks tag s).keeps) h
  | offerWindowEnd => exact keeps_of_next (State.whenActive_keeps (State.offerWindowEnd_shrinks s).keeps) h
  | takeWaitEnd => exact keeps_of_next (State.whenActive_keeps (State.takeWaitEnd_shrinks s).keeps) h
  | takeMarkEnd tag => exact keeps_of_next (State.whenActive_keeps (State.takeMarkEnd_shrinks tag s).keeps) h
  | tagReport r now => exact keeps_of_next (State.whenActive_keeps (State.tagReport_keeps r now s)) h
  | tagReportTimeout => exact keeps_of_next (State.whenActive_keeps (f := State.abandonReport) (State.Shrinks.of_lists).keeps) h
  | loopFramingError => exact keeps_of_next (State.whenActive_keeps (f := State.abandonReport) (State.Shrinks.of_lists).keeps) h
  | detectorLevelChange pin level => exact keeps_of_next (State.levelChange_shrinks pin level s).keeps h
  | debounceComplete pin => exact keeps_of_next (State.debounced_shrinks pin s).keeps h
  | flowPulse p => exact keeps_of_next (State.pulse_shrinks p s).keeps h
  | characterBegin => exact keeps_of_next (State.whenPowered_keeps (State.charBegin_shrinks s).keeps) h
  | lineQuiet => exact keeps_of_next (State.whenPowered_keeps (State.lineQuiet_shrinks s).keeps) h
  | lineJam => exact keeps_of_next (State.whenPowered_keeps (State.lineJam_shrinks s).keeps) h
  | deferralRoundEnd => exact keeps_of_next (State.whenPowered_keeps (State.roundEnd_shrinks s).keeps) h
  | transmitStart count => exact keeps_of_next (State.whenPowered_keeps (State.transmitStart_shrinks count s).keeps) h
  | frameHeard => exact keeps_of_next (State.whenActive_keeps (State.frameHeard_keeps s)) h
  | readbackMismatch => exact keeps_of_next (State.whenActive_keeps (State.mismatch_shrinks s).keeps) h
  | rxFramingError => exact keeps_of_next (State.whenPowered_keeps (State.ignoreLine_shrinks s).keeps) h
  | displayTransferEnd => exact keeps_of_next (State.transferEnd_shrinks s).keeps h
  | rxOctetRejected r =>
    refine keeps_of_next (State.whenPowered_keeps ?_) h
    split
    · exact (State.ignoreLine_shrinks s).keeps
    · exact .refl s

/-- Every step keeps the capacities of the lists and what each of them holds once. -/
theorem step_keeps {s t : State} (h : step s = .next t) : s.Keeps t := by
  unfold step at h
  split at h
  · cases h; exact .refl _
  · exact State.Keeps.trans (State.Shrinks.of_lists (t := s.withPending _)).keeps (exec_keeps h)

end Sys2Proof.Machine

namespace Sys2Proof
open Sys2Proof.Machine

/-- Settles O6: no operation fills a list past its capacity (`State.Shrinks`), but the few that join something to a list,
which ask for room first (`State.Keeps`). -/
theorem stepsKeepListsWithinCapacity : Obligations.StepsKeepListsWithinCapacity :=
  fun _ _ hc h => (step_keeps h).capacity hc

/-- Settles O8: an operation that joins a record, a claim or a request to a list has found none of its kind there before, or
has given it up elsewhere in the same event. -/
theorem stepsKeepEntriesDistinct : Obligations.StepsKeepEntriesDistinct :=
  fun _ _ hd h => (step_keeps h).distinct hd

end Sys2Proof

namespace Sys2Proof.Machine

open Sys2Proof

/-! ## The start of an offer (R23, R24) -/

/-- An operation on offers and frames changes the outbound list, the offer, the waiting frames and the mark of R188 alone. -/
theorem State.eq_of_offers {s t : State} (h : t.sansOffers = s.sansOffers) :
    t = { s with hand := t.hand, line := t.line, loader := { s.loader with retryAtQuiet := t.loader.retryAtQuiet } } := by
  obtain ⟨_, ⟨_, _, _, _, _, _, _⟩, _, _, _, _, _, _, _, _, _⟩ := s
  obtain ⟨_, ⟨_, _, _, _, _, _, _⟩, _, _, _, _, _, _, _, _, _⟩ := t
  simp only [State.sansOffers, State.mk.injEq, Loader.mk.injEq] at h
  simp_all

theorem State.startOffer_of_room {s : State} (h : s.canPlace .normal = true) (it : OutItem) :
    s.startOffer it = State.send (.offer s.hand.counter it.lastNumber it.cargo)
      (State.setOffer (some { number := s.hand.counter, phase := .queued, key := it.key, countBefore := it.offerCount,
                              reNumber := 0, takes := [] })
        (s.takeNumber.modItem it.key (fun i => { i with offerCount := 1 }))) := by
  rcases State.startOffer_cases it s with ⟨-, e⟩ | ⟨hc, -⟩
  · exact e
  · simp [h] at hc

/-- The test of R23 starts the offer of a head that is ready. -/
theorem State.offerTest_of_ready {s : State} {it : OutItem} {rest : List OutItem} (hs : s.inService = true)
    (ho : s.hand.offer = none) (hl : s.hand.outbound = it :: rest) (hr : it.ready ≤ s.clock.m) :
    s.offerTest = s.startOffer it := by
  simp [State.offerTest, hs, ho, hl, hr]

/-- Where no re-offer is owed, the test of R23 finds nothing to do at a node out of service, with an open offer, or without
a ready head. -/
theorem State.offerTest_idle {s : State} (hr : s.owesReoffer = false)
    (h : s.inService = false ∨ s.hand.offer.isSome = true ∨ s.hand.outbound = [] ∨
      ∃ it rest, s.hand.outbound = it :: rest ∧ s.clock.m < it.ready) : s.offerTest = s := by
  rcases State.offerTest_cases s with e | ⟨-, o, ho, hp, hn, -⟩ | ⟨hs, ho, it, rest, hl, hready, -⟩
  · exact e
  · simp [State.owesReoffer, ho, hp, hn] at hr
  · rcases h with h | h | h | ⟨it', rest', h, hlate⟩
    · simp [hs] at h
    · simp [ho] at h
    · simp [hl] at h
    · rw [hl] at h
      obtain ⟨rfl, -⟩ := List.cons.inj h
      omega

/-- A frame to every station changes no list but the transmit queue. -/
theorem State.send_hand (b : FrameBody) (s : State) : (s.send b).hand = s.hand := by
  rw [State.send, State.place_eq]

end Sys2Proof.Machine

namespace Sys2Proof
open Sys2Proof.Machine

/-- Settles O28, through the two outcomes of the test of R23. -/
theorem offerStartsForAReadyHead : Obligations.OfferStartsForAReadyHead := by
  refine fun s => ⟨fun it rest hs ho hl hr hroom => ⟨s.offerTest, rfl, ?_⟩, fun hre h =>
    congrArg Host.Outcome.next (State.offerTest_idle hre h)⟩
  have heq := (State.offerTest_of_ready hs ho hl hr).trans (State.startOffer_of_room hroom it)
  have hhand : s.offerTest.hand = _ := (congrArg State.hand heq).trans (State.send_hand _ _)
  refine ⟨by rw [hhand]; rfl, by rw [hhand]; rfl, ⟨{ it with offerCount := 1 }, ?_, rfl⟩, ?_, by rw [hhand]; rfl, by rw [hhand]; rfl,
    ?_, State.offerTest_still s, State.eq_of_offers (State.offerTest_sansOffers s)⟩
  · rw [hhand]
    exact State.mem_modItem.2 ⟨it, by simp [State.takeNumber, hl], by simp⟩
  · rw [hhand]
    simp [State.setOffer, State.modItem, State.takeNumber]
  · rw [heq]
    exact ⟨_, State.mem_place _ _ _ hroom, rfl, rfl, rfl, rfl⟩

end Sys2Proof

namespace Sys2Proof.Machine

open Sys2Proof

/-! ## What the items of the outbound list keep (R21, R22) -/

/-- An outbound item without the counts of its offers: what an offer leaves as it is. -/
def OutItem.core (i : OutItem) : OutItem := { i with offerCount := 0, lastNumber := 0 }

/-- The items of the outbound list, without the counts of their offers. -/
def State.cores (s : State) : List OutItem := s.hand.outbound.map OutItem.core

theorem State.modItem_cores {k : ItemKey} {f : OutItem → OutItem} (hf : ∀ i, (f i).core = i.core) (s : State) :
    (s.modItem k f).cores.Perm s.cores := by
  refine ((sortItems_perm _).map OutItem.core).trans (.of_eq ?_)
  rw [List.map_map]
  refine List.map_congr_left (fun i _ => ?_)
  simp only [Function.comp_apply]
  split
  · exact hf i
  · rfl

theorem State.send_cores (b : FrameBody) (s : State) : (s.send b).cores = s.cores := by
  rw [State.cores, State.send_hand, State.cores]

theorem State.startOffer_cores (it : OutItem) (s : State) : (s.startOffer it).cores.Perm s.cores := by
  rcases State.startOffer_cases it s with ⟨-, e⟩ | ⟨-, e⟩ <;> rw [e]
  · rw [State.send_cores]
    exact State.modItem_cores (s := s.takeNumber) (f := fun i => { i with offerCount := 1 }) (fun _ => rfl)
  · exact .refl _

theorem State.placeReoffer_cores (o : OpenOffer) (s : State) : (s.placeReoffer o).cores.Perm s.cores := by
  have h : (s.takeNumber.modItem o.key (fun i => { i with offerCount := 2 })).cores.Perm s.cores :=
    State.modItem_cores (s := s.takeNumber) (f := fun i => { i with offerCount := 2 }) (fun _ => rfl)
  unfold State.placeReoffer
  split
  · exact .refl _
  dsimp only
  split
  · rw [State.send_cores]; exact h
  · exact h

/-- The test of R23 changes no item but in the counts of its offers. -/
theorem State.offerTest_cores (s : State) : s.offerTest.cores.Perm s.cores := by
  rcases State.offerTest_cases s with e | ⟨-, o, -, -, -, e⟩ | ⟨-, -, it, rest, -, -, e⟩ <;> rw [e]
  · exact State.placeReoffer_cores o s
  · exact State.startOffer_cores it s

/-- A join adds its item, ready at m, to those that were there. -/
theorem State.join_cores {c : Cargo} {g : Option GuidePlace} {s : State} (h : s.outboundFull = false) :
    (s.join c g).cores.Perm ({ cargo := c, ready := s.clock.m, joinOrder := s.hand.joins, offerCount := 0,
                               lastNumber := 0, place := g } :: s.cores) := by
  rw [State.join_of_room h]
  exact (State.offerTest_cores _).trans ((insertItem_perm _ _).map OutItem.core)

theorem State.join_item {c : Cargo} {g : Option GuidePlace} {s : State} (h : s.outboundFull = false) :
    ∃ i ∈ (s.join c g).hand.outbound, i.ready = s.clock.m ∧ i.joinOrder = s.hand.joins ∧ i.place = g ∧ i.cargo = c := by
  have hmem := (State.join_cores h (c := c) (g := g)).mem_iff.2 (List.mem_cons_self ..)
  obtain ⟨i, hi, hc⟩ := List.mem_map.1 hmem
  simp only [OutItem.core, OutItem.mk.injEq] at hc
  obtain ⟨hcargo, hready, hjoin, -, -, hplace⟩ := hc
  exact ⟨i, hi, hready, hjoin, hplace, hcargo⟩

theorem State.join_length {c : Cargo} {g : Option GuidePlace} {s : State} (h : s.outboundFull = false) :
    (s.join c g).hand.outbound.length = s.hand.outbound.length + 1 := by
  simpa [State.cores] using (State.join_cores h (c := c) (g := g)).length_eq

theorem State.outboundFull_eq_false {s : State} (h : s.hand.outbound.length < Config.outboundCapacity) :
    s.outboundFull = false := by
  simpa [State.outboundFull] using h

/-! ## The end of a fuel service (R102) -/

theorem State.whenMinute_of_live {s : State} (h : s.minuteLive = true) (f : State → State) : s.whenMinute f = f s := by
  simp [State.whenMinute, h]

theorem State.active_of_inService {s : State} (h : s.inService = true) : s.active = true := by
  simp only [State.inService, State.active, Bool.and_eq_true, decide_eq_true_eq] at h ⊢
  simp [h.1, h.2]

theorem State.active_of_live {s : State} (h : s.minuteLive = true) : s.active = true :=
  State.active_of_inService (Bool.and_elim_left h)

@[simp] theorem State.report_hand (b : ReportBody) (s : State) : (s.report b).hand = s.hand := by rw [State.report_eq]
@[simp] theorem State.report_field (b : ReportBody) (s : State) : (s.report b).field = s.field := by rw [State.report_eq]
@[simp] theorem State.report_clock (b : ReportBody) (s : State) : (s.report b).clock = s.clock := by rw [State.report_eq]

/-- What an operation of one point leaves as it is. -/
theorem State.eq_of_point {s t : State} {p : PointId} (h : t.sansPoint p = s.sansPoint p) :
    t = State.setPoint p (t.point p) { s with hand := t.hand, line := t.line, loader := t.loader } := by
  obtain ⟨_, _, _, _, _, _, _, _, _, _, _⟩ := s
  obtain ⟨_, _, _, _, _, _, _, _, _, _, _⟩ := t
  cases p <;>
  · simp only [State.sansPoint, State.sansOffers, State.setPoint, State.mk.injEq] at h
    simp only [State.setPoint, State.point, State.mk.injEq]
    tauto

@[simp] theorem State.setPoint_setPoint (p : PointId) (v w : Point) (s : State) :
    (s.setPoint p v).setPoint p w = s.setPoint p w := by
  cases p <;> rfl

theorem Point.filter_modEntry {b : Nat} {g : QueueEntry → QueueEntry} (hg : ∀ x, (g x).visit.bus = x.visit.bus) (v : Point) :
    (v.modEntry b g).queue.filter (fun x => decide (x.visit.bus ≠ b))
      = v.queue.filter (fun x => decide (x.visit.bus ≠ b)) := by
  have hp : (fun x : QueueEntry => decide (x.visit.bus ≠ b)) ∘ (fun e => if e.visit.bus = b then g e else e)
      = fun x => decide (x.visit.bus ≠ b) := by
    funext x
    by_cases h : x.visit.bus = b <;> simp [h, hg]
  rw [Point.modEntry, List.filter_map, hp]
  refine (List.map_congr_left (fun x hx => ?_)).trans (List.map_id _)
  have hne : x.visit.bus ≠ b := by simpa using (List.mem_filter.1 hx).2
  simp [hne]

/-- The point with one queue entry less. -/
def Point.withoutEntry (b : Nat) (v w : Point) : Point :=
  { w with queue := v.queue.filter (fun x => decide (x.visit.bus ≠ b)) }

/-- The only entry of a bus becomes FINISHED and asks while the outbound list has room: its record joins (R102, R122). -/
theorem State.finished_joins {s : State} {p : PointId} {e : QueueEntry} {f : Point → Point} {g : QueueEntry → QueueEntry}
    (he : e ∈ (s.point p).queue) (hq : ((s.point p).queue.map (fun x => x.visit.bus)).Nodup)
    (hroom : s.hand.outbound.length < Config.outboundCapacity)
    (hf : (f (s.point p)).queue = ((s.point p).modEntry e.visit.bus g).queue)
    (hg : ∀ x, (g x).visit.bus = x.visit.bus) (hfin : (g e).state = .finished) :
    (s.modPoint p f).askJoin p e.visit.bus
      = (s.setPoint p ((s.point p).withoutEntry e.visit.bus (f (s.point p)))).join (.visit (g e).visit) (some (.point p)) := by
  have hlist : (s.modPoint p f).outboundFull = false := State.outboundFull_eq_false (by simpa using hroom)
  have hmem : ∀ x, x ∈ ((s.modPoint p f).point p).queue → x.visit.bus = e.visit.bus → x = g e := by
    intro x hx hb
    rw [State.modPoint_point, hf] at hx
    obtain ⟨y, hy, rfl⟩ := List.mem_map.1 hx
    split at hb
    · next h => rw [if_pos h, List.inj_on_of_nodup_map hq hy he h]
    · next h => exact absurd hb h
  rcases State.askJoin_cases p e.visit.bus (s.modPoint p f) with ⟨x, hx, hb, -, -, h⟩ | ⟨h | h, -⟩
  · rw [h, hmem x hx hb]
    congr 1
    simp only [State.modPoint, State.setPoint_point, State.setPoint_setPoint]
    rw [Point.withoutEntry, ← Point.filter_modEntry hg, ← hf]
    rfl
  · simp [hlist] at h
  · have hin : g e ∈ ((s.modPoint p f).point p).queue := by
      rw [State.modPoint_point, hf]
      exact List.mem_map.2 ⟨e, he, by simp⟩
    exact absurd hfin (h _ hin (hg e))

/-- CLEARING does not end while the served bus has not left (R103, R123). -/
theorem State.clearingTest_of_not_left {s : State} {p : PointId} (h : (s.point p).left = false) : s.clearingTest p = s := by
  simp [State.clearingTest, State.clearingOver, h]

/-- A fuel service ends while the bus stands there and the outbound list has room: the point is CLEARING, the record has
joined for its next stage (R102). -/
theorem State.endFuelTested_stands {s : State} {p : PointId} {e : QueueEntry} {o : FuelOutcome}
    (he : (s.point p).serving? = some e) (hq : ((s.point p).queue.map (fun x => x.visit.bus)).Nodup)
    (hocc : s.level (.occupied p) = true) (hroom : s.hand.outbound.length < Config.outboundCapacity) :
    (s.endFuelTested p o false).point p = { s.point p with
      state := .clearing, service := none, enable := false, qualifies := false, served := some e.visit.bus, left := false
      queue := (s.point p).queue.filter (fun x => decide (x.visit.bus ≠ e.visit.bus)) } ∧
    (∃ i ∈ (s.endFuelTested p o false).hand.outbound, i.ready = s.clock.m ∧ i.place = some (.point p) ∧
      i.cargo = .visit { e.visit with fuelOutcome := some o, litres := (s.point p).delivered, next := e.visit.afterFuel }) := by
  have hclear : s.pointClear p = false := by simp [State.pointClear, hocc]
  have hend : s.endFuel p o false = _ := (State.endFuel_of_serving he o false).trans
    (State.finished_joins (g := QueueEntry.fuelled o (s.point p).delivered) (Point.serving?_spec he).1 hq hroom rfl
      (fun _ => rfl) rfl)
  rw [hclear] at hend
  have hpoint := State.point_of_offers (State.join_sansOffers (.visit (e.fuelled o (s.point p).delivered).visit)
    (some (.point p)) (s.setPoint p ((s.point p).withoutEntry e.visit.bus (Point.fuelEnded e.visit.bus o false (s.point p))))) p
  rw [State.setPoint_point] at hpoint
  have htest : s.endFuelTested p o false = s.endFuel p o false :=
    State.clearingTest_of_not_left (by rw [hend]; exact congrArg Point.left hpoint)
  rw [htest, hend]
  refine ⟨hpoint, ?_⟩
  obtain ⟨i, hi, hready, -, hplace, hcargo⟩ := State.join_item (State.outboundFull_eq_false (by simpa using hroom))
    (c := .visit (e.fuelled o (s.point p).delivered).visit) (g := some (.point p)) (s := s.setPoint p
      ((s.point p).withoutEntry e.visit.bus (Point.fuelEnded e.visit.bus o false (s.point p))))
  exact ⟨i, hi, hready.trans (by simp), hplace, hcargo⟩

/-- The node at the third dry minute, before the service ends: FUEL_FAULT placed, a fault pending (R106). -/
def State.fuelFaulted (p : PointId) (e : QueueEntry) (sv : Service) (s : State) : State :=
  (s.report (.fuelFault e.visit.bus p (s.point p).delivered sv.needed)).modPoint p (fun v => { v with faultPending := true })

end Sys2Proof.Machine

namespace Sys2Proof
open Sys2Proof.Machine

/-- Settles O33: both commands end the service by `State.endFuel` or find nothing to do. -/
theorem fuelServiceEndsAtItsMinute : Obligations.FuelServiceEndsAtItsMinute := by
  refine ⟨fun s p sv hlive hbusy hsv => ⟨fun h => ?_, fun e hl hd he hq hocc hroom => ?_⟩,
    fun s p sv e hlive hbusy hsv he => ⟨fun h => ?_, fun h hq hocc hroom hrep => ?_⟩⟩
  · have hno : s.nozzleTimeout p = s := by
      rcases h with h | h
      · simp [State.nozzleTimeout, hbusy, hsv, h]
      · simp [State.nozzleTimeout, hbusy, hsv, Nat.not_le.2 h]
    exact congrArg Host.Outcome.next ((State.whenMinute_of_live hlive _).trans hno)
  · have hends : s.nozzleTimeout p = s.endFuelTested p .skipped false := by simp [State.nozzleTimeout, hbusy, hsv, hl, hd]
    obtain ⟨hpoint, hitem⟩ := State.endFuelTested_stands (o := .skipped) he hq hocc hroom
    exact ⟨_, congrArg Host.Outcome.next ((State.whenMinute_of_live hlive _).trans hends), hpoint, hitem,
      State.endFuelTested_still .., State.eq_of_point (State.endFuelTested_sansPoint ..)⟩
  · have hno : s.flowFault p = s := by simp [State.flowFault, hbusy, hsv, he, Config.dryLimit, Nat.not_le.2 h]
    exact congrArg Host.Outcome.next ((State.whenMinute_of_live hlive _).trans hno)
  · have hends : s.flowFault p = (s.fuelFaulted p e sv).endFuelTested p .part false := by
      simp [State.flowFault, hbusy, hsv, he, Config.dryLimit, h, State.fuelFaulted]
    have hu : (s.fuelFaulted p e sv).point p = { s.point p with faultPending := true } := by simp [State.fuelFaulted]
    obtain ⟨hpoint, hitem⟩ := State.endFuelTested_stands (s := s.fuelFaulted p e sv) (p := p) (e := e) (o := .part)
      (by rw [hu]; exact he) (by rw [hu]; exact hq) (by simpa [State.fuelFaulted, State.level, State.detector] using hocc)
      (by simpa [State.fuelFaulted] using hroom)
    have hframe := State.endFuelTested_sansPoint p .part false (s.fuelFaulted p e sv)
    refine ⟨_, congrArg Host.Outcome.next ((State.whenMinute_of_live hlive _).trans hends), ?_, ?_, ?_, ?_, ?_⟩
    · rw [hpoint, hu]
    · simpa [State.fuelFaulted, VisitRecord.afterFuel] using hitem
    · rw [State.reports_of_point hframe]
      exact ⟨_, by simpa [State.fuelFaulted] using State.mem_report _ s (State.active_of_live hlive), rfl⟩
    · rw [State.endFuelTested_still, State.fuelFaulted, State.modPoint_still, State.report_still]
    · refine (State.eq_of_point hframe).trans ?_
      simp only [State.fuelFaulted, State.modPoint]
      rw [State.report_eq]
      cases p <;> rfl

end Sys2Proof

namespace Sys2Proof.Machine

open Sys2Proof

/-! ## Calls and swap requests at a minute event, lane by lane (R131, R140, R141) -/

/-- Lane `k` holds no entry whose call time has come. -/
def State.noneDue (s : State) (k : Nat) : Prop :=
  ∀ l, s.lanes[k]? = some l → ∀ x ∈ l.entries, x.isDue s.image.callLead s.clock.m = false

theorem takenBuses_of_noneDue {lead m : Nat} {l : List LaneEntry} (h : ∀ x ∈ l, x.isDue lead m = false) :
    takenBuses lead m l = [] := by
  cases l with
  | nil => rfl
  | cons x xs =>
    have hx := h x (by simp)
    have hxs : ∀ y ∈ xs, y.isDue lead m = false := fun y hy => h y (List.mem_cons_of_mem x hy)
    simp only [takenBuses, LaneEntry.isTaken, hx, Bool.false_and, Bool.false_eq_true, if_false, List.nil_append,
      List.map_eq_nil_iff, List.filter_eq_nil_iff]
    intro y hy
    simp [hxs y hy]

theorem State.callLane_of_noneDue {s : State} {k : Nat} (h : s.noneDue k) : s.callLane k = s := by
  unfold State.callLane
  split
  · rfl
  · next l hl => rw [takenBuses_of_noneDue (h l hl)]; exact ite_self s

theorem State.foldl_callLane_of_noneDue (l : List Nat) {s : State} (h : ∀ k ∈ l, s.noneDue k) :
    l.foldl State.callLane s = s := by
  induction l with
  | nil => rfl
  | cons k l ih =>
    rw [List.foldl_cons, State.callLane_of_noneDue (h k (by simp))]
    exact ih (fun j hj => h j (List.mem_cons_of_mem k hj))

/-- Where one lane alone holds a due entry, the call times are tested there alone. -/
theorem State.callTimes_of_one_lane {s : State} {n : Nat} {l : Lane} (hl : s.lanes[n]? = some l)
    (hs : ∀ k, k ≠ n → s.noneDue k) (ht : ∀ k, k ≠ n → (s.callLane n).noneDue k) : s.callTimes = s.callLane n := by
  have hn : n ∈ List.range s.lanes.length := List.mem_range.2 (List.getElem?_eq_some_iff.1 hl).1
  obtain ⟨l1, l2, hsplit⟩ := List.append_of_mem hn
  have hnd : (l1 ++ n :: l2).Nodup := hsplit ▸ List.nodup_range
  obtain ⟨-, h2, hdis⟩ := List.nodup_append.1 hnd
  have hn1 : ∀ k ∈ l1, k ≠ n := fun k hk => hdis k hk n (by simp)
  have hn2 : ∀ k ∈ l2, k ≠ n := fun k hk h => (List.nodup_cons.1 h2).1 (h ▸ hk)
  rw [State.callTimes, hsplit, List.foldl_append, List.foldl_cons,
    State.foldl_callLane_of_noneDue l1 (fun k hk => hs k (hn1 k hk)),
    State.foldl_callLane_of_noneDue l2 (fun k hk => ht k (hn2 k hk))]

/-- The one due entry of a lane, behind others and with ask state NONE, is the one R131 takes. -/
theorem takenBuses_of_one {lead m : Nat} {e : LaneEntry} {ahead back : List LaneEntry} (ha : ahead ≠ [])
    (hdue : e.isDue lead m = true) (hask : e.ask = .none) (ho : ∀ x ∈ ahead ++ back, x.isDue lead m = false) :
    takenBuses lead m (ahead ++ e :: back) = [e.visit.bus] := by
  cases ahead with
  | nil => exact absurd rfl ha
  | cons x xs =>
    have hx := ho x (by simp)
    have hno : ∀ l : List LaneEntry, (∀ y ∈ l, y ∈ x :: xs ++ back) → l.filter (LaneEntry.isTaken lead m false) = [] := by
      intro l hl
      rw [List.filter_eq_nil_iff]
      intro y hy
      simp [LaneEntry.isTaken, ho y (hl y hy)]
    have he : LaneEntry.isTaken lead m false e = true := by simp [LaneEntry.isTaken, hdue, hask]
    have hh : LaneEntry.isTaken lead m true x = false := by simp [LaneEntry.isTaken, hx]
    simp only [List.cons_append, takenBuses, List.filter_append, List.filter_cons, he, if_true,
      hno xs (fun y hy => by simp [hy]), hno back (fun y hy => by simp [hy])]
    simp [hh]

/-- A due entry behind a bus that is not CALLED is blocked: a pinned one is reported, any other asks for a swap. -/
theorem State.dealDue_of_blocked {s : State} {n : Nat} {l : Lane} {e : LaneEntry} {ahead back : List LaneEntry}
    (hl : s.lanes[n]? = some l) (hle : l.entries = ahead ++ e :: back) (hx : ∃ x ∈ ahead, x.state ≠ .called)
    (hnd : (l.entries.map (fun x => x.visit.bus)).Nodup) :
    State.dealDue n s e.visit.bus = if e.visit.duty.pinned then s.blockRun n e .pinned else s.askSwap n e ahead := by
  have hne : ∀ x ∈ ahead, x.visit.bus ≠ e.visit.bus := by
    intro x hx
    rw [hle, List.map_append, List.nodup_append] at hnd
    exact hnd.2.2 _ (List.mem_map_of_mem hx) _ (by simp)
  have htake : l.entries.takeWhile (fun x => decide (x.visit.bus ≠ e.visit.bus)) = ahead := by
    rw [hle, List.takeWhile_append_of_pos (by simpa using hne)]
    simp
  have hfind : l.entries.find? (fun x => x.visit.bus = e.visit.bus) = some e := by
    rw [hle, List.find?_append, List.find?_eq_none.2 (by simpa using hne)]
    simp
  obtain ⟨x, hxm, hxc⟩ := hx
  have hall : ahead.all (fun x => decide (x.state = .called)) = false := by
    simpa using ⟨x, hxm, hxc⟩
  unfold State.dealDue
  simp only [hl, Option.map_some, htake, hfind]
  cases ahead with
  | nil => simp at hxm
  | cons y ys => simp [hall]

theorem modify_eq_set {α : Type} {l : List α} {n : Nat} {x : α} (h : l[n]? = some x) (f : α → α) :
    l.modify n f = l.set n (f x) := by
  rw [List.modify_eq_set_getElem?, h]
  rfl

theorem State.setAsk_lanes {s : State} {n : Nat} {l : Lane} (hl : s.lanes[n]? = some l) (b : Nat) (a : AskState) :
    (s.setAsk n b a).lanes = s.lanes.set n
      { l with entries := l.entries.map (fun e => if e.visit.bus = b then { e with ask := a } else e) } :=
  modify_eq_set hl _

theorem needOf_eq (ahead : List LaneEntry) :
    needOf ahead = (ahead.map (fun x => if x.visit.duty.state = .bound then x.visit.duty.departure else 1499)).foldl max 0 := by
  rw [List.foldl_map, needOf]
  congr 1
  funext n e
  simp [VisitRecord.departs, VisitRecord.isBound, Config.spareDeparture]

/-- The lanes whose entries are not due stay so where another lane alone changes. -/
theorem State.noneDue_of_set {s t : State} {n k : Nat} {l : Lane} (hk : k ≠ n) (h : s.noneDue k)
    (hl : t.lanes = s.lanes.set n l) (hs : t.steady = s.steady) : t.noneDue k := by
  simp only [State.steady, Prod.mk.injEq] at hs
  obtain ⟨-, hclock, -, -, -, himage, -⟩ := hs
  intro x hx
  rw [hl, List.getElem?_set_ne (Ne.symm hk)] at hx
  simpa [State.image, hclock, himage] using h x hx

end Sys2Proof.Machine

namespace Sys2Proof
open Sys2Proof.Machine

/-- Settles O32: R131 takes the one due entry alone, and deals with it by `State.askSwap` or `State.blockRun`. -/
theorem blockedRunsAskForASwap : Obligations.BlockedRunsAskForASwap := by
  intro s n l e ahead back hlive hl hst hle hparked hbound hdep hask hx hnd hrest hlanes
  have hdue : e.isDue s.image.callLead s.clock.m = true := by
    simp only [LaneEntry.isDue, hparked, callTime, VisitRecord.isBound, hbound]
    simpa using hdep
  have hahead : ahead ≠ [] := by
    obtain ⟨x, hx, -⟩ := hx
    exact List.ne_nil_of_mem hx
  have hcall : s.callLane n = if e.visit.duty.pinned then s.blockRun n e .pinned else s.askSwap n e ahead := by
    rw [← State.dealDue_of_blocked hl hle hx hnd]
    simp only [State.callLane, hl, hst, if_false]
    rw [hle, takenBuses_of_one hahead hdue hask hrest]
    rfl
  have others : ∀ k, k ≠ n → s.noneDue k := fun k hk l' hl' => hlanes k l' hk hl'
  have exec_eq : (∀ k, k ≠ n → (s.callLane n).noneDue k) → exec .callTimeDue s = .next (s.callLane n) := fun h =>
    congrArg Host.Outcome.next ((State.whenMinute_of_live hlive _).trans (State.callTimes_of_one_lane hl others h))
  have set_eq : ∀ l', (s.callLane n).lanes = s.lanes.set n l' → exec .callTimeDue s = .next (s.callLane n) := fun l' hl' =>
    exec_eq (fun k hk => State.noneDue_of_set hk (others k hk) hl' (by simp))
  refine ⟨fun hp hfull => ?_, fun hp hroom hno => ?_, fun hp hrep => ?_⟩
  · have hsame : s.callLane n = s := by
      rw [hcall, hp, if_neg (by simp)]
      rcases State.askSwap_cases n e ahead s with ⟨hf, hi, -⟩ | ⟨-, h⟩
      · rcases hfull with hfull | ⟨i, hi', hk⟩
        · simp [State.outboundFull, hfull] at hf
        · exact absurd hk (by simpa using List.find?_eq_none.1 hi i hi')
      · exact h
    rw [hsame] at exec_eq
    exact exec_eq others
  · have hfull := State.outboundFull_eq_false hroom
    have hitem : s.item? (.swapRun e.visit.duty.run) = none := List.find?_eq_none.2 (by simpa using hno)
    have hask' : s.callLane n = (s.setAsk n e.visit.bus .asking).join (.swap (swapRequestOf e ahead)) none := by
      rw [hcall, hp, if_neg (by simp)]
      simp [State.askSwap, hfull, hitem]
    have hframe := State.join_sansOffers (.swap (swapRequestOf e ahead)) none (s.setAsk n e.visit.bus .asking)
    rw [← hask'] at hframe
    have hset := (State.lanes_of_offers hframe).trans (State.setAsk_lanes hl _ _)
    refine ⟨_, set_eq _ hset, by simp, by simp, hset, fun p => ?_,
      (State.reports_of_offers hframe :), (State.bids_of_offers hframe :), ?_, ?_⟩
    · exact (State.point_of_offers hframe p).trans (by cases p <;> rfl)
    · rw [hask']
      exact State.join_length hfull
    · obtain ⟨i, hi, hready, hjoin, hplace, hcargo⟩ := State.join_item (c := .swap (swapRequestOf e ahead)) (g := none)
        (s := s.setAsk n e.visit.bus .asking) hfull
      rw [← hask'] at hi
      exact ⟨i, hi, hready, hjoin, hplace, hcargo.trans (by rw [swapRequestOf, needOf_eq])⟩
  · have hblock : s.callLane n = s.blockRun n e .pinned := by rw [hcall, hp, if_pos rfl]
    have hset : (s.callLane n).lanes = _ := (congrArg State.lanes hblock).trans
      (State.setAsk_lanes (s := s.report _) (by rw [State.report_lanes]; exact hl) _ _)
    rw [State.report_lanes] at hset
    refine ⟨_, set_eq _ hset, hset, ?_, ?_, ?_⟩ <;> rw [hblock]
    · rfl
    · exact ⟨_, State.mem_report _ s (State.active_of_live hlive), rfl⟩
    · simp only [State.blockRun, State.setAsk, State.modLane, State.setLanes]
      rw [State.report_eq]

end Sys2Proof

namespace Sys2Proof.Machine

open Sys2Proof

/-! ## What the end of an event leaves as it is (R37, R134, R145)

An event on lanes, bids or the open offer ends in `State.settle`: lost heads give up bids and marks, dead swap requests go,
freed heads are tested. All this touches the outbound list, the bids, the offer and the frames, and in the lanes no more than
take marks and which entries are CALLED. -/

/-- What the end of an event may make of a lane entry: it is CALLED, or loses its take mark. -/
structure LaneEntry.Ends (e e' : LaneEntry) : Prop where
  rest : e' = { e with state := e'.state, mark := e'.mark }
  state : e'.state = e.state ∨ e'.state = .called
  mark : e'.mark = e.mark ∨ e'.mark = none

theorem LaneEntry.Ends.refl (e : LaneEntry) : e.Ends e := ⟨rfl, .inl rfl, .inl rfl⟩

theorem LaneEntry.Ends.trans {a b c : LaneEntry} (h : a.Ends b) (h' : b.Ends c) : a.Ends c := by
  refine ⟨h'.rest.trans (by rw [h.rest]), ?_, ?_⟩
  · rcases h'.state with e | e
    · rw [e]; exact h.state
    · exact .inr e
  · rcases h'.mark with e | e
    · rw [e]; exact h.mark
    · exact .inr e

/-- What the end of an event may make of a lane. -/
structure Lane.Ends (l l' : Lane) : Prop where
  rest : l' = { l with entries := l'.entries }
  entries : List.Forall₂ LaneEntry.Ends l.entries l'.entries

theorem forall₂_trans {α : Type} {R : α → α → Prop} (hR : ∀ a b c, R a b → R b c → R a c) {l m n : List α}
    (h : List.Forall₂ R l m) (h' : List.Forall₂ R m n) : List.Forall₂ R l n := by
  induction h generalizing n with
  | nil => exact h'
  | cons hab _ ih =>
    cases h' with
    | cons hbc ht => exact .cons (hR _ _ _ hab hbc) (ih ht)

theorem exists_of_forall₂_right {α : Type} {R : α → α → Prop} {l m : List α} (h : List.Forall₂ R l m) {b : α} (hb : b ∈ m) :
    ∃ a ∈ l, R a b := by
  induction h with
  | nil => simp at hb
  | @cons x y _ _ hxy _ ih =>
    rcases List.mem_cons.1 hb with rfl | hb
    · exact ⟨x, by simp, hxy⟩
    · obtain ⟨a, ha, hab⟩ := ih hb
      exact ⟨a, List.mem_cons_of_mem x ha, hab⟩

theorem exists_of_forall₂_left {α : Type} {R : α → α → Prop} {l m : List α} (h : List.Forall₂ R l m) {a : α} (ha : a ∈ l) :
    ∃ b ∈ m, R a b :=
  exists_of_forall₂_right h.flip ha

theorem forall₂_map_right {α : Type} {R : α → α → Prop} {f : α → α} (h : ∀ a, R a (f a)) (l : List α) :
    List.Forall₂ R l (l.map f) := by
  rw [List.forall₂_map_right_iff]
  exact List.forall₂_same.2 (fun a _ => h a)

theorem Lane.Ends.refl (l : Lane) : l.Ends l := ⟨rfl, List.forall₂_same.2 (fun e _ => .refl e)⟩

theorem Lane.Ends.trans {a b c : Lane} (h : a.Ends b) (h' : b.Ends c) : a.Ends c :=
  ⟨h'.rest.trans (by rw [h.rest]), forall₂_trans (R := LaneEntry.Ends) (fun _ _ _ => LaneEntry.Ends.trans) h.entries h'.entries⟩

theorem Lane.Ends.of_map {g : LaneEntry → LaneEntry} (h : ∀ e : LaneEntry, e.Ends (g e)) (l : Lane) :
    l.Ends { l with entries := l.entries.map g } := ⟨rfl, forall₂_map_right h _⟩

/-- The node with all blanked that the end of an event may change, the lanes among it. -/
def State.sansHeads (s : State) : State :=
  { s with
    hand := { outbound := [], joins := s.hand.joins, offer := none, counter := 0, bids := [] }
    lanes := []
    line := { s.line with transmit := [], nextOrder := 0 }
    loader := { s.loader with retryAtQuiet := false }
    field := { s.field with lamps := Vector.replicate 6 .dark } }

/-- What the end of an event may make of a node. -/
structure State.Ends (s t : State) : Prop where
  rest : t.sansHeads = s.sansHeads
  lanes : List.Forall₂ Lane.Ends s.lanes t.lanes

theorem State.Ends.refl (s : State) : s.Ends s := ⟨rfl, List.forall₂_same.2 (fun l _ => .refl l)⟩

theorem State.Ends.trans {s t u : State} (h : s.Ends t) (h' : t.Ends u) : s.Ends u :=
  ⟨h'.rest.trans h.rest, forall₂_trans (R := Lane.Ends) (fun _ _ _ => Lane.Ends.trans) h.lanes h'.lanes⟩

theorem State.Ends.setLanes {s : State} {lanes : List Lane} (h : List.Forall₂ Lane.Ends s.lanes lanes) :
    s.Ends (s.setLanes lanes) := ⟨rfl, h⟩

theorem State.Ends.mapLanes {s : State} {f : Lane → Lane} (h : ∀ l : Lane, l.Ends (f l)) : s.Ends (s.setLanes (s.lanes.map f)) :=
  .setLanes (forall₂_map_right h _)

theorem State.Ends.modLane {s : State} {n : Nat} {f : Lane → Lane} (h : ∀ l : Lane, l.Ends (f l)) : s.Ends (s.modLane n f) := by
  refine .setLanes ?_
  generalize s.lanes = lanes
  induction lanes generalizing n with
  | nil => simp
  | cons x xs ih =>
    cases n with
    | zero => exact .cons (h x) (List.forall₂_same.2 (fun l _ => .refl l))
    | succ n => exact .cons (.refl x) ih

/-- A joins-keeping operation on offers and frames. -/
theorem State.Ends.of_offers {s t : State} (h : t.sansOffers = s.sansOffers) (hj : t.hand.joins = s.hand.joins) : s.Ends t := by
  refine ⟨?_, by rw [State.lanes_of_offers h]; exact List.forall₂_same.2 (fun l _ => .refl l)⟩
  have hpart : ∀ u : State, u.sansHeads = { u.sansOffers with
      hand := { outbound := [], joins := u.hand.joins, offer := none, counter := 0, bids := [] }
      lanes := []
      field := { u.field with lamps := Vector.replicate 6 .dark } } := fun _ => rfl
  rw [hpart t, hpart s, h, hj, State.field_of_offers h]

theorem State.send_ends (b : FrameBody) (s : State) : s.Ends (s.send b) :=
  .of_offers (State.send_sansOffers b s) (by rw [State.send_hand])

theorem State.startOffer_joins (it : OutItem) (s : State) : (s.startOffer it).hand.joins = s.hand.joins := by
  rcases State.startOffer_cases it s with ⟨-, e⟩ | ⟨-, e⟩ <;> rw [e]
  · rw [State.send_hand]; rfl
  · rfl

theorem State.placeReoffer_joins (o : OpenOffer) (s : State) : (s.placeReoffer o).hand.joins = s.hand.joins := by
  unfold State.placeReoffer
  split
  · rfl
  · dsimp only
    split
    · rw [State.send_hand]; rfl
    · rfl

theorem State.offerTest_joins (s : State) : s.offerTest.hand.joins = s.hand.joins := by
  rcases State.offerTest_cases s with e | ⟨-, o, -, -, -, e⟩ | ⟨-, -, it, rest, -, -, e⟩ <;> rw [e]
  · exact State.placeReoffer_joins o s
  · exact State.startOffer_joins it s

theorem State.offerTest_ends (s : State) : s.Ends s.offerTest :=
  .of_offers (State.offerTest_sansOffers s) (State.offerTest_joins s)

theorem State.cancelOffer_joins (k : ItemKey) (s : State) : (s.cancelOffer k).hand.joins = s.hand.joins := by
  unfold State.cancelOffer
  repeat' split
  all_goals rfl

theorem State.dropRuns_joins (s : State) (runs : List Nat) : (s.dropRuns runs).hand.joins = s.hand.joins :=
  foldl_keeps (fun u : State => u.hand.joins)
    (fun t r => (t.cancelOffer (.swapRun r)).removeItem (.swapRun r)) (fun t r => State.cancelOffer_joins (.swapRun r) t) runs s

theorem State.withdrawSwaps_ends (s : State) : s.Ends s.withdrawSwaps := by
  refine .of_offers (State.withdrawSwaps_sansOffers s) ?_
  rcases State.withdrawSwaps_cases s with ⟨-, e⟩ | ⟨-, e⟩ <;> rw [e]
  rw [State.offerTest_joins, State.dropRuns_joins]

theorem State.removeBids_ends (s : State) (l : List BidEntry) : s.Ends (s.removeBids l) := by
  have hone : ∀ (t : State) (e : BidEntry), t.Ends (t.removeBid e.tag) := fun t e =>
    ⟨rfl, List.forall₂_same.2 (fun l _ => .refl l)⟩
  induction l generalizing s with
  | nil => exact .refl s
  | cons e l ih => exact (hone s e).trans (ih _)

theorem Lane.markHeadOnly_ends (l : Lane) : l.Ends l.markHeadOnly := by
  obtain ⟨st, entries, o⟩ := l
  refine ⟨rfl, ?_⟩
  cases entries with
  | nil => exact .nil
  | cons e es => exact .cons (.refl e) (forall₂_map_right (fun x => ⟨rfl, .inl rfl, .inr rfl⟩) _)

theorem State.dropLostHeads_ends (s : State) : s.Ends s.dropLostHeads := by
  rcases State.dropLostHeads_cases s with ⟨-, e⟩ | e <;> rw [e]
  · exact State.removeBids_ends s _
  · have hl : (s.removeBids s.lostBids).lanes = s.lanes := State.foldl_removeBid_lanes _ s
    refine (State.removeBids_ends s s.lostBids).trans ?_
    rw [← hl]
    exact .mapLanes Lane.markHeadOnly_ends

theorem State.callEntry_ends (n : Nat) (e : LaneEntry) (s : State) : s.Ends (s.callEntry n e) := by
  refine ((State.Ends.modLane (fun l => Lane.Ends.of_map (fun x => ?_) l)).trans (State.send_ends _ _)).trans
    (State.withdrawSwaps_ends _)
  split
  · exact ⟨rfl, .inr rfl, .inl rfl⟩
  · exact .refl x

theorem State.headTest_ends (n : Nat) (s : State) : s.Ends (s.headTest n) := by
  rcases State.headTest_cases n s with e | ⟨-, -, e, -, -, eq⟩
  · rw [e]; exact .refl s
  · rw [eq]; exact State.callEntry_ends n e s

/-- What holds after the withdrawals and is kept by the tests of heads holds at the end of an event. -/
theorem State.settle_induction {P : State → Prop} {before s : State} (h : P s.dropLostHeads.withdrawSwaps)
    (hstep : ∀ t n, P t → P (t.headTest n)) : P (State.settle before s) := by
  unfold State.settle
  refine List.foldlRecOn (motive := P) _ _ h (fun t ht n _ => ?_)
  split
  · exact hstep t n ht
  · exact ht

theorem State.settle_ends (before s : State) : s.Ends (State.settle before s) :=
  State.settle_induction ((State.dropLostHeads_ends s).trans (State.withdrawSwaps_ends _))
    (fun t n ht => ht.trans (State.headTest_ends n t))

/-! ### The fields read off -/

section
variable {s t : State} (h : s.Ends t)
include h

theorem State.Ends.point (p : PointId) : t.point p = s.point p := by
  have h0 := congrArg State.point0 h.rest
  have h1 := congrArg State.point1 h.rest
  cases p
  exacts [h0, h1]

theorem State.Ends.reports : t.loader.reports = s.loader.reports := (congrArg (fun u : State => u.loader.reports) h.rest :)
theorem State.Ends.clock : t.clock = s.clock := (congrArg State.clock h.rest :)
theorem State.Ends.image : t.image = s.image := (congrArg (fun u : State => u.loader.image) h.rest :)
theorem State.Ends.joins : t.hand.joins = s.hand.joins := (congrArg (fun u : State => u.hand.joins) h.rest :)
theorem State.Ends.inService : t.inService = s.inService := (congrArg State.inService h.rest :)
theorem State.Ends.active : t.active = s.active := (congrArg State.active h.rest :)
theorem State.Ends.address : t.loader.address = s.loader.address := (congrArg (fun u : State => u.loader.address) h.rest :)
theorem State.Ends.codes : t.field.codes = s.field.codes := (congrArg (fun u : State => u.field.codes) h.rest :)
theorem State.Ends.guide (g : GuidePlace) : t.guide g = s.guide g := by
  have hg : ∀ u : State, u.sansHeads.guide g = u.guide g := fun u => by
    cases g with
    | gate => rfl
    | point p => cases p <;> rfl
  rw [← hg t, h.rest, hg]

/-- An entry of a lane at the end of an event is one that stood there, CALLED or without its mark perhaps. -/
theorem State.Ends.mem_laneEntries {x : LaneEntry} (hx : x ∈ t.laneEntries) : ∃ y ∈ s.laneEntries, y.Ends x := by
  obtain ⟨l', hl', hx⟩ := List.mem_flatMap.1 hx
  obtain ⟨l, hl, hll⟩ := exists_of_forall₂_right h.lanes hl'
  obtain ⟨y, hy, hyx⟩ := exists_of_forall₂_right hll.entries hx
  exact ⟨y, List.mem_flatMap.2 ⟨l, hl, hy⟩, hyx⟩

/-- Every lane entry stands at the end of an event, CALLED or without its mark perhaps. -/
theorem State.Ends.laneEntries_mem {x : LaneEntry} (hx : x ∈ s.laneEntries) : ∃ y ∈ t.laneEntries, x.Ends y := by
  obtain ⟨l, hl, hx⟩ := List.mem_flatMap.1 hx
  obtain ⟨l', hl', hll⟩ := exists_of_forall₂_left h.lanes hl
  obtain ⟨y, hy, hxy⟩ := exists_of_forall₂_left hll.entries hx
  exact ⟨y, List.mem_flatMap.2 ⟨l', hl', hy⟩, hxy⟩

end

end Sys2Proof.Machine

namespace Sys2Proof.Machine

open Sys2Proof

/-! ## The test of R23 and the withdrawals where no re-offer is owed (R23, R37) -/

/-- What the start of an offer may make of an outbound item (R23). -/
def OutItem.Offered (i i' : OutItem) : Prop := i' = i ∨ i' = { i with offerCount := 1 }

theorem OutItem.Offered.trans {a b c : OutItem} (h : a.Offered b) (h' : b.Offered c) : a.Offered c := by
  rcases h with rfl | rfl
  · exact h'
  · rcases h' with rfl | rfl <;> exact .inr rfl

theorem OutItem.Offered.key {i i' : OutItem} (h : i.Offered i') : i'.key = i.key := by
  rcases h with rfl | rfl <;> rfl

theorem OutItem.key_of_visit {i : OutItem} {r : VisitRecord} (h : i.cargo = .visit r) : i.key = .bus r.bus := by
  rw [OutItem.key_eq, h]; rfl

/-- What tests of R23 and withdrawals of swap requests, with the bids they take away, make of the outbound list, the open
offer and the frames of a node that owes no re-offer. -/
structure State.Tests (s t : State) : Prop where
  clock : t.clock = s.clock
  owes : t.owesReoffer = false
  keys : t.keys.Subperm s.keys
  from_ : ∀ i' ∈ t.hand.outbound, ∃ i ∈ s.hand.outbound, i.Offered i'
  opened : ∀ i ∈ s.hand.outbound, ∀ r, i.cargo = .visit r → i ∈ t.hand.outbound ∨
    ({ i with offerCount := 1 } ∈ t.hand.outbound ∧ ∃ o, t.hand.offer = some o ∧ o.key = i.key)
  late : s.keys.Nodup → ∀ i ∈ s.hand.outbound, ∀ r, i.cargo = .visit r → s.clock.m < i.ready → i ∈ t.hand.outbound
  offer : ∀ o b, s.hand.offer = some o → o.key = .bus b → t.hand.offer = some o ∧ t.hand.counter = s.hand.counter
  held : ∀ o b, s.hand.offer = some o → o.key = .bus b → ∀ i ∈ s.hand.outbound, ∀ r, i.cargo = .visit r → i ∈ t.hand.outbound
  frames : ∀ o b, s.hand.offer = some o → o.key = .bus b → ∀ x ∈ s.line.transmit, x.body.isOffer = true → x ∈ t.line.transmit

/-- The item of a record stays, offered by one of the tests perhaps. -/
theorem State.Tests.kept {s t : State} (h : s.Tests t) {i : OutItem} (hi : i ∈ s.hand.outbound) {r : VisitRecord}
    (hr : i.cargo = .visit r) : ∃ i' ∈ t.hand.outbound, i.Offered i' := by
  rcases h.opened i hi r hr with hmem | ⟨hmem, -⟩
  · exact ⟨i, hmem, .inl rfl⟩
  · exact ⟨_, hmem, .inr rfl⟩

theorem nodup_of_subperm {α : Type} {l m : List α} (h : l.Subperm m) (hm : m.Nodup) : l.Nodup := by
  classical
  rw [List.nodup_iff_count_le_one] at hm ⊢
  exact fun a => (h.count_le a).trans (hm a)

theorem OutItem.Offered.visit {i i' : OutItem} {r : VisitRecord} (h : i.Offered i') (hc : i.cargo = .visit r) :
    i'.cargo = .visit r := by
  rcases h with rfl | rfl <;> exact hc

theorem State.Tests.refl {s : State} (h : s.owesReoffer = false) : s.Tests s :=
  ⟨rfl, h, .refl _, fun i hi => ⟨i, hi, .inl rfl⟩, fun _ hi _ _ => .inl hi, fun _ _ hi _ _ _ => hi,
    fun _ _ ho _ => ⟨ho, rfl⟩, fun _ _ _ _ _ hi _ _ => hi, fun _ _ _ _ _ hx _ => hx⟩

theorem State.Tests.trans {s t u : State} (h : s.Tests t) (h' : t.Tests u) : s.Tests u where
  clock := h'.clock.trans h.clock
  owes := h'.owes
  keys := h'.keys.trans h.keys
  from_ := fun i hi => by
    obtain ⟨j, hj, hij⟩ := h'.from_ i hi
    obtain ⟨k, hk, hjk⟩ := h.from_ j hj
    exact ⟨k, hk, hjk.trans hij⟩
  opened := fun i hi r hr => by
    rcases h.opened i hi r hr with hi' | ⟨hi', o, ho, hk⟩
    · exact h'.opened i hi' r hr
    · have hb : o.key = .bus r.bus := by rw [hk, OutItem.key_of_visit hr]
      exact .inr ⟨h'.held o _ ho hb _ hi' r hr, o, (h'.offer o _ ho hb).1, hk⟩
  late := fun hn i hi r hr hm =>
    h'.late (nodup_of_subperm h.keys hn) i (h.late hn i hi r hr hm) r hr (by rw [h.clock]; exact hm)
  offer := fun o b ho hb => by
    obtain ⟨hoff, hcount⟩ := h.offer o b ho hb
    obtain ⟨hoff', hcount'⟩ := h'.offer o b hoff hb
    exact ⟨hoff', hcount'.trans hcount⟩
  held := fun o b ho hb i hi r hr => h'.held o b (h.offer o b ho hb).1 hb i (h.held o b ho hb i hi r hr) r hr
  frames := fun o b ho hb x hx hk => h'.frames o b (h.offer o b ho hb).1 hb x (h.frames o b ho hb x hx hk) hk

/-- An operation that leaves clock, outbound list, offer and OFFER frames. -/
theorem State.Tests.of_same {s t : State} (h : s.owesReoffer = false) (hc : t.clock = s.clock)
    (hh : t.hand.outbound = s.hand.outbound) (ho : t.hand.offer = s.hand.offer) (hn : t.hand.counter = s.hand.counter)
    (hx : ∀ x ∈ s.line.transmit, x.body.isOffer = true → x ∈ t.line.transmit) : s.Tests t where
  clock := hc
  owes := by rw [State.owesReoffer, ho]; exact h
  keys := by rw [State.keys, hh]; exact .refl _
  from_ := fun i hi => ⟨i, hh ▸ hi, .inl rfl⟩
  opened := fun i hi _ _ => .inl (hh ▸ hi)
  late := fun _ i hi _ _ _ => hh ▸ hi
  offer := fun o b h _ => ⟨ho.trans h, hn⟩
  held := fun _ _ _ _ i hi _ _ => hh ▸ hi
  frames := fun _ _ _ _ x hx' hk => hx x hx' hk

theorem TxFrame.displaceable_of_offer {f : TxFrame} (h : f.body.isOffer = true) : f.displaceable = false := by
  obtain ⟨b, d, o, m, sd⟩ := f
  cases b <;> simp [FrameBody.isOffer] at h
  simp [TxFrame.displaceable, TxFrame.cls, FrameBody.kind, FrameKind.cls]

theorem State.place_tests (b : FrameBody) (d : Nat) {s : State} (h : s.owesReoffer = false) : s.Tests (s.place b d) := by
  have heq := State.place_eq b d s
  refine .of_same h ?_ ?_ ?_ ?_ (fun x hx hk => State.place_keeps hx (TxFrame.displaceable_of_offer hk)) <;> rw [heq]

theorem State.send_tests (b : FrameBody) {s : State} (h : s.owesReoffer = false) : s.Tests (s.send b) := State.place_tests b _ h

/-- The start of the head's offer. -/
theorem State.startOffer_tests {s : State} {it : OutItem} {rest : List OutItem} (ho : s.hand.offer = none)
    (hl : s.hand.outbound = it :: rest) (hr : it.ready ≤ s.clock.m) : s.Tests (s.startOffer it) := by
  have hnone : ∀ o b, s.hand.offer = some o → o.key = .bus b → False := fun o b h _ => by simp [ho] at h
  have hspent : s.Tests s.takeNumber :=
    ⟨rfl, by simp [State.owesReoffer, State.takeNumber, ho], .refl _, fun i hi => ⟨i, hi, .inl rfl⟩,
      fun _ hi _ _ => .inl hi, fun _ i hi _ _ _ => hi, fun o b h hb => (hnone o b h hb).elim,
      fun o b h hb => (hnone o b h hb).elim, fun o b h hb => (hnone o b h hb).elim⟩
  rcases State.startOffer_cases it s with ⟨-, e⟩ | ⟨-, e⟩ <;> rw [e]
  swap
  · exact hspent
  refine State.Tests.trans ?_ (State.send_tests _ (by simp [State.owesReoffer, State.setOffer]))
  have hmem : ∀ j, j ∈ (s.takeNumber.modItem it.key (fun i => { i with offerCount := 1 })).hand.outbound ↔
      ∃ i ∈ s.hand.outbound, j = if i.key = it.key then { i with offerCount := 1 } else i := fun j =>
    State.mem_modItem (s := s.takeNumber)
  refine ⟨rfl, by simp [State.owesReoffer, State.setOffer], ?_, fun j hj => ?_, fun i hi r _ => ?_, fun hn i hi r _ hm => ?_,
    fun o b h hb => (hnone o b h hb).elim, fun o b h hb => (hnone o b h hb).elim, fun o b h hb => (hnone o b h hb).elim⟩
  · exact (State.modItem_keys (s := s.takeNumber) (f := fun i => { i with offerCount := 1 }) (fun _ _ h => h)).subperm
  · obtain ⟨i, hi, rfl⟩ := (hmem j).1 hj
    refine ⟨i, hi, ?_⟩
    split
    · exact .inr rfl
    · exact .inl rfl
  · by_cases hk : i.key = it.key
    · exact .inr ⟨(hmem _).2 ⟨i, hi, (if_pos hk).symm⟩, _, rfl, hk.symm⟩
    · exact .inl ((hmem _).2 ⟨i, hi, (if_neg hk).symm⟩)
  · refine (hmem _).2 ⟨i, hi, ?_⟩
    have hne : i.key ≠ it.key := by
      intro hk
      obtain rfl : i = it := List.inj_on_of_nodup_map hn hi (by rw [hl]; simp) hk
      omega
    rw [if_neg hne]

theorem State.offerTest_tests {s : State} (h : s.owesReoffer = false) : s.Tests s.offerTest := by
  rcases State.offerTest_cases s with e | ⟨-, o, ho, hp, hn, -⟩ | ⟨-, ho, it, rest, hl, hr, e⟩
  · rw [e]; exact .refl h
  · simp [State.owesReoffer, ho, hp, hn] at h
  · rw [e]; exact State.startOffer_tests ho hl hr

/-- The requests of some runs taken out. -/
theorem State.dropRuns_tests (runs : List Nat) : ∀ {s : State}, s.owesReoffer = false → s.Tests (s.dropRuns runs) := by
  induction runs with
  | nil => exact fun h => .refl h
  | cons r runs ih =>
    intro s h
    rw [State.dropRuns_cons]
    have hone : s.Tests ((s.cancelOffer (.swapRun r)).removeItem (.swapRun r)) := by
      have hout : (s.cancelOffer (.swapRun r)).hand.outbound = s.hand.outbound := by
        unfold State.cancelOffer
        repeat' split
        all_goals rfl
      have hother : ∀ o b, s.hand.offer = some o → o.key = .bus b → s.cancelOffer (.swapRun r) = s := by
        intro o b ho hb
        simp [State.cancelOffer, ho, hb]
      have hmem : ∀ j, j ∈ ((s.cancelOffer (.swapRun r)).removeItem (.swapRun r)).hand.outbound ↔
          j ∈ s.hand.outbound ∧ j.key ≠ .swapRun r := fun j => by rw [State.mem_removeItem, hout]
      have hvisit : ∀ j : OutItem, ∀ v, j.cargo = .visit v → j.key ≠ .swapRun r := fun j v hv => by
        simp [OutItem.key_eq, hv, Cargo.key]
      refine ⟨?_, ?_, ?_, fun i hi => ⟨i, ((hmem i).1 hi).1, .inl rfl⟩,
        fun i hi v hv => .inl ((hmem i).2 ⟨hi, hvisit i v hv⟩),
        fun _ i hi v hv _ => (hmem i).2 ⟨hi, hvisit i v hv⟩, fun o b ho hb => ?_,
        fun _ _ _ _ i hi v hv => (hmem i).2 ⟨hi, hvisit i v hv⟩, fun o b ho hb x hx _ => ?_⟩
      · unfold State.cancelOffer
        repeat' split
        all_goals rfl
      · unfold State.cancelOffer
        repeat' split
        · rfl
        · exact h
        · exact h
      · have hsub := ((List.filter_sublist (p := fun i : OutItem => decide (i.key ≠ .swapRun r))
          (l := (s.cancelOffer (.swapRun r)).hand.outbound)).map OutItem.key).subperm
        have hkeys : (s.cancelOffer (.swapRun r)).hand.outbound.map OutItem.key = s.keys := by rw [hout]; rfl
        rwa [hkeys] at hsub
      · rw [hother o b ho hb]; exact ⟨ho, rfl⟩
      · rw [hother o b ho hb]; exact hx
    exact hone.trans (ih hone.owes)

theorem State.withdrawSwaps_tests {s : State} (h : s.owesReoffer = false) : s.Tests s.withdrawSwaps := by
  rcases State.withdrawSwaps_cases s with ⟨-, e⟩ | ⟨-, e⟩ <;> rw [e]
  · exact .refl h
  · have hd := State.dropRuns_tests s.deadSwaps h
    exact hd.trans (State.offerTest_tests hd.owes)

theorem State.removeBid_tests (tag : Tag) {s : State} (h : s.owesReoffer = false) : s.Tests (s.removeBid tag) := by
  refine .of_same h rfl rfl rfl rfl (fun x hx hk => State.mem_dropFrames.2 ⟨hx, .inr ?_⟩)
  cases hb : x.body <;> simp [hb, FrameBody.isOffer] at hk
  rfl

theorem State.removeBids_tests (l : List BidEntry) : ∀ {s : State}, s.owesReoffer = false → s.Tests (s.removeBids l) := by
  induction l with
  | nil => exact fun h => .refl h
  | cons e l ih =>
    intro s h
    have hone := State.removeBid_tests e.tag h
    exact hone.trans (ih hone.owes)

/-- Lanes and lamps apart, nothing changes. -/
theorem State.setLanes_tests (lanes : List Lane) {s : State} (h : s.owesReoffer = false) : s.Tests (s.setLanes lanes) :=
  .of_same h rfl rfl rfl rfl (fun _ hx _ => hx)

theorem State.dropLostHeads_tests {s : State} (h : s.owesReoffer = false) : s.Tests s.dropLostHeads := by
  have hb := State.removeBids_tests s.lostBids h
  rcases State.dropLostHeads_cases s with ⟨-, e⟩ | e <;> rw [e]
  · exact hb
  · exact hb.trans (State.setLanes_tests _ hb.owes)

theorem State.callEntry_tests (n : Nat) (e : LaneEntry) {s : State} (h : s.owesReoffer = false) : s.Tests (s.callEntry n e) := by
  have hl := State.setLanes_tests (s.lanes.modify n (fun l => { l with
    entries := l.entries.map (fun x => if x.visit.bus = e.visit.bus then { x with state := .called } else x) })) h
  have hs := hl.trans (State.send_tests (.call e.visit.duty.run e.visit.bus n e.visit.duty.departure e.visit.duty.substituted)
    hl.owes)
  exact hs.trans (State.withdrawSwaps_tests hs.owes)

theorem State.headTest_tests (n : Nat) {s : State} (h : s.owesReoffer = false) : s.Tests (s.headTest n) := by
  rcases State.headTest_cases n s with e | ⟨-, -, e, -, -, eq⟩
  · rw [e]; exact .refl h
  · rw [eq]; exact State.callEntry_tests n e h

/-- The end of an event at a node that owes no re-offer. -/
theorem State.settle_tests (before : State) {s : State} (h : s.owesReoffer = false) : s.Tests (State.settle before s) := by
  have hd := State.dropLostHeads_tests h
  exact State.settle_induction (P := s.Tests) (hd.trans (State.withdrawSwaps_tests hd.owes))
    (fun t n ht => ht.trans (State.headTest_tests n ht.owes))

end Sys2Proof.Machine

namespace Sys2Proof.Machine

open Sys2Proof

/-! ## The best TAKE heard (R27) -/

theorem betterBid_iff (a b : Nat × Nat) : betterBid a b = true ↔ a.1 < b.1 ∨ (a.1 = b.1 ∧ a.2 < b.2) := by
  simp [betterBid]

/-- The TAKE a fold of comparisons ends with is one of those heard, and none of them is better. -/
theorem foldl_betterTake_spec (l : List HeardTake) : ∀ a, (l.foldl betterTake a = a ∨ l.foldl betterTake a ∈ l) ∧
    ∀ x, x = a ∨ x ∈ l → betterBid (x.value, x.source) ((l.foldl betterTake a).value, (l.foldl betterTake a).source) = false := by
  have irrefl : ∀ p : Nat × Nat, betterBid p p = false := fun p => by
    rw [Bool.eq_false_iff, ne_eq, betterBid_iff]; omega
  induction l with
  | nil => exact fun a => ⟨.inl rfl, fun x hx => by simp at hx; rw [hx]; exact irrefl _⟩
  | cons b l ih =>
    intro a
    obtain ⟨hmem, hbest⟩ := ih (betterTake a b)
    rw [List.foldl_cons]
    have hor : betterTake a b = a ∨ betterTake a b = b := by
      unfold betterTake
      split
      · exact .inr rfl
      · exact .inl rfl
    refine ⟨?_, fun x hx => ?_⟩
    · rcases hmem with h | h
      · rw [h]
        rcases hor with h | h <;> simp [h]
      · exact .inr (List.mem_cons_of_mem b h)
    · have hb := hbest (betterTake a b) (.inl rfl)
      generalize l.foldl betterTake (betterTake a b) = r at hb hbest ⊢
      have hx' : x = a ∨ x = b ∨ x ∈ l := by simpa using hx
      rcases hx' with rfl | rfl | hx
      · unfold betterTake at hb
        rw [Bool.eq_false_iff, ne_eq, betterBid_iff] at *
        split at hb
        · next h => rw [betterBid_iff] at h; simp only at *; omega
        · exact hb
      · unfold betterTake at hb
        rw [Bool.eq_false_iff, ne_eq, betterBid_iff] at *
        split at hb
        · exact hb
        · next h => rw [betterBid_iff] at h; simp only at *; omega
      · exact hbest x (.inr hx)

/-- A TAKE better than every other one heard is the best. -/
theorem bestTake_eq {l : List HeardTake} {k : HeardTake} (hk : k ∈ l)
    (h : ∀ k' ∈ l, k.value < k'.value ∨ (k.value = k'.value ∧ k.source < k'.source) ∨ k = k') : bestTake l = some k := by
  cases l with
  | nil => simp at hk
  | cons a l =>
    obtain ⟨hmem, hbest⟩ := foldl_betterTake_spec l a
    have hr := h (l.foldl betterTake a) (by rcases hmem with e | e <;> simp [e])
    have hb := hbest k (by simpa using hk)
    rw [Bool.eq_false_iff, ne_eq, betterBid_iff] at hb
    rcases hr with e | e | e
    · simp only at hb; omega
    · simp only at hb; omega
    · rw [bestTake, e]

/-! ## The commit (R27) -/

theorem State.whenActive_of_active {s : State} (h : s.active = true) (f : State → State) : s.whenActive f = f s := by
  simp [State.whenActive, h]

/-- The outbound list without the item, the offer closed, its waiting OFFERs gone. -/
def State.closeOffer (k : ItemKey) (s : State) : State := State.dropFrames FrameBody.isOffer ((s.removeItem k).setOffer none)

theorem State.commit_of_visit {s : State} {o : OpenOffer} {it : OutItem} {r : VisitRecord} (hi : s.item? o.key = some it)
    (hc : it.cargo = .visit r) (k : HeardTake) : s.commit o k = ((s.closeOffer o.key).showTaker it k).offerTest := by
  simp only [State.commit, hi, hc]; rfl

theorem State.showTaker_of_visit {it : OutItem} {r : VisitRecord} (hc : it.cargo = .visit r) (k : HeardTake) (s : State) :
    s.showTaker it k = match it.place with
      | some place => s.setGuide place (.destination k.source k.resource) (some r.bus)
      | none => s := by
  unfold State.showTaker
  cases it.place <;> simp [hc]

theorem State.setGuide_tests (g : GuidePlace) (c : Guide) (b : Option Nat) {s : State} (h : s.owesReoffer = false) :
    s.Tests (s.setGuide g c b) := by
  rw [State.setGuide_eq]
  exact .of_same h rfl rfl rfl rfl (fun _ hx _ => hx)

theorem State.showTaker_tests (it : OutItem) (k : HeardTake) {s : State} (h : s.owesReoffer = false) :
    s.Tests (s.showTaker it k) := by
  unfold State.showTaker
  split
  · exact State.setGuide_tests _ _ _ h
  · exact .refl h

theorem State.closeOffer_owes (k : ItemKey) (s : State) : (s.closeOffer k).owesReoffer = false := rfl

/-- No item of the key is left once an offer is closed with its item and tests and withdrawals follow. -/
theorem State.Tests.no_key {s t : State} {k : ItemKey} (h : (s.closeOffer k).Tests t) : ∀ i ∈ t.hand.outbound, i.key ≠ k := by
  intro i hi
  obtain ⟨j, hj, hij⟩ := h.from_ i hi
  rw [hij.key]
  exact (State.mem_removeItem.1 (show j ∈ (s.removeItem k).hand.outbound from hj)).2

/-- The item found by its name, where names are apart. -/
theorem State.item?_of_mem {s : State} (hn : s.keys.Nodup) {i : OutItem} (hi : i ∈ s.hand.outbound) :
    s.item? i.key = some i := by
  cases h : s.item? i.key with
  | none => exact absurd (List.find?_eq_none.1 h i hi) (by simp)
  | some j =>
    obtain ⟨hj, hk⟩ := State.item?_spec h
    rw [List.inj_on_of_nodup_map hn hj hi hk]

end Sys2Proof.Machine

namespace Sys2Proof.Machine

open Sys2Proof

/-! ## The ends of the node's own windows (R25 to R29) -/

theorem State.item?_modItem {s : State} {k : ItemKey} {i : OutItem} {f : OutItem → OutItem} (hn : s.keys.Nodup)
    (hf : ∀ i, i.key = k → (f i).key = k) (hi : s.item? k = some i) : (s.modItem k f).item? k = some (f i) := by
  obtain ⟨hmem, hk⟩ := State.item?_spec hi
  have hn' := ((State.modItem_keys (s := s) (f := f) (fun i _ => hf i)).nodup_iff).2 hn
  have hmem' : f i ∈ (s.modItem k f).hand.outbound := State.mem_modItem.2 ⟨i, hmem, by rw [if_pos hk]⟩
  simpa [hf i hk] using State.item?_of_mem hn' hmem'

/-- The item of an open offer of a bus after tests and withdrawals: unchanged. -/
theorem State.Tests.item?_held {s t : State} {o : OpenOffer} {b : Nat} {k : ItemKey} {i : OutItem} {r : VisitRecord}
    (h : s.Tests t) (hn : s.keys.Nodup) (ho : s.hand.offer = some o) (hb : o.key = .bus b) (hi : s.item? k = some i)
    (hc : i.cargo = .visit r) : t.item? k = some i := by
  obtain ⟨hmem, hk⟩ := State.item?_spec hi
  rw [← hk]
  exact State.item?_of_mem (nodup_of_subperm h.keys hn) (h.held o b ho hb i hmem r hc)

/-- The item of a record after tests and withdrawals: itself, or offered by one of them. -/
theorem State.Tests.item?_kept {s t : State} {k : ItemKey} {i : OutItem} {r : VisitRecord} (h : s.Tests t)
    (hn : s.keys.Nodup) (hi : s.item? k = some i) (hc : i.cargo = .visit r) : ∃ i', t.item? k = some i' ∧ i.Offered i' := by
  obtain ⟨hmem, hk⟩ := State.item?_spec hi
  obtain ⟨i', hmem', hoff⟩ := h.kept hmem hc
  refine ⟨i', ?_, hoff⟩
  rw [← hk, ← hoff.key]
  exact State.item?_of_mem (nodup_of_subperm h.keys hn) hmem'

/-- The item of a record that is not ready, after tests and withdrawals: unchanged. -/
theorem State.Tests.item?_late {s t : State} {k : ItemKey} {i : OutItem} {r : VisitRecord} (h : s.Tests t)
    (hn : s.keys.Nodup) (hi : s.item? k = some i) (hc : i.cargo = .visit r) (hm : s.clock.m < i.ready) :
    t.item? k = some i := by
  obtain ⟨hmem, hk⟩ := State.item?_spec hi
  rw [← hk]
  exact State.item?_of_mem (nodup_of_subperm h.keys hn) (h.late hn i hmem r hc hm)

/-- Tests of R23 and the end of an event. -/
theorem State.settled_tests (before : State) {s : State} (h : s.owesReoffer = false) :
    s.Tests (State.settle before s.offerTest) := by
  have ht := State.offerTest_tests h
  exact ht.trans (State.settle_tests before ht.owes)

theorem State.settled_ends (before s : State) : s.Ends (State.settle before s.offerTest) :=
  (State.offerTest_ends s).trans (State.settle_ends before s.offerTest)

section

variable {s : State} {o : OpenOffer} {it : OutItem} {r : VisitRecord}

theorem State.takeWaitEnd_of_takes (ho : s.hand.offer = some o) (hp : o.phase = .takeWait) {k : HeardTake}
    (hk : bestTake o.takes = some k) : s.takeWaitEnd = State.settle s (s.commit o k) := by
  simp [State.takeWaitEnd, ho, hp, hk]

theorem State.takeWaitEnd_of_first (ho : s.hand.offer = some o) (hp : o.phase = .takeWait) (hi : s.item? o.key = some it)
    (htakes : o.takes = []) (hc : it.offerCount = 1) : s.takeWaitEnd = State.settle s (s.placeReoffer o) := by
  simp [State.takeWaitEnd, ho, hp, htakes, bestTake, hi, hc]

theorem State.takeWaitEnd_of_second (ho : s.hand.offer = some o) (hp : o.phase = .takeWait) (hi : s.item? o.key = some it)
    (htakes : o.takes = []) (hc : 2 ≤ it.offerCount) : s.takeWaitEnd = State.settle s (s.secondExpiry o) := by
  simp [State.takeWaitEnd, ho, hp, htakes, bestTake, hi, Nat.not_lt.2 hc]

/-- A re-offer that the transmit queue has room for. -/
theorem State.placeReoffer_of_room (hi : s.item? o.key = some it) (hroom : s.canPlace .normal = true) :
    s.placeReoffer o = State.send (.offer s.hand.counter o.number it.cargo)
      ((s.takeNumber.modItem o.key (fun i => { i with offerCount := 2 })).setOffer
        (some { o with phase := .reofferQueued, reNumber := s.hand.counter })) := by
  simp only [State.placeReoffer, hi]
  exact if_pos hroom

/-- The second expiry of the offer of a bus for fuel or wash. -/
theorem State.secondExpiry_of_stage (hi : s.item? o.key = some it) (hc : it.cargo = .visit r)
    (hstage : r.next = .fuel ∨ r.next = .wash) : s.secondExpiry o = ((s.setOffer none).skipItem o.key r).offerTest := by
  rcases hstage with h | h <;> simp [State.secondExpiry, hi, hc, h]

theorem State.secondExpiry_of_berth (hi : s.item? o.key = some it) (hc : it.cargo = .visit r) (hstage : r.next = .berth) :
    s.secondExpiry o = ((s.setOffer none).strandItem it r).offerTest := by
  simp [State.secondExpiry, hi, hc, hstage]

theorem skipStage_of_stage (h : r.next = .fuel ∨ r.next = .wash) : skipStage r = if r.next = .fuel then
      { r with fuelOutcome := some .skipped, litres := 0, next := if r.washRequest = .none then .berth else .wash }
    else { r with washOutcome := some .skipped, next := .berth } := by
  rcases h with h | h <;> simp [skipStage, h, VisitRecord.afterFuel]

/-- The item of a stranded bus, as a new one that waits for the stranded retry. -/
def State.strandedItem (s : State) (i : OutItem) : OutItem :=
  { i with ready := s.clock.m + s.image.strandedRetry, joinOrder := s.hand.joins, offerCount := 0, lastNumber := 0 }

theorem State.strandItem_hand (it : OutItem) (r : VisitRecord) (s : State) : (s.strandItem it r).hand =
    ((s.modItem it.key s.strandedItem).countJoin).hand := by
  unfold State.strandItem
  split
  · rw [State.setGuide_eq]; simp [State.modItem, State.countJoin, State.strandedItem]
  · simp [State.modItem, State.countJoin, State.strandedItem]

theorem State.strandItem_reports (it : OutItem) (r : VisitRecord) (s : State) : (s.strandItem it r).loader.reports =
    (s.report (.stranded r.bus r.cls r.duty.departure)).loader.reports := by
  unfold State.strandItem
  split
  · rw [State.setGuide_eq]; rfl
  · rfl

theorem State.strandItem_guide (r : VisitRecord) (s : State) {place : GuidePlace} (hp : it.place = some place) :
    (s.strandItem it r).guide place = { code := .hold, bus := some r.bus } := by
  simp [State.strandItem, hp]

theorem State.strandItem_clock (it : OutItem) (r : VisitRecord) (s : State) : (s.strandItem it r).clock = s.clock := by
  unfold State.strandItem
  split
  · rw [State.setGuide_eq]; simp [State.modItem, State.countJoin]
  · simp [State.modItem, State.countJoin]

/-- The commit of the offer of a bus: the item is gone, and the guidance output of its place shows the taker. -/
theorem State.commit_of_bus (before : State) (hi : s.item? o.key = some it) (hc : it.cargo = .visit r) (k : HeardTake) :
    (∀ i ∈ (State.settle before (s.commit o k)).hand.outbound, i.key ≠ o.key) ∧
      (∀ p, (State.settle before (s.commit o k)).point p = s.point p) ∧
      (∀ place, it.place = some place →
        (State.settle before (s.commit o k)).guide place = { code := .destination k.source k.resource, bus := some r.bus }) ∧
      (it.place = none → (State.settle before (s.commit o k)).field.codes = s.field.codes) := by
  rw [State.commit_of_visit hi hc]
  have hshow := State.showTaker_tests it k (State.closeOffer_owes o.key s)
  have hends := State.settled_ends before ((s.closeOffer o.key).showTaker it k)
  refine ⟨(hshow.trans (State.settled_tests before hshow.owes)).no_key, fun p => ?_, fun place hp => ?_, fun hp => ?_⟩
  · rw [hends.point, State.showTaker_of_visit hc]
    cases it.place with
    | none => rfl
    | some place => dsimp only; rw [State.setGuide_eq]; rfl
  · rw [hends.guide, State.showTaker_of_visit hc, hp]
    exact State.setGuide_guide ..
  · rw [hends.codes, State.showTaker_of_visit hc, hp]
    rfl

/-- The re-offer of the first expiry, to the end of the event. -/
theorem State.reoffer_of_bus (before : State) (hn : s.keys.Nodup) (hk : o.key = .bus r.bus) (hi : s.item? o.key = some it)
    (hc : it.cargo = .visit r) (hcount : 1 ≤ s.hand.counter) (hroom : s.canPlace .normal = true) :
    (State.settle before (s.placeReoffer o)).hand.offer = some { o with phase := .reofferQueued, reNumber := s.hand.counter } ∧
      (State.settle before (s.placeReoffer o)).hand.counter = (if 255 ≤ s.hand.counter then 1 else s.hand.counter + 1) ∧
      (∃ i, (State.settle before (s.placeReoffer o)).item? o.key = some i ∧ i.offerCount = 2 ∧ i.cargo = .visit r) ∧
      (∃ x ∈ (State.settle before (s.placeReoffer o)).line.transmit,
        x.body = .offer s.hand.counter o.number (.visit r) ∧ x.destination = 15) := by
  have heq := State.placeReoffer_of_room hi hroom
  have hhand : (s.placeReoffer o).hand = _ := (congrArg State.hand heq).trans (State.send_hand _ _)
  have hoff : (s.placeReoffer o).hand.offer = some { o with phase := .reofferQueued, reNumber := s.hand.counter } := by
    rw [hhand]; rfl
  have howes : (s.placeReoffer o).owesReoffer = false := by
    rw [State.owesReoffer, hoff]; simp; omega
  have ht := State.settle_tests before howes
  have hitem : (s.placeReoffer o).item? o.key = some { it with offerCount := 2 } := by
    rw [State.item?, hhand]
    exact State.item?_modItem (s := s.takeNumber) (f := fun i => { i with offerCount := 2 }) hn (fun i h => h) hi
  have hkeys : (s.placeReoffer o).keys.Nodup := by
    rw [State.keys, hhand]
    exact ((State.modItem_keys (s := s.takeNumber) (f := fun i => { i with offerCount := 2 }) (fun i _ h => h)).nodup_iff).2 hn
  refine ⟨(ht.offer _ r.bus hoff hk).1, ?_, ⟨_, ht.item?_held hkeys hoff hk hitem hc, rfl, hc⟩, ?_⟩
  · rw [(ht.offer _ r.bus hoff hk).2, hhand]
    rfl
  · have hplaced := State.mem_place (.offer s.hand.counter o.number it.cargo) Config.broadcast
      ((s.takeNumber.modItem o.key (fun i => { i with offerCount := 2 })).setOffer
        (some { o with phase := .reofferQueued, reNumber := s.hand.counter })) hroom
    rw [← State.send, ← heq] at hplaced
    exact ⟨_, ht.frames _ r.bus hoff hk _ hplaced rfl, by rw [hc], rfl⟩

/-- The second expiry for fuel or wash, to the end of the event: the item goes on to its next stage. -/
theorem State.skip_of_bus (before : State) (hn : s.keys.Nodup) (hk : o.key = .bus r.bus) (hi : s.item? o.key = some it)
    (hc : it.cargo = .visit r) (hstage : r.next = .fuel ∨ r.next = .wash) :
    ∃ i, (State.settle before (s.secondExpiry o)).item? o.key = some i ∧ i.ready = s.clock.m ∧ i.lastNumber = 0 ∧
      i.cargo = .visit (skipStage r) := by
  rw [State.secondExpiry_of_stage hi hc hstage]
  have hkey : ∀ i : OutItem, i.key = o.key →
      ({ i with cargo := .visit (skipStage r), ready := s.clock.m, offerCount := 0, lastNumber := 0 } : OutItem).key = o.key :=
    fun i _ => by simp [OutItem.key_eq, Cargo.key, hk]
  have hitem : ((s.setOffer none).skipItem o.key r).item? o.key = some
      { it with cargo := .visit (skipStage r), ready := s.clock.m, offerCount := 0, lastNumber := 0 } :=
    State.item?_modItem (s := s.setOffer none) hn hkey hi
  have hkeys : ((s.setOffer none).skipItem o.key r).keys.Nodup :=
    ((State.modItem_keys (s := s.setOffer none) (fun i _ => hkey i)).nodup_iff).2 hn
  obtain ⟨i, hi', hoff⟩ := (State.settled_tests before (s := (s.setOffer none).skipItem o.key r) rfl).item?_kept hkeys hitem rfl
  refine ⟨i, hi', ?_⟩
  rcases hoff with rfl | rfl <;> exact ⟨rfl, rfl, rfl⟩

/-- The second expiry for a berth, to the end of the event: the item waits for the stranded retry. -/
theorem State.strand_of_bus (before : State) (ha : s.active = true) (hn : s.keys.Nodup) (hi : s.item? o.key = some it)
    (hc : it.cargo = .visit r) (hstage : r.next = .berth) (hretry : 1 ≤ s.image.strandedRetry) :
    (State.settle before (s.secondExpiry o)).item? o.key = some (s.strandedItem it) ∧
      (∃ x ∈ (State.settle before (s.secondExpiry o)).loader.reports, x.body = .stranded r.bus r.cls r.duty.departure) ∧
      (∀ place, it.place = some place →
        (State.settle before (s.secondExpiry o)).guide place = { code := .hold, bus := some r.bus }) := by
  rw [State.secondExpiry_of_berth hi hc hstage]
  have hk : it.key = o.key := (State.item?_spec hi).2
  have hhand := State.strandItem_hand it r (s.setOffer none)
  have hends := State.settled_ends before ((s.setOffer none).strandItem it r)
  have howes : ((s.setOffer none).strandItem it r).owesReoffer = false := by
    rw [State.owesReoffer, hhand]; rfl
  have hitem : ((s.setOffer none).strandItem it r).item? o.key = some (s.strandedItem it) := by
    rw [State.item?, hhand, hk]
    exact State.item?_modItem (s := s.setOffer none) (f := s.strandedItem) hn (fun i h => h) hi
  have hkeys : ((s.setOffer none).strandItem it r).keys.Nodup := by
    rw [State.keys, hhand]
    exact ((State.modItem_keys (s := s.setOffer none) (f := s.strandedItem) (fun i _ h => h)).nodup_iff).2 hn
  refine ⟨(State.settled_tests before howes).item?_late hkeys hitem hc ?_, ?_, fun place hp => ?_⟩
  · rw [State.strandItem_clock]
    show s.clock.m < s.clock.m + s.image.strandedRetry
    omega
  · rw [hends.reports, State.strandItem_reports]
    exact ⟨_, State.mem_report _ _ ha, rfl⟩
  · rw [hends.guide]
    exact State.strandItem_guide r _ hp

end

end Sys2Proof.Machine

namespace Sys2Proof
open Sys2Proof.Machine

/-- Settles O45: the take wait ends in a commit, a re-offer or a second expiry, each kept to the end of its event. -/
theorem ownWindowsCloseTheOffer : Obligations.OwnWindowsCloseTheOffer := by
  refine ⟨fun s ha => ⟨fun o ho hp => ?_, fun h => ?_⟩, fun s o it r hs ho hp hi hc hk hn hcount hretry => ?_⟩
  · refine congrArg Host.Outcome.next ((State.whenActive_of_active ha _).trans ?_)
    simp [State.offerWindowEnd, ho, hp, State.setOffer]
  · refine congrArg Host.Outcome.next ((State.whenActive_of_active ha _).trans ?_)
    unfold State.offerWindowEnd
    split
    · next o ho => exact if_neg (h o ho)
    · rfl
  have ha := State.active_of_inService hs
  have hexec : exec .takeWaitEnd s = .next s.takeWaitEnd := congrArg Host.Outcome.next (State.whenActive_of_active ha _)
  refine ⟨fun k hmem hbest => ⟨_, hexec, by simp, by simp, ?_⟩, fun htakes hfirst hroom => ⟨_, hexec, by simp, by simp, ?_⟩,
    fun htakes hsecond hstage => ⟨_, hexec, by simp, by simp, ?_⟩,
    fun htakes hsecond hstage _ => ⟨_, hexec, by simp, by simp, ?_⟩⟩
  · rw [State.takeWaitEnd_of_takes ho hp (bestTake_eq hmem hbest)]
    exact State.commit_of_bus s hi hc k
  · rw [State.takeWaitEnd_of_first ho hp hi htakes hfirst]
    exact State.reoffer_of_bus s hn hk hi hc hcount hroom
  · rw [State.takeWaitEnd_of_second ho hp hi htakes hsecond, ← skipStage_of_stage hstage]
    exact State.skip_of_bus s hn hk hi hc hstage
  · rw [State.takeWaitEnd_of_second ho hp hi htakes hsecond]
    obtain ⟨hitem, hreport, hguide⟩ := State.strand_of_bus s ha hn hi hc hstage hretry
    exact ⟨⟨_, hitem, rfl, rfl, rfl, hc⟩, hreport, hguide⟩

end Sys2Proof

namespace Sys2Proof.Machine

open Sys2Proof

/-! ## What tests and withdrawals make of bids and frames (R23, R37, R145)

They take bids away with their claims, take OFFERs away, and place no frame but an OFFER or a CALL. -/

/-- The bodies that a test of R23 or of a lane's head places. -/
def FrameBody.isAnswer : FrameBody → Bool
  | .offer .. => true
  | .call .. => true
  | _ => false

theorem FrameBody.isClaimOf_of_answer {b : FrameBody} (h : b.isAnswer = true) (tag : Tag) : b.isClaimOf tag = false := by
  cases b <;> simp [FrameBody.isAnswer, FrameBody.isClaimOf] at h ⊢

/-- Whether a frame outlives tests, withdrawals and the loss of some bids: it is being sent, or it is no REPORT, no OFFER and
no claim of one of those bids. -/
def TxFrame.Outlives (l : List BidEntry) (x : TxFrame) : Prop :=
  x.sending = true ∨ (x.displaceable = false ∧ x.body.isOffer = false ∧ ∀ b ∈ l, x.body.isClaimOf b.tag = false)

theorem TxFrame.Outlives.displaceable {l : List BidEntry} {x : TxFrame} (h : x.Outlives l) : x.displaceable = false := by
  rcases h with h | ⟨h, -⟩
  · simp [TxFrame.displaceable, h]
  · exact h

theorem TxFrame.Outlives.mono {l m : List BidEntry} {x : TxFrame} (h : x.Outlives l) (hm : m ⊆ l) : x.Outlives m := by
  rcases h with h | ⟨h, ho, hb⟩
  · exact .inl h
  · exact .inr ⟨h, ho, fun b hb' => hb b (hm hb')⟩

/-- The bids of one node that another one has no more. -/
def State.bidsLost (s t : State) : List BidEntry := s.hand.bids.filter (fun b => decide (b ∉ t.hand.bids))

theorem State.mem_bidsLost {s t : State} {b : BidEntry} : b ∈ s.bidsLost t ↔ b ∈ s.hand.bids ∧ b ∉ t.hand.bids := by
  simp [State.bidsLost]

structure State.Sends (s t : State) : Prop where
  bids : t.hand.bids.Sublist s.hand.bids
  from_ : ∀ x ∈ t.line.transmit, x ∈ s.line.transmit ∨ x.body.isAnswer = true
  kept : ∀ x ∈ s.line.transmit, x.Outlives (s.bidsLost t) → x ∈ t.line.transmit
  muted : t.line.muted = s.line.muted

theorem State.Sends.refl (s : State) : s.Sends s := ⟨.refl _, fun _ hx => .inl hx, fun _ hx _ => hx, rfl⟩

theorem State.Sends.trans {s t u : State} (h : s.Sends t) (h' : t.Sends u) : s.Sends u where
  bids := h'.bids.trans h.bids
  from_ := fun x hx => (h'.from_ x hx).elim (h.from_ x) .inr
  kept := fun x hx hk => by
    refine h'.kept x (h.kept x hx (hk.mono fun b hb => ?_)) (hk.mono fun b hb => ?_)
    · rw [State.mem_bidsLost] at *
      exact ⟨hb.1, fun hu => hb.2 (h'.bids.subset hu)⟩
    · rw [State.mem_bidsLost] at *
      exact ⟨h.bids.subset hb.1, hb.2⟩
  muted := h'.muted.trans h.muted

/-- An operation that leaves bids and line. -/
theorem State.Sends.of_same {s t : State} (hb : t.hand.bids = s.hand.bids) (hl : t.line = s.line) : s.Sends t :=
  ⟨by rw [hb], fun x hx => .inl (by rwa [hl] at hx), fun x hx _ => by rwa [hl], by rw [hl]⟩

theorem State.place_sends {b : FrameBody} (h : b.isAnswer = true) (d : Nat) (s : State) : s.Sends (s.place b d) := by
  have heq := State.place_eq b d s
  refine ⟨by rw [heq], fun x hx => ?_, fun x hx hk => State.place_keeps hx hk.displaceable, by rw [heq]⟩
  rcases State.mem_of_mem_place hx with rfl | hx
  · exact .inr h
  · exact .inl hx

theorem State.dropOffers_sends (s : State) : s.Sends (s.dropFrames FrameBody.isOffer) := by
  refine ⟨.refl _, fun x hx => .inl (State.mem_dropFrames.1 hx).1, fun x hx hk => State.mem_dropFrames.2 ⟨hx, ?_⟩, rfl⟩
  exact hk.imp_right fun h => h.2.1

theorem State.startOffer_sends (it : OutItem) (s : State) : s.Sends (s.startOffer it) := by
  rcases State.startOffer_cases it s with ⟨-, e⟩ | ⟨-, e⟩ <;> rw [e]
  · exact (State.Sends.of_same (by rfl) (by rfl)).trans (State.place_sends rfl _ _)
  · exact .of_same rfl rfl

theorem State.placeReoffer_sends (o : OpenOffer) (s : State) : s.Sends (s.placeReoffer o) := by
  simp only [State.placeReoffer]
  repeat' split
  · exact .of_same rfl rfl
  · exact (State.Sends.of_same (by rfl) (by rfl)).trans (State.place_sends rfl _ _)
  · exact .of_same rfl rfl

theorem State.offerTest_sends (s : State) : s.Sends s.offerTest := by
  rcases State.offerTest_cases s with e | ⟨-, o, -, -, -, e⟩ | ⟨-, -, it, -, -, -, e⟩ <;> rw [e]
  · exact .refl s
  · exact State.placeReoffer_sends o s
  · exact State.startOffer_sends it s

theorem State.cancelOffer_sends (k : ItemKey) (s : State) : s.Sends (s.cancelOffer k) := by
  unfold State.cancelOffer
  split
  · split
    · exact (State.Sends.of_same (by rfl) (by rfl)).trans (State.dropOffers_sends _)
    · exact .refl s
  · exact .refl s

theorem State.dropRuns_sends (runs : List Nat) : ∀ s : State, s.Sends (s.dropRuns runs) := by
  induction runs with
  | nil => exact .refl
  | cons r runs ih =>
    intro s
    rw [State.dropRuns_cons]
    have hone : s.Sends ((s.cancelOffer (.swapRun r)).removeItem (.swapRun r)) :=
      (State.cancelOffer_sends (.swapRun r) s).trans (.of_same rfl rfl)
    exact hone.trans (ih _)

theorem State.withdrawSwaps_sends (s : State) : s.Sends s.withdrawSwaps := by
  rcases State.withdrawSwaps_cases s with ⟨-, e⟩ | ⟨-, e⟩ <;> rw [e]
  · exact .refl s
  · exact (State.dropRuns_sends _ s).trans (State.offerTest_sends _)

/-- The loss of a list of bids. -/
theorem State.removeBids_bids (l : List BidEntry) : ∀ s : State,
    (s.removeBids l).hand.bids = s.hand.bids.filter (fun b => decide (b.tag ∉ l.map BidEntry.tag)) := by
  induction l with
  | nil => intro s; simp [State.removeBids]
  | cons e l ih =>
    intro s
    rw [State.removeBids, List.foldl_cons, ← State.removeBids, ih]
    simp only [State.removeBid, State.dropFrames, List.filter_filter]
    refine List.filter_congr (fun b _ => ?_)
    by_cases h : b.tag = e.tag <;> simp [h]

theorem State.mem_removeBids_transmit (l : List BidEntry) : ∀ {s : State} {x : TxFrame},
    x ∈ (s.removeBids l).line.transmit ↔
      x ∈ s.line.transmit ∧ (x.sending = true ∨ ∀ b ∈ l, x.body.isClaimOf b.tag = false) := by
  induction l with
  | nil => intro s x; simp [State.removeBids]
  | cons e l ih =>
    intro s x
    rw [State.removeBids, List.foldl_cons, ← State.removeBids, ih, State.removeBid, State.mem_dropFrames]
    constructor
    · rintro ⟨⟨hx, h | h⟩, h' | h'⟩
      · exact ⟨hx, .inl h⟩
      · exact ⟨hx, .inl h⟩
      · exact ⟨hx, .inl h'⟩
      · exact ⟨hx, .inr (by simpa [h] using h')⟩
    · rintro ⟨hx, h | h⟩
      · exact ⟨⟨hx, .inl h⟩, .inl h⟩
      · simp only [List.mem_cons, forall_eq_or_imp] at h
        exact ⟨⟨hx, .inr h.1⟩, .inr h.2⟩

/-- Bids of the node are lost. -/
theorem State.removeBids_sends {l : List BidEntry} {s : State} (hl : l ⊆ s.hand.bids) : s.Sends (s.removeBids l) := by
  refine ⟨by rw [State.removeBids_bids]; exact List.filter_sublist, fun x hx => .inl ((State.mem_removeBids_transmit l).1 hx).1,
    fun x hx hk => (State.mem_removeBids_transmit l).2 ⟨hx, hk.imp_right fun h b hb => ?_⟩, ?_⟩
  · refine h.2.2 b (State.mem_bidsLost.2 ⟨hl hb, fun hin => ?_⟩)
    rw [State.removeBids_bids] at hin
    simp at hin
    exact hin.2 b hb rfl
  · clear hl
    induction l generalizing s with
    | nil => rfl
    | cons e l ih => exact ih

theorem State.lostBids_subset (s : State) : s.lostBids ⊆ s.hand.bids := fun _ h => (List.mem_filter.1 h).1

theorem State.dropLostHeads_sends (s : State) : s.Sends s.dropLostHeads := by
  have hb := State.removeBids_sends s.lostBids_subset
  rcases State.dropLostHeads_cases s with ⟨-, e⟩ | e <;> rw [e]
  · exact hb
  · exact hb.trans (.of_same rfl rfl)

theorem State.callEntry_sends (n : Nat) (e : LaneEntry) (s : State) : s.Sends (s.callEntry n e) := by
  refine State.Sends.trans (State.Sends.trans ?_ (State.place_sends rfl _ _)) (State.withdrawSwaps_sends _)
  exact .of_same rfl rfl

theorem State.headTest_sends (n : Nat) (s : State) : s.Sends (s.headTest n) := by
  rcases State.headTest_cases n s with e | ⟨-, -, e, -, -, eq⟩
  · rw [e]; exact .refl s
  · rw [eq]; exact State.callEntry_sends n e s

theorem State.settle_sends (before s : State) : s.Sends (State.settle before s) :=
  State.settle_induction ((State.dropLostHeads_sends s).trans (State.withdrawSwaps_sends _))
    (fun t n ht => ht.trans (State.headTest_sends n t))

theorem State.offerTest_bids (s : State) : s.offerTest.hand.bids = s.hand.bids := by
  rcases State.offerTest_cases s with e | ⟨-, o, -, -, -, e⟩ | ⟨-, -, it, -, -, -, e⟩ <;> rw [e]
  · simp only [State.placeReoffer]
    repeat' split
    · rfl
    · rw [State.send_hand]; rfl
    · rfl
  · rcases State.startOffer_cases it s with ⟨-, e⟩ | ⟨-, e⟩ <;> rw [e]
    · rw [State.send_hand]; rfl
    · rfl

theorem State.dropRuns_bids (runs : List Nat) : ∀ s : State, (s.dropRuns runs).hand.bids = s.hand.bids := by
  induction runs with
  | nil => exact fun _ => rfl
  | cons r runs ih =>
    intro s
    rw [State.dropRuns_cons, ih]
    show (s.cancelOffer (.swapRun r)).hand.bids = s.hand.bids
    unfold State.cancelOffer
    repeat' split
    all_goals rfl

theorem State.withdrawSwaps_bids (s : State) : s.withdrawSwaps.hand.bids = s.hand.bids := by
  rcases State.withdrawSwaps_cases s with ⟨-, e⟩ | ⟨-, e⟩ <;> rw [e]
  rw [State.offerTest_bids, State.dropRuns_bids]

theorem State.headTest_bids (n : Nat) (s : State) : (s.headTest n).hand.bids = s.hand.bids := by
  rcases State.headTest_cases n s with e | ⟨-, -, e, -, -, eq⟩
  · rw [e]
  · rw [eq, State.callEntry, State.withdrawSwaps_bids, State.send_hand]
    rfl

/-- The end of an event takes away only the bids whose head was lost. -/
theorem State.settle_bids (before s : State) : (State.settle before s).hand.bids = s.dropLostHeads.hand.bids := by
  refine State.settle_induction (P := fun t => t.hand.bids = s.dropLostHeads.hand.bids) (State.withdrawSwaps_bids _)
    (fun t n ht => (State.headTest_bids n t).trans ht)

section
variable {s t : State} (h : s.Sends t)
include h

/-- A claim that stands at the end stood there before. -/
theorem State.Sends.claim {tag : Tag} {x : TxFrame} (hx : x ∈ t.line.transmit) (hc : x.body.isClaimOf tag = true) :
    x ∈ s.line.transmit := by
  rcases h.from_ x hx with hs | ha
  · exact hs
  · simp [FrameBody.isClaimOf_of_answer ha] at hc

end

end Sys2Proof.Machine

namespace Sys2Proof.Machine

open Sys2Proof

/-! ## A frame of another station (R175 to R178) -/

theorem State.ignoreLine_eq (s : State) : s.ignoreLine = s.heard := by
  obtain ⟨_, _, _, _, _, _, _, _, _, _, line⟩ := s
  obtain ⟨phase, _, _, _, _, _, _, _⟩ := line
  cases phase <;> rfl

theorem State.receive_of_accepts {s : State} {f : RxFrame} {k : FrameKind} {source : Nat} (h : s.accepts f k source)
    (act : Nat → State → State) : s.receive f (onKind k act) = act source s.heard := by
  obtain ⟨ha, hr, hc⟩ := h
  have hheld : s.loader.resetHeld = false := by
    simp only [State.active, Bool.and_eq_true, Bool.not_eq_true'] at ha
    exact ha.1
  have hactive : s.heard.active = true := ha
  have haddress : rxCheck f s.heard.loader.address = .accepted k source := hc
  simp only [State.receive, hheld, hr, State.ignoreLine_eq, hactive, haddress, onKind]
  simp

@[simp] theorem State.heard_hand (s : State) : s.heard.hand = s.hand := rfl
@[simp] theorem State.heard_lanes (s : State) : s.heard.lanes = s.lanes := rfl
@[simp] theorem State.heard_clock (s : State) : s.heard.clock = s.clock := rfl
@[simp] theorem State.heard_loader (s : State) : s.heard.loader = s.loader := rfl
@[simp] theorem State.heard_field (s : State) : s.heard.field = s.field := rfl
@[simp] theorem State.heard_transmit (s : State) : s.heard.line.transmit = s.line.transmit := rfl
@[simp] theorem State.heard_muted (s : State) : s.heard.line.muted = s.line.muted := rfl
@[simp] theorem State.heard_point (p : PointId) (s : State) : s.heard.point p = s.point p := by cases p <;> rfl
@[simp] theorem State.heard_steady (s : State) : s.heard.steady = s.steady := rfl

/-! ## Events that free no head (R134, R135, R142) -/

/-- The head of a lane. -/
def State.head? (s : State) (n : Nat) : Option LaneEntry := (s.lanes[n]?).bind (fun l => l.entries.head?)

/-- Whether every PARKED head stands in another node as well, with all that holds it or calls for it. -/
def State.HeadsKept (s t : State) : Prop :=
  ∀ n e, s.head? n = some e → e.state = .parked → ∃ e', t.head? n = some e' ∧ e'.state = .parked ∧ e'.visit = e.visit ∧
    e'.ask = e.ask ∧ e'.mark = e.mark

theorem State.HeadsKept.of_lanes {s t : State} (h : t.lanes = s.lanes) : s.HeadsKept t :=
  fun n e he hp => ⟨e, by rw [State.head?, h]; exact he, hp, rfl, rfl, rfl⟩

theorem State.HeadsKept.trans {s t u : State} (h : s.HeadsKept t) (h' : t.HeadsKept u) : s.HeadsKept u := by
  intro n e he hp
  obtain ⟨e', he', hp', hv, ha, hm⟩ := h n e he hp
  obtain ⟨e'', he'', hp'', hv', ha', hm'⟩ := h' n e' he' hp'
  exact ⟨e'', he'', hp'', hv'.trans hv, ha'.trans ha, hm'.trans hm⟩

/-- The lanes changed by a function that keeps the first entry where it is PARKED. -/
theorem State.HeadsKept.mapLanes {s t : State} {f : Lane → Lane} (h : t.lanes = s.lanes.map f)
    (hf : ∀ l : Lane, ∀ e, l.entries.head? = some e → e.state = .parked → (f l).entries.head? = some e) : s.HeadsKept t := by
  intro n e he hp
  refine ⟨e, ?_, hp, rfl, rfl, rfl⟩
  simp only [State.head?, h, List.getElem?_map, Option.bind_eq_some_iff] at he ⊢
  obtain ⟨l, hl, hle⟩ := he
  exact ⟨f l, by rw [hl]; rfl, hf l e hle hp⟩

theorem State.mem_laneEntries_of_head {s : State} {n : Nat} {e : LaneEntry} (h : s.head? n = some e) : e ∈ s.laneEntries := by
  obtain ⟨l, hl, hle⟩ := Option.bind_eq_some_iff.1 h
  exact List.mem_flatMap.2 ⟨l, List.mem_of_getElem? hl, List.mem_of_mem_head? hle⟩

theorem State.headWaits_iff (s : State) (n : Nat) : s.headWaits n = true ↔
    ∃ e, s.head? n = some e ∧ e.state = .parked ∧ (s.isHeld e = true ∨ s.awaitsOwnOffer e = true) := by
  unfold State.headWaits State.head?
  cases (s.lanes[n]?).bind (fun l => l.entries.head?) <;> simp

theorem State.headHeld_iff (s : State) (n : Nat) : s.headHeld n = true ↔
    ∃ e, s.head? n = some e ∧ e.state = .parked ∧ s.isHeld e = true := by
  unfold State.headHeld State.head?
  cases (s.lanes[n]?).bind (fun l => l.entries.head?) <;> simp

theorem State.isHeld_iff (s : State) (e : LaneEntry) : s.isHeld e = true ↔
    (∃ b ∈ s.hand.bids, ∃ h, b.head = some h ∧ h.bus = e.visit.bus) ∨ e.mark.isSome = true := by
  simp [State.isHeld, State.isHeadBid]

/-- An event frees no head that stands on with its hold, and with the node's own offer its call waited for. -/
theorem State.headFreed_eq_false {before s : State} (hk : before.HeadsKept s)
    (hb : ∀ b ∈ before.hand.bids, ∀ h, b.head = some h → ∃ b' ∈ s.hand.bids, b'.head = some h)
    (hw : ∀ n e, before.head? n = some e → e.state = .parked → before.awaitsOwnOffer e = true →
      s.swapRunWaiting = before.swapRunWaiting)
    (n : Nat) : before.headFreed s n = false := by
  rw [Bool.eq_false_iff, ne_eq, State.headFreed_iff]
  rintro ⟨hwaits, hnot, -⟩
  obtain ⟨e, he, hp, hheld⟩ := (State.headWaits_iff _ _).1 hwaits
  obtain ⟨e', he', hp', hv, ha, hm⟩ := hk n e he hp
  refine Bool.eq_false_iff.1 hnot ((State.headWaits_iff _ _).2 ⟨e', he', hp', ?_⟩)
  rcases hheld with hheld | hown
  · left
    rw [State.isHeld_iff] at hheld ⊢
    rw [hm, hv]
    refine hheld.imp_left ?_
    rintro ⟨b, hb', h, hh, hbus⟩
    obtain ⟨b', hmem, hh'⟩ := hb b hb' h hh
    exact ⟨b', hmem, h, hh', hbus⟩
  · right
    rw [State.awaitsOwnOffer, ha, hv, hw n e he hp hown]
    exact hown

/-- The run a swap offer in BIDDING or TAKE WAIT is for is open until the request is withdrawn. -/
theorem State.swapRunWaiting_iff (s : State) (r : Nat) : s.swapRunWaiting = some r ↔
    ∃ o, s.hand.offer = some o ∧ o.key = .swapRun r ∧ (o.phase = .bidding ∨ o.phase = .takeWait) := by
  unfold State.swapRunWaiting
  cases ho : s.hand.offer with
  | none => simp
  | some o => cases hk : o.key <;> simp [hk, eq_comm, and_comm]

theorem State.dropRuns_offer {runs : List Nat} {o : OpenOffer} : ∀ {s : State}, s.hand.offer = some o →
    (∀ r ∈ runs, o.key ≠ .swapRun r) → (s.dropRuns runs).hand.offer = some o := by
  induction runs with
  | nil => exact fun h _ => h
  | cons r runs ih =>
    intro s ho hr
    rw [State.dropRuns_cons]
    refine ih ?_ (fun r' h' => hr r' (List.mem_cons_of_mem r h'))
    show (s.cancelOffer (.swapRun r)).hand.offer = some o
    simp [State.cancelOffer, ho, hr r (by simp)]

/-- The offer for a run that an entry still asks for stays where swap requests are withdrawn. -/
theorem State.withdrawSwaps_offer {s : State} {o : OpenOffer} (ho : s.hand.offer = some o)
    (hp : o.phase = .bidding ∨ o.phase = .takeWait) (hk : ∀ r, o.key = .swapRun r → s.asksFor r = true) :
    s.withdrawSwaps.hand.offer = some o := by
  rcases State.withdrawSwaps_cases s with ⟨-, e⟩ | ⟨-, e⟩ <;> rw [e]
  · exact ho
  · have hstays : (s.dropRuns s.deadSwaps).hand.offer = some o := State.dropRuns_offer ho (fun r hr hkey => by
      have hdead := (List.mem_filter.1 hr).2
      simp [hk r hkey] at hdead)
    rw [State.offerTest_idle ?_ (.inr (.inl (by rw [hstays]; rfl)))]
    · exact hstays
    · rw [State.owesReoffer, hstays]
      rcases hp with h | h <;> simp [h]

theorem Lane.markHeadOnly_head (l : Lane) : l.markHeadOnly.entries.head? = l.entries.head? := by
  rw [Lane.markHeadOnly]
  cases l.entries <;> rfl

theorem State.dropLostHeads_headsKept (s : State) : s.HeadsKept s.dropLostHeads := by
  have hl : (s.removeBids s.lostBids).lanes = s.lanes := State.foldl_removeBid_lanes _ s
  rcases State.dropLostHeads_cases s with ⟨-, e⟩ | e <;> rw [e]
  · exact .of_lanes hl
  · exact .mapLanes rfl (fun l e he _ => by rw [Lane.markHeadOnly_head]; exact he)

theorem State.removeBids_hand (l : List BidEntry) : ∀ s : State,
    (s.removeBids l).hand = { s.hand with bids := (s.removeBids l).hand.bids } := by
  induction l with
  | nil => exact fun _ => rfl
  | cons e l ih => exact fun s => ih (s.removeBid e.tag)

theorem State.dropLostHeads_hand (s : State) :
    s.dropLostHeads.hand = { s.hand with bids := (s.removeBids s.lostBids).hand.bids } := by
  rcases State.dropLostHeads_cases s with ⟨-, e⟩ | e <;> rw [e]
  · exact State.removeBids_hand _ s
  · exact State.removeBids_hand _ s

theorem State.dropLostHeads_bids_of_none {s : State} (h : s.lostBids = []) : s.dropLostHeads.hand.bids = s.hand.bids := by
  rw [State.dropLostHeads_hand, h]; rfl

/-- An event that takes no lane entry, no bid and no hold away, and leaves a swap offer open, ends without the test of a head. -/
theorem State.settle_of_kept {before s : State} (hl : ∀ n, before.lostEntry s n = false) (hk : before.HeadsKept s)
    (hb : ∀ b ∈ before.hand.bids, ∀ h, b.head = some h → ∃ b' ∈ s.hand.bids, b'.head = some h) (hlost : s.lostBids = [])
    (ho : ∀ o r, before.hand.offer = some o → o.key = .swapRun r → (o.phase = .bidding ∨ o.phase = .takeWait) → s.hand.offer = some o) :
    State.settle before s = s.dropLostHeads.withdrawSwaps := by
  have hkept := hk.trans (State.dropLostHeads_headsKept s)
  refine State.settle_quiet hl (State.headFreed_eq_false ?_ ?_ ?_)
  · exact hkept.trans
      (.of_lanes (State.lanes_of_offers (State.withdrawSwaps_sansOffers _)))
  · intro b hb' h hh
    obtain ⟨b', hmem, hh'⟩ := hb b hb' h hh
    exact ⟨b', by rw [State.withdrawSwaps_bids, State.dropLostHeads_bids_of_none hlost]; exact hmem, hh'⟩
  · intro n e he hp hown
    simp only [State.awaitsOwnOffer, Bool.and_eq_true, decide_eq_true_eq] at hown
    obtain ⟨hask, hrun⟩ := hown
    obtain ⟨o, hoff, hkey, hphase⟩ := (State.swapRunWaiting_iff _ _).1 hrun
    rw [hrun, State.swapRunWaiting_iff]
    refine ⟨o, State.withdrawSwaps_offer ?_ hphase (fun r hr => ?_), hkey, hphase⟩
    · rw [State.dropLostHeads_hand]
      exact ho o _ hoff hkey hphase
    · obtain ⟨e', he', hp', hv, ha, -⟩ := hkept n e he hp
      obtain rfl : r = e.visit.duty.run := by rw [hkey] at hr; cases hr; rfl
      exact List.any_eq_true.2 ⟨e', State.mem_laneEntries_of_head he', by simp [LaneEntry.asksFor, hp', ha, hask, hv]⟩

end Sys2Proof.Machine

namespace Sys2Proof.Machine

open Sys2Proof

/-! ## What the loss of heads makes of lane entries (R146) -/

theorem Lane.mem_markHeadOnly {l : Lane} {x : LaneEntry} (hx : x ∈ l.entries) :
    ∃ y ∈ l.markHeadOnly.entries, y = { x with mark := y.mark } := by
  have hsplit : x ∈ l.entries.take 1 ++ l.entries.drop 1 := by rwa [List.take_append_drop]
  rcases List.mem_append.1 hsplit with h | h
  · exact ⟨x, List.mem_append_left _ h, rfl⟩
  · exact ⟨{ x with mark := none }, List.mem_append_right _ (List.mem_map.2 ⟨x, h, rfl⟩), rfl⟩

/-- Lost heads give up their marks alone: every lane entry stands on. -/
theorem State.dropLostHeads_laneEntries_mem {s : State} {x : LaneEntry} (hx : x ∈ s.laneEntries) :
    ∃ y ∈ s.dropLostHeads.laneEntries, y = { x with mark := y.mark } := by
  have hl : (s.removeBids s.lostBids).lanes = s.lanes := State.foldl_removeBid_lanes _ s
  rcases State.dropLostHeads_cases s with ⟨-, e⟩ | e <;> rw [e]
  · exact ⟨x, by rwa [State.laneEntries, hl], rfl⟩
  · obtain ⟨l, hmem, hxl⟩ := List.mem_flatMap.1 hx
    obtain ⟨y, hy, heq⟩ := Lane.mem_markHeadOnly hxl
    exact ⟨y, List.mem_flatMap.2 ⟨l.markHeadOnly, List.mem_map_of_mem hmem, hy⟩, heq⟩

theorem State.lostEntry_eq_false {before s : State} {n : Nat} (h : ∀ l l', before.lanes[n]? = some l → s.lanes[n]? = some l' →
    ∀ e ∈ l.entries, ∃ x ∈ l'.entries, x.visit.bus = e.visit.bus) : before.lostEntry s n = false := by
  unfold State.lostEntry
  split
  · next l l' hl hl' => simpa using fun e he => h l l' hl hl' e he
  · rfl

/-- No lane loses an entry where each is changed in place. -/
theorem State.lostEntry_mapLanes {before s : State} {f : Lane → Lane} (h : s.lanes = before.lanes.map f)
    (hf : ∀ l : Lane, ∀ e ∈ l.entries, ∃ x ∈ (f l).entries, x.visit.bus = e.visit.bus) (n : Nat) :
    before.lostEntry s n = false := by
  refine State.lostEntry_eq_false (fun l l' hl hl' e he => ?_)
  rw [h, List.getElem?_map, hl] at hl'
  cases hl'
  exact hf l e he

theorem State.HeadsKept.isParkedHead {s t : State} (h : s.HeadsKept t) {r : Resource} {b : Nat}
    (hb : s.isParkedHead r b = true) : t.isParkedHead r b = true := by
  cases r with
  | point p => simp at hb
  | lane n =>
    obtain ⟨e, he, hbus, hp⟩ := (State.isParkedHead_lane _ _ _).1 hb
    obtain ⟨e', he', hp', hv, -, -⟩ := h n e he hp
    exact (State.isParkedHead_lane _ _ _).2 ⟨e', he', by rw [hv]; exact hbus, hp'⟩

/-- Where every SWAP bid names the PARKED head of its lane, none is lost. -/
theorem State.lostBids_eq_nil {s : State} (h : ∀ b ∈ s.hand.bids, ∀ x, b.head = some x → s.isParkedHead b.resource x.bus = true) :
    s.lostBids = [] := by
  rw [State.lostBids, List.filter_eq_nil_iff]
  intro b hb
  cases hh : b.head with
  | none => simp
  | some x => simp [h b hb x hh]

/-! ## The end of the bid window (R32, R33) -/

/-- The EXPECTED form of a TENTATIVE entry of a tag. -/
def LaneEntry.expect (tag : Tag) (due : Option Nat) (e : LaneEntry) : LaneEntry :=
  if e.state = .tentative ∧ e.tag = some tag then { e with state := .expected, deadline := due } else e

def QueueEntry.expect (tag : Tag) (due : Option Nat) (e : QueueEntry) : QueueEntry :=
  if e.state = .tentative ∧ e.tag = some tag then { e with state := .expected, deadline := due } else e

def Lane.expect (tag : Tag) (due : Option Nat) (l : Lane) : Lane := { l with entries := l.entries.map (LaneEntry.expect tag due) }

def Point.expect (tag : Tag) (due : Option Nat) (v : Point) : Point := { v with queue := v.queue.map (QueueEntry.expect tag due) }

theorem LaneEntry.expect_visit (tag : Tag) (due : Option Nat) (e : LaneEntry) : (e.expect tag due).visit = e.visit := by
  unfold LaneEntry.expect
  split <;> rfl

theorem LaneEntry.expect_tentative {tag : Tag} {due : Option Nat} {e : LaneEntry} (h : (e.expect tag due).state = .tentative) :
    (e.expect tag due).tag ≠ some tag := by
  unfold LaneEntry.expect at *
  split at h
  · simp at h
  · next hn =>
    rw [if_neg hn]
    exact fun ht => hn ⟨h, ht⟩

theorem Lane.expect_head {tag : Tag} {due : Option Nat} {l : Lane} {e : LaneEntry} (he : l.entries.head? = some e)
    (hp : e.state = .parked) : (l.expect tag due).entries.head? = some e := by
  simp [Lane.expect, List.head?_map, he, LaneEntry.expect, hp]

section
variable {s : State} {tag : Tag} {e : BidEntry} (h : s.hand.bids.find? (fun b => decide (b.tag = tag)) = some e)
include h

theorem State.bidWindowEnd_of_taken (hs : e.state = .taken) : s.bidWindowEnd tag = s := by
  simp [State.bidWindowEnd, h, hs]

theorem State.bidWindowEnd_of_computed (hs : e.state = .computed) : s.bidWindowEnd tag = State.settle s (s.dropBid tag) := by
  simp [State.bidWindowEnd, h, hs]

theorem State.bidWindowEnd_of_beaten (hs : e.state = .sent) (hb : e.beaten s.loader.address = true) :
    s.bidWindowEnd tag = State.settle s (s.dropBid tag) := by
  simp [State.bidWindowEnd, h, hs, hb]

theorem State.bidWindowEnd_of_best (hs : e.state = .sent) (hb : e.beaten s.loader.address = false) :
    s.bidWindowEnd tag = State.settle s (s.makeTake e) := by
  simp [State.bidWindowEnd, h, hs, hb]

end

theorem BidEntry.beaten_iff (own : Nat) (e : BidEntry) : e.beaten own = true ↔
    ∃ x ∈ e.heard, x.1 < e.value ∨ (x.1 = e.value ∧ x.2 < own) := by
  simp [BidEntry.beaten, betterBid_iff]

/-- A bid given up at the end of its window. -/
theorem State.dropBid_settled (tag : Tag) (s : State) :
    (State.settle s (s.dropBid tag)).loader.reports = s.loader.reports ∧
      (∀ b ∈ (State.settle s (s.dropBid tag)).hand.bids, b.tag ≠ tag) ∧
      (∀ x ∈ (State.settle s (s.dropBid tag)).laneEntries, x.state = .tentative → x.tag ≠ some tag) ∧
      (∀ p, ∀ x ∈ ((State.settle s (s.dropBid tag)).point p).queue, x.state = .tentative → x.tag ≠ some tag) ∧
      (∀ x ∈ (State.settle s (s.dropBid tag)).line.transmit, x.body.isClaimOf tag = true → x.sending = true) := by
  obtain ⟨hbids, hlanes, hqueue, hframes, hloader⟩ := State.dropBid_spec tag s
  have hends := State.settle_ends s (s.dropBid tag)
  have hsends := State.settle_sends s (s.dropBid tag)
  refine ⟨by rw [hends.reports, hloader], fun b hb => hbids b (hsends.bids.subset hb), fun x hx hs => ?_,
    fun p x hx => hqueue p x (by rwa [hends.point] at hx), fun x hx hc => hframes x (hsends.claim hx hc) hc⟩
  obtain ⟨y, hy, hyx⟩ := hends.mem_laneEntries hx
  rw [hyx.rest]
  refine hlanes y hy ?_
  rcases hyx.state with h | h
  · rw [← h]; exact hs
  · simp [h] at hs

/-- The node's own TAKE in the transmit queue, with the bid entry TAKEN and its entry EXPECTED. -/
def State.taken (e : BidEntry) (s : State) : State :=
  ((s.modBids (fun x => if x.tag = e.tag then { x with state := .taken } else x)).expectTag e.tag).send
    (.take e.tag e.bus e.value e.resource e.head)

theorem State.taken_hand (e : BidEntry) (s : State) : (s.taken e).hand =
    { s.hand with bids := s.hand.bids.map (fun x => if x.tag = e.tag then { x with state := .taken } else x) } := by
  rw [State.taken, State.send_hand]; rfl

theorem State.taken_lanes (e : BidEntry) (s : State) : (s.taken e).lanes =
    s.lanes.map (Lane.expect e.tag (some (s.clock.m + s.image.expectedTimeout))) := by
  rw [State.taken, State.lanes_of_offers (State.send_sansOffers _ _)]; rfl

theorem State.taken_point (e : BidEntry) (s : State) (p : PointId) : (s.taken e).point p =
    (s.point p).expect e.tag (some (s.clock.m + s.image.expectedTimeout)) := by
  rw [State.taken, State.point_of_offers (State.send_sansOffers _ _)]; cases p <;> rfl

theorem State.taken_laneEntries (e : BidEntry) (s : State) : (s.taken e).laneEntries =
    s.laneEntries.map (LaneEntry.expect e.tag (some (s.clock.m + s.image.expectedTimeout))) := by
  rw [State.laneEntries, State.taken_lanes]
  simp [State.laneEntries, List.flatMap_map, List.map_flatMap, Lane.expect]

theorem State.makeTake_of_room {s : State} (h : s.canPlace .urgent = true) (e : BidEntry) : s.makeTake e = s.taken e :=
  if_pos h

/-- A take at the end of the bid window tests no head, where every SWAP bid names the PARKED head of its lane. -/
theorem State.settle_taken {s : State} (e : BidEntry)
    (hheads : ∀ b ∈ s.hand.bids, ∀ h, b.head = some h → s.isParkedHead b.resource h.bus = true) :
    (s.taken e).lostBids = [] ∧ State.settle s (s.taken e) = (s.taken e).dropLostHeads.withdrawSwaps := by
  have hkept : s.HeadsKept (s.taken e) := .mapLanes (State.taken_lanes e s) (fun _ _ he hp => Lane.expect_head he hp)
  have hbid : ∀ b ∈ (s.taken e).hand.bids, ∃ b' ∈ s.hand.bids, b'.head = b.head ∧ b'.resource = b.resource := by
    intro b hb
    rw [State.taken_hand] at hb
    obtain ⟨b', hb', rfl⟩ := List.mem_map.1 hb
    refine ⟨b', hb', ?_⟩
    split <;> exact ⟨rfl, rfl⟩
  have hlost : (s.taken e).lostBids = [] := State.lostBids_eq_nil (fun b hb x hx => by
    obtain ⟨b', hb', hh, hr⟩ := hbid b hb
    rw [← hr]
    exact hkept.isParkedHead (hheads b' hb' x (hh.trans hx)))
  refine ⟨hlost, State.settle_of_kept (State.lostEntry_mapLanes (State.taken_lanes e s) (fun l x hx => ?_)) hkept
    (fun b hb h hh => ?_) hlost (fun _ _ ho _ _ => by rw [State.taken_hand]; exact ho)⟩
  · exact ⟨_, List.mem_map_of_mem hx, congrArg VisitRecord.bus (LaneEntry.expect_visit _ _ x)⟩
  · rw [State.taken_hand]
    refine ⟨_, List.mem_map_of_mem hb, ?_⟩
    split <;> exact hh

/-- The best bid is taken at the end of its window. -/
theorem State.taken_settled {s : State} (e : BidEntry) (hroom : s.canPlace .urgent = true)
    (hheads : ∀ b ∈ s.hand.bids, ∀ h, b.head = some h → s.isParkedHead b.resource h.bus = true) :
    (State.settle s (s.taken e)).hand.bids =
        s.hand.bids.map (fun b => if b.tag = e.tag then { b with state := .taken } else b) ∧
      (∀ p, ((State.settle s (s.taken e)).point p).queue =
        (s.point p).queue.map (QueueEntry.expect e.tag (some (s.clock.m + s.image.expectedTimeout)))) ∧
      (∀ x ∈ (State.settle s (s.taken e)).laneEntries, x.state = .tentative → x.tag ≠ some e.tag) ∧
      (∀ x ∈ s.laneEntries, x.state = .tentative → x.tag = some e.tag →
        ∃ y ∈ (State.settle s (s.taken e)).laneEntries, y.visit = x.visit ∧ y.tag = x.tag ∧ y.value = x.value ∧
          y.state = .expected ∧ y.deadline = some (s.clock.m + s.image.expectedTimeout)) ∧
      (∃ x ∈ (State.settle s (s.taken e)).line.transmit, x.body = .take e.tag e.bus e.value e.resource e.head ∧
        x.destination = 15 ∧ x.cls = .urgent) := by
  obtain ⟨hlost, hsettle⟩ := State.settle_taken e hheads
  have hends := State.settle_ends s (s.taken e)
  have hbids : (State.settle s (s.taken e)).hand.bids = (s.taken e).hand.bids := by
    rw [State.settle_bids, State.dropLostHeads_bids_of_none hlost]
  refine ⟨by rw [hbids, State.taken_hand], fun p => by rw [hends.point, State.taken_point]; rfl, fun x hx hs => ?_,
    fun x hx hs ht => ?_, ?_⟩
  · obtain ⟨y, hy, hyx⟩ := hends.mem_laneEntries hx
    rw [State.taken_laneEntries] at hy
    obtain ⟨z, -, rfl⟩ := List.mem_map.1 hy
    have hstate : (z.expect e.tag (some (s.clock.m + s.image.expectedTimeout))).state = .tentative := by
      rcases hyx.state with h | h
      · rw [← h]; exact hs
      · simp [h] at hs
    rw [hyx.rest]
    exact LaneEntry.expect_tentative hstate
  · have hmem : x.expect e.tag (some (s.clock.m + s.image.expectedTimeout)) ∈ (s.taken e).laneEntries := by
      rw [State.taken_laneEntries]
      exact List.mem_map_of_mem hx
    obtain ⟨y, hy, heq⟩ := State.dropLostHeads_laneEntries_mem hmem
    refine ⟨y, ?_, ?_⟩
    · rw [hsettle, State.laneEntries, State.lanes_of_offers (State.withdrawSwaps_sansOffers _)]
      exact hy
    · rw [heq, LaneEntry.expect, if_pos ⟨hs, ht⟩]
      exact ⟨rfl, rfl, rfl, rfl, rfl⟩
  · refine ⟨_, (State.settle_sends s (s.taken e)).kept _ (State.mem_place _ _ _ hroom) (.inr ⟨rfl, rfl, fun b hb => ?_⟩), rfl,
      rfl, rfl⟩
    rw [State.mem_bidsLost, hbids] at hb
    exact absurd hb.1 hb.2

end Sys2Proof.Machine

namespace Sys2Proof
open Sys2Proof.Machine

/-- Settles O43: a BID heard changes its bid entry alone, and the bid window's end is the loss of the bid or its take. -/
theorem bidsAreKeptAndComparedAtTheWindowEnd : Obligations.BidsAreKeptAndComparedAtTheWindowEnd := by
  refine ⟨fun s f source hacc => ⟨fun g hg => ?_, fun hg => ?_⟩, fun s tag e ha he => ⟨fun hs => ?_, fun hs => ?_,
    fun hs hbest hroom hheads => ?_⟩⟩
  · refine congrArg Host.Outcome.next ((State.receive_of_accepts hacc _).trans ?_)
    simp [State.onBid, hg, State.bidHeard, State.modBids]
  · refine congrArg Host.Outcome.next ((State.receive_of_accepts hacc _).trans ?_)
    simp [State.onBid, hg]
  · refine congrArg Host.Outcome.next ((State.whenActive_of_active ha _).trans ?_)
    exact State.bidWindowEnd_of_taken he hs
  · have heq : s.bidWindowEnd tag = State.settle s (s.dropBid tag) := by
      rcases hs with hs | ⟨hs, hbeat⟩
      · exact State.bidWindowEnd_of_computed he hs
      · exact State.bidWindowEnd_of_beaten he hs ((BidEntry.beaten_iff _ _).2 hbeat)
    refine ⟨_, congrArg Host.Outcome.next (State.whenActive_of_active ha _), by simp, by simp, ?_⟩
    rw [heq]
    exact State.dropBid_settled tag s
  · have htag : e.tag = tag := by simpa using List.find?_some he
    subst htag
    have hbeat : e.beaten s.loader.address = false := by
      rw [Bool.eq_false_iff, ne_eq, BidEntry.beaten_iff]
      rintro ⟨x, hx, hxb⟩
      have hle := hbest x hx
      omega
    refine ⟨_, congrArg Host.Outcome.next (State.whenActive_of_active ha _), by simp, by simp, ?_⟩
    rw [State.bidWindowEnd_of_best he hs hbeat, State.makeTake_of_room hroom]
    exact State.taken_settled e hroom hheads

end Sys2Proof

namespace Sys2Proof.Machine

open Sys2Proof

/-! ## What claims an operation can leave (R34, R35) -/

/-- Whether nothing is left of a bid or take of a tag but a frame that is being sent. -/
structure State.NoClaim (tag : Tag) (s : State) : Prop where
  bids : ∀ b ∈ s.hand.bids, b.tag ≠ tag
  lanes : ∀ e ∈ s.laneEntries, e.state = .tentative ∨ e.state = .expected → e.tag ≠ some tag
  queue : ∀ p, ∀ e ∈ (s.point p).queue, e.state = .tentative ∨ e.state = .expected → e.tag ≠ some tag
  frames : ∀ x ∈ s.line.transmit, x.body.isClaimOf tag = true → x.sending = true

theorem State.dropClaim_noClaim (tag : Tag) (s : State) : (s.dropClaim tag).NoClaim tag :=
  let ⟨hb, hl, hq, hf, _⟩ := State.dropClaim_spec tag s
  ⟨hb, hl, hq, hf⟩

/-- Whether every bid, claimed entry and claim frame of one node stood in another one, its tag perhaps cleared since. -/
structure State.Yields (s t : State) : Prop where
  bids : t.hand.bids ⊆ s.hand.bids
  lanes : ∀ e ∈ t.laneEntries, e.state = .tentative ∨ e.state = .expected →
    ∃ y ∈ s.laneEntries, y.state = e.state ∧ y.visit = e.visit ∧ (e.tag = y.tag ∨ e.tag = none)
  queue : ∀ p, ∀ e ∈ (t.point p).queue, ∃ y ∈ (s.point p).queue, y.state = e.state ∧ y.visit = e.visit ∧
    (e.tag = y.tag ∨ e.tag = none)
  frames : ∀ x ∈ t.line.transmit, ∀ tag, x.body.isClaimOf tag = true → x ∈ s.line.transmit
  reports : t.loader.reports = s.loader.reports

theorem State.Yields.refl (s : State) : s.Yields s :=
  ⟨fun _ h => h, fun e he _ => ⟨e, he, rfl, rfl, .inl rfl⟩, fun _ e he => ⟨e, he, rfl, rfl, .inl rfl⟩, fun _ h _ _ => h, rfl⟩

theorem State.Yields.trans {s t u : State} (h : s.Yields t) (h' : t.Yields u) : s.Yields u where
  bids := fun _ hb => h.bids (h'.bids hb)
  lanes := fun e he hs => by
    obtain ⟨y, hy, hstate, hv, ht⟩ := h'.lanes e he hs
    obtain ⟨z, hz, hstate', hv', ht'⟩ := h.lanes y hy (by rw [hstate]; exact hs)
    refine ⟨z, hz, hstate'.trans hstate, hv'.trans hv, ?_⟩
    rcases ht with ht | ht
    · rw [ht]; exact ht'
    · exact .inr ht
  queue := fun p e he => by
    obtain ⟨y, hy, hstate, hv, ht⟩ := h'.queue p e he
    obtain ⟨z, hz, hstate', hv', ht'⟩ := h.queue p y hy
    refine ⟨z, hz, hstate'.trans hstate, hv'.trans hv, ?_⟩
    rcases ht with ht | ht
    · rw [ht]; exact ht'
    · exact .inr ht
  frames := fun x hx tag hc => h.frames x (h'.frames x hx tag hc) tag hc
  reports := h'.reports.trans h.reports

theorem State.NoClaim.of_yields {tag : Tag} {s t : State} (h : s.NoClaim tag) (hy : s.Yields t) : t.NoClaim tag where
  bids := fun b hb => h.bids b (hy.bids hb)
  lanes := fun e he hs ht => by
    obtain ⟨y, hy', hstate, -, htag⟩ := hy.lanes e he hs
    refine h.lanes y hy' (by rw [hstate]; exact hs) ?_
    rcases htag with htag | htag
    · rw [← htag]; exact ht
    · simp [ht] at htag
  queue := fun p e he hs ht => by
    obtain ⟨y, hy', hstate, -, htag⟩ := hy.queue p e he
    refine h.queue p y hy' (by rw [hstate]; exact hs) ?_
    rcases htag with htag | htag
    · rw [← htag]; exact ht
    · simp [ht] at htag
  frames := fun x hx hc => h.frames x (hy.frames x hx tag hc) hc

/-- What a node keeps of the claims under other tags than those of one holder. -/
structure State.Spares (h : Nat) (s t : State) : Prop where
  bids : (s.hand.bids.map BidEntry.tag).Nodup → ∀ b ∈ s.hand.bids, b.head = none → b.tag.holder ≠ h → b ∈ t.hand.bids
  sub : t.hand.bids.Sublist s.hand.bids
  lanes : ∀ e ∈ s.laneEntries, ∀ tag, e.tag = some tag → tag.holder ≠ h →
    ∃ e' ∈ t.laneEntries, e'.visit = e.visit ∧ e'.tag = e.tag ∧ e'.value = e.value ∧ e'.deadline = e.deadline
  queue : ∀ p, ∀ e ∈ (s.point p).queue, ∀ tag, e.tag = some tag → tag.holder ≠ h → e ∈ (t.point p).queue

theorem State.Spares.refl (h : Nat) (s : State) : s.Spares h s :=
  ⟨fun _ _ hb _ _ => hb, .refl _, fun e he _ _ _ => ⟨e, he, rfl, rfl, rfl, rfl⟩, fun _ _ he _ _ _ => he⟩

theorem State.Spares.trans {h : Nat} {s t u : State} (hs : s.Spares h t) (ht : t.Spares h u) : s.Spares h u where
  bids := fun hn b hb hh htag => ht.bids ((hs.sub.map _).nodup hn) b (hs.bids hn b hb hh htag) hh htag
  sub := ht.sub.trans hs.sub
  lanes := fun e he tag htag hne => by
    obtain ⟨y, hy, hv, ht', hval, hd⟩ := hs.lanes e he tag htag hne
    obtain ⟨z, hz, hv', ht'', hval', hd'⟩ := ht.lanes y hy tag (by rw [ht']; exact htag) hne
    exact ⟨z, hz, hv'.trans hv, ht''.trans ht', hval'.trans hval, hd'.trans hd⟩
  queue := fun p e he tag htag hne => ht.queue p e (hs.queue p e he tag htag hne) tag htag hne

/-! ### The operations -/

theorem State.mem_dropClaim_laneEntries {tag : Tag} {s : State} {e : LaneEntry} : e ∈ (s.dropClaim tag).laneEntries ↔
    e ∈ s.laneEntries ∧ ¬ ((e.state = .tentative ∨ e.state = .expected) ∧ e.tag = some tag) := by
  rw [State.dropClaim, State.removeExpected_laneEntries, State.dropBid, List.mem_filter, State.removeTentative_laneEntries,
    List.mem_filter, State.laneEntries, show (s.removeBid tag).lanes = s.lanes from rfl, ← State.laneEntries]
  simp only [Bool.not_and, Bool.or_eq_true, Bool.not_eq_true', decide_eq_false_iff_not]
  tauto

theorem State.mem_dropClaim_queue {tag : Tag} {s : State} {p : PointId} {e : QueueEntry} :
    e ∈ ((s.dropClaim tag).point p).queue ↔
      e ∈ (s.point p).queue ∧ ¬ ((e.state = .tentative ∨ e.state = .expected) ∧ e.tag = some tag) := by
  have hq : ((s.dropClaim tag).point p).queue = ((s.point p).queue.filter (fun e =>
      !(decide (e.state = .tentative) && decide (e.tag = some tag)))).filter (fun e =>
      !(decide (e.state = .expected) && decide (e.tag = some tag))) := by cases p <;> rfl
  rw [hq, List.mem_filter, List.mem_filter]
  simp only [Bool.not_and, Bool.or_eq_true, Bool.not_eq_true', decide_eq_false_iff_not]
  tauto

theorem State.mem_dropClaim_transmit {tag : Tag} {s : State} {x : TxFrame} : x ∈ (s.dropClaim tag).line.transmit ↔
    x ∈ s.line.transmit ∧ (x.sending = true ∨ x.body.isClaimOf tag = false) :=
  State.mem_dropFrames (p := FrameBody.isClaimOf tag)
    (s := { s with hand := { s.hand with bids := s.hand.bids.filter (fun b => decide (b.tag ≠ tag)) } })

theorem State.dropClaim_yields (tag : Tag) (s : State) : s.Yields (s.dropClaim tag) where
  bids := List.filter_sublist.subset
  lanes := fun e he _ => ⟨e, (State.mem_dropClaim_laneEntries.1 he).1, rfl, rfl, .inl rfl⟩
  queue := fun _ e he => ⟨e, (State.mem_dropClaim_queue.1 he).1, rfl, rfl, .inl rfl⟩
  frames := fun _ hx _ _ => (State.mem_dropClaim_transmit.1 hx).1
  reports := rfl

theorem State.dropClaim_spares {tag : Tag} {h : Nat} (ht : tag.holder = h) (s : State) : s.Spares h (s.dropClaim tag) where
  bids := fun _ b hb _ hne => List.mem_filter.2 ⟨hb, by rw [decide_eq_true_eq]; rintro rfl; exact hne ht⟩
  sub := List.filter_sublist
  lanes := fun e he tag' htag hne => ⟨e, State.mem_dropClaim_laneEntries.2 ⟨he, fun hc => by
    rw [htag] at hc; obtain rfl := Option.some.inj hc.2; exact hne ht⟩, rfl, rfl, rfl, rfl⟩
  queue := fun p e he tag' htag hne => State.mem_dropClaim_queue.2 ⟨he, fun hc => by
    rw [htag] at hc; obtain rfl := Option.some.inj hc.2; exact hne ht⟩

/-- Several claims given up. -/
def State.dropClaims (s : State) (tags : List Tag) : State := tags.foldl (fun u tag => u.dropClaim tag) s

theorem State.dropClaims_yields (tags : List Tag) : ∀ s : State, s.Yields (s.dropClaims tags) := by
  induction tags with
  | nil => exact .refl
  | cons tag tags ih => exact fun s => (State.dropClaim_yields tag s).trans (ih _)

theorem State.dropClaims_spares {tags : List Tag} {h : Nat} (ht : ∀ tag ∈ tags, tag.holder = h) :
    ∀ s : State, s.Spares h (s.dropClaims tags) := by
  induction tags with
  | nil => exact .refl h
  | cons tag tags ih =>
    exact fun s => (State.dropClaim_spares (ht tag (by simp)) s).trans
      (ih (fun tag' h' => ht tag' (List.mem_cons_of_mem tag h')) _)

theorem State.dropClaims_noClaim {tag : Tag} {tags : List Tag} (h : tag ∈ tags) : ∀ s : State, (s.dropClaims tags).NoClaim tag := by
  induction tags with
  | nil => simp at h
  | cons tag' tags ih =>
    intro s
    rcases List.mem_cons.1 h with rfl | h
    · exact (State.dropClaim_noClaim tag s).of_yields (State.dropClaims_yields tags _)
    · exact ih h _

/-- Lane entries changed in place in what is no claim: their marks and asking, or a run. -/
theorem State.mapLaneEntries_yields {s t : State} {f : LaneEntry → LaneEntry} (hl : t.laneEntries = s.laneEntries.map f)
    (hf : ∀ e, (f e).state = e.state ∧ (f e).visit = e.visit ∧ ((f e).tag = e.tag ∨ (f e).tag = none))
    (hb : t.hand.bids = s.hand.bids) (hq : ∀ p, t.point p = s.point p) (hx : t.line = s.line)
    (hr : t.loader.reports = s.loader.reports) : s.Yields t where
  bids := by rw [hb]; exact fun _ h => h
  lanes := fun e he _ => by
    rw [hl] at he
    obtain ⟨y, hy, rfl⟩ := List.mem_map.1 he
    exact ⟨y, hy, (hf y).1.symm, (hf y).2.1.symm, (hf y).2.2⟩
  queue := fun p e he => ⟨e, by rwa [hq] at he, rfl, rfl, .inl rfl⟩
  frames := fun x hx' _ _ => by rwa [hx] at hx'
  reports := hr

theorem State.modLaneBus_laneEntries (b : Nat) (f : LaneEntry → LaneEntry) (s : State) :
    (s.modLaneBus b f).laneEntries = s.laneEntries.map (fun e => if e.visit.bus = b then f e else e) := by
  simp [State.modLaneBus, State.laneEntries, List.flatMap_map, List.map_flatMap]

/-- A take mark ends without a binding where there is one. -/
theorem State.clearMark_cases (tag : Tag) (s : State) :
    s.clearMark tag = s ∨ ∃ b, s.clearMark tag = s.modLaneBus b (fun x => { x with mark := none }) := by
  unfold State.clearMark
  split
  · exact .inl rfl
  · exact .inr ⟨_, rfl⟩

theorem State.clearMark_yields (tag : Tag) (s : State) : s.Yields (s.clearMark tag) := by
  rcases State.clearMark_cases tag s with e | ⟨b, e⟩ <;> rw [e]
  · exact .refl s
  · refine State.mapLaneEntries_yields (State.modLaneBus_laneEntries b _ s) (fun e => ?_) rfl (fun p => by cases p <;> rfl) rfl rfl
    split <;> exact ⟨rfl, rfl, .inl rfl⟩

theorem State.clearMark_spares (tag : Tag) (h : Nat) (s : State) : s.Spares h (s.clearMark tag) := by
  rcases State.clearMark_cases tag s with e | ⟨b, e⟩ <;> rw [e]
  · exact .refl h s
  · refine ⟨fun _ _ hb _ _ => hb, .refl _, fun e he _ _ _ =>
      ⟨if e.visit.bus = b then { e with mark := none } else e, ?_, ?_⟩, fun p e he _ _ _ => by cases p <;> exact he⟩
    · rw [State.modLaneBus_laneEntries]
      exact List.mem_map_of_mem he
    · split <;> exact ⟨rfl, rfl, rfl, rfl⟩

/-- The entry of an EXPECTED claim without its tag (R24). -/
def LaneEntry.clearTag (tag : Tag) (e : LaneEntry) : LaneEntry :=
  if e.state = .expected ∧ e.tag = some tag then { e with tag := none } else e

def QueueEntry.clearTag (tag : Tag) (e : QueueEntry) : QueueEntry :=
  if e.state = .expected ∧ e.tag = some tag then { e with tag := none } else e

theorem State.clearTag_laneEntries (tag : Tag) (s : State) :
    (s.clearTag tag).laneEntries = s.laneEntries.map (LaneEntry.clearTag tag) := by
  show (s.lanes.map (fun l => { l with entries := l.entries.map (LaneEntry.clearTag tag) })).flatMap (fun l => l.entries) = _
  simp [State.laneEntries, List.flatMap_map, List.map_flatMap]

theorem State.clearTag_queue (tag : Tag) (s : State) (p : PointId) :
    ((s.clearTag tag).point p).queue = (s.point p).queue.map (QueueEntry.clearTag tag) := by
  cases p <;> rfl

theorem LaneEntry.clearTag_of_ne {tag : Tag} {e : LaneEntry} (h : e.tag ≠ some tag) : e.clearTag tag = e :=
  if_neg fun hc => h hc.2

theorem QueueEntry.clearTag_of_ne {tag : Tag} {e : QueueEntry} (h : e.tag ≠ some tag) : e.clearTag tag = e :=
  if_neg fun hc => h hc.2

theorem State.clearTag_yields (tag : Tag) (s : State) : s.Yields (s.clearTag tag) where
  bids := fun _ h => h
  lanes := fun e he _ => by
    rw [State.clearTag_laneEntries] at he
    obtain ⟨y, hy, rfl⟩ := List.mem_map.1 he
    refine ⟨y, hy, ?_⟩
    unfold LaneEntry.clearTag
    split
    · exact ⟨rfl, rfl, .inr rfl⟩
    · exact ⟨rfl, rfl, .inl rfl⟩
  queue := fun p e he => by
    rw [State.clearTag_queue] at he
    obtain ⟨y, hy, rfl⟩ := List.mem_map.1 he
    refine ⟨y, hy, ?_⟩
    unfold QueueEntry.clearTag
    split
    · exact ⟨rfl, rfl, .inr rfl⟩
    · exact ⟨rfl, rfl, .inl rfl⟩
  frames := fun _ hx _ _ => hx
  reports := rfl

theorem State.clearTag_spares {tag : Tag} {h : Nat} (ht : tag.holder = h) (s : State) : s.Spares h (s.clearTag tag) where
  bids := fun _ _ hb _ _ => hb
  sub := .refl _
  lanes := fun e he tag' htag hne => by
    refine ⟨e, ?_, rfl, rfl, rfl, rfl⟩
    rw [State.clearTag_laneEntries]
    refine List.mem_map.2 ⟨e, he, LaneEntry.clearTag_of_ne fun hc => ?_⟩
    rw [htag] at hc; obtain rfl := Option.some.inj hc; exact hne ht
  queue := fun p e he tag' htag hne => by
    rw [State.clearTag_queue]
    refine List.mem_map.2 ⟨e, he, QueueEntry.clearTag_of_ne fun hc => ?_⟩
    rw [htag] at hc; obtain rfl := Option.some.inj hc; exact hne ht

theorem State.settle_yields (before s : State) : s.Yields (State.settle before s) := by
  have hends := State.settle_ends before s
  have hsends := State.settle_sends before s
  refine ⟨hsends.bids.subset, fun e he hs => ?_, fun p e he => ⟨e, by rwa [hends.point] at he, rfl, rfl, .inl rfl⟩,
    fun x hx tag hc => hsends.claim hx hc, hends.reports⟩
  obtain ⟨y, hy, hye⟩ := hends.mem_laneEntries he
  refine ⟨y, hy, ?_, ?_⟩
  · rcases hye.state with h | h
    · exact h.symm
    · simp [h] at hs
  · rw [hye.rest]
    exact ⟨rfl, .inl rfl⟩

/-- A bid that names no head outlives the end of an event. -/
theorem State.settle_spares (before : State) (h : Nat) (s : State) : s.Spares h (State.settle before s) := by
  have hends := State.settle_ends before s
  refine ⟨fun hn b hb hhead _ => ?_, (State.settle_sends before s).bids, fun e he _ _ _ => ?_,
    fun p e he _ _ _ => by rwa [hends.point]⟩
  · rw [State.settle_bids, State.dropLostHeads_hand]
    show b ∈ (s.removeBids s.lostBids).hand.bids
    rw [State.removeBids_bids]
    refine List.mem_filter.2 ⟨hb, ?_⟩
    rw [decide_eq_true_eq]
    intro hlost
    obtain ⟨b', hb', htag⟩ := List.mem_map.1 hlost
    obtain rfl : b' = b := List.inj_on_of_nodup_map hn (s.lostBids_subset hb') hb htag
    simp [State.lostBids, hhead] at hb'
  · obtain ⟨y, hy, hey⟩ := hends.laneEntries_mem he
    refine ⟨y, hy, ?_⟩
    rw [hey.rest]
    exact ⟨rfl, rfl, rfl, rfl⟩

end Sys2Proof.Machine

namespace Sys2Proof.Machine

open Sys2Proof

/-! ## What a heard OFFER supersedes (R24, R35) -/

/-- The node once the tag that an OFFER supersedes is closed (R35). -/
def State.oldClosed (h : Nat) (f : OfferFields) (s : State) : State :=
  if f.supersedes = 0 then s
  else (s.dropClaim { holder := h, number := f.supersedes }).clearMark { holder := h, number := f.supersedes }

/-- The tags of the offered bus that an OFFER closes besides (R35). -/
def State.offerCloses (h : Nat) (f : OfferFields) (s : State) : List Tag :=
  match f.cargo with
  | .visit r => s.closedTags h f.number r.bus
  | .swap _ => []

/-- The end of the supersession: the offer's own tag is no EXPECTED entry's and no mark's any longer (R24, R146). -/
def State.newCleared (before : State) (new : Tag) (s : State) : State := State.settle before ((s.clearTag new).clearMark new)

theorem State.supersede_eq (h : Nat) (f : OfferFields) (s : State) : s.supersede h f =
    State.newCleared s { holder := h, number := f.number }
      ((s.oldClosed h f).dropClaims ((s.oldClosed h f).offerCloses h f)) := by
  unfold State.supersede State.offerCloses
  cases f.cargo <;> rfl

theorem State.oldClosed_yields (h : Nat) (f : OfferFields) (s : State) : s.Yields (s.oldClosed h f) := by
  unfold State.oldClosed
  split
  · exact .refl s
  · exact (State.dropClaim_yields _ s).trans (State.clearMark_yields _ _)

theorem State.oldClosed_spares (h : Nat) (f : OfferFields) (s : State) : s.Spares h (s.oldClosed h f) := by
  unfold State.oldClosed
  split
  · exact .refl h s
  · exact (State.dropClaim_spares (h := h) rfl s).trans (State.clearMark_spares _ h _)

theorem State.newCleared_yields (before : State) (new : Tag) (s : State) : s.Yields (State.newCleared before new s) :=
  ((State.clearTag_yields new s).trans (State.clearMark_yields new _)).trans (State.settle_yields before _)

theorem State.newCleared_spares (before : State) (new : Tag) (s : State) : s.Spares new.holder (State.newCleared before new s) :=
  ((State.clearTag_spares rfl s).trans (State.clearMark_spares new _ _)).trans (State.settle_spares before _ _)

/-- The tags an OFFER closes are its holder's. -/
theorem State.closedTags_holder {h n b : Nat} {s : State} {tag : Tag} (ht : tag ∈ s.closedTags h n b) : tag.holder = h := by
  simp only [State.closedTags, List.mem_append, List.mem_map, List.mem_filterMap, List.mem_filter, Bool.and_eq_true,
    decide_eq_true_eq, Option.any_eq_true] at ht
  rcases ht with ((⟨b, ⟨-, -, tag', htag, hh, -⟩, rfl⟩ | ⟨e, ⟨-, -, tag', htag, hh, -⟩, he⟩) | ⟨e, ⟨-, -, tag', htag, hh, -⟩, he⟩) |
    ⟨e, ⟨-, -, tag', htag, hh, -⟩, he⟩
  · cases htag; exact hh
  all_goals
    rw [htag] at he
    cases he
    exact hh

theorem State.supersede_yields (h : Nat) (f : OfferFields) (s : State) : s.Yields (s.supersede h f) := by
  rw [State.supersede_eq]
  exact ((State.oldClosed_yields h f s).trans (State.dropClaims_yields _ _)).trans (State.newCleared_yields s _ _)

theorem State.supersede_spares (h : Nat) (f : OfferFields) (s : State) : s.Spares h (s.supersede h f) := by
  rw [State.supersede_eq]
  refine ((State.oldClosed_spares h f s).trans (State.dropClaims_spares (fun tag ht => ?_) _)).trans
    (State.newCleared_spares s { holder := h, number := f.number } _)
  unfold State.offerCloses at ht
  split at ht
  · exact State.closedTags_holder ht
  · simp at ht

/-- An OFFER leaves nothing of the tag it supersedes. -/
theorem State.supersede_noClaim_old {f : OfferFields} (hf : f.supersedes ≠ 0) (h : Nat) (s : State) :
    (s.supersede h f).NoClaim { holder := h, number := f.supersedes } := by
  have hold : (s.oldClosed h f).NoClaim { holder := h, number := f.supersedes } := by
    rw [State.oldClosed, if_neg hf]
    exact (State.dropClaim_noClaim _ s).of_yields (State.clearMark_yields _ _)
  rw [State.supersede_eq]
  exact (hold.of_yields (State.dropClaims_yields _ _)).of_yields (State.newCleared_yields s _ _)

/-- An OFFER of a bus leaves nothing of the tags it closes. -/
theorem State.supersede_noClaim {f : OfferFields} {h : Nat} {s : State} {tag : Tag}
    (ht : tag ∈ (s.oldClosed h f).offerCloses h f) : (s.supersede h f).NoClaim tag := by
  rw [State.supersede_eq]
  exact (State.dropClaims_noClaim ht _).of_yields (State.newCleared_yields s _ _)

/-- What is left of a claim by a supersession stood there once the old tag was closed. -/
theorem State.supersede_yields_closed (h : Nat) (f : OfferFields) (s : State) : (s.oldClosed h f).Yields (s.supersede h f) := by
  rw [State.supersede_eq]
  exact (State.dropClaims_yields _ _).trans (State.newCleared_yields s _ _)

section
variable {s : State} {h n : Nat} {tag : Tag} (hh : tag.holder = h) (hn : tag.number ≠ n)
include hh hn

theorem State.closedTags_of_bid {b : BidEntry} (hb : b ∈ s.hand.bids) (hs : b.stage ≠ .swap) (ht : b.tag = tag) :
    tag ∈ s.closedTags h n b.bus := by
  simp only [State.closedTags, List.append_assoc]
  refine List.mem_append_left _ (List.mem_map.2 ⟨b, List.mem_filter.2 ⟨hb, ?_⟩, ht⟩)
  simp [hs, ht, hh, hn]

theorem State.closedTags_of_queue {p : PointId} {e : QueueEntry} (he : e ∈ (s.point p).queue) (hs : e.state = .expected)
    (ht : e.tag = some tag) : tag ∈ s.closedTags h n e.visit.bus := by
  have hclosed : tag ∈ ((s.point p).queue.filter (fun x => decide (x.visit.bus = e.visit.bus) && decide (x.state = .expected) &&
      x.tag.any (fun t => decide (t.holder = h) && decide (t.number ≠ n)))).filterMap (fun x => x.tag) :=
    List.mem_filterMap.2 ⟨e, List.mem_filter.2 ⟨he, by simp [hs, ht, hh, hn]⟩, ht⟩
  simp only [State.closedTags, List.mem_append]
  cases p
  · exact .inl (.inl (.inr hclosed))
  · exact .inl (.inr hclosed)

theorem State.closedTags_of_lane {e : LaneEntry} (he : e ∈ s.laneEntries) (hs : e.state = .expected)
    (ht : e.tag = some tag) : tag ∈ s.closedTags h n e.visit.bus := by
  simp only [State.closedTags, List.mem_append]
  exact .inr (List.mem_filterMap.2 ⟨e, List.mem_filter.2 ⟨he, by simp [hs, ht, hh, hn]⟩, ht⟩)

end

/-! ## The bid an OFFER draws (R30, R31) -/

theorem State.mayBid_eq_false {s : State} {h : Nat} {f : OfferFields}
    (hc : s.inService = false ∨ Config.bidCapacity ≤ s.hand.bids.length ∨
      (∃ b ∈ s.hand.bids, b.tag = { holder := h, number := f.number }) ∨
      (∃ r, f.cargo = .visit r ∧ ((∃ e ∈ s.laneEntries, e.visit.bus = r.bus) ∨
        (∃ p, ∃ e ∈ (s.point p).queue, e.visit.bus = r.bus) ∨ ∃ b ∈ s.hand.bids, b.stage ≠ .swap ∧ b.bus = r.bus))) :
    s.mayBid h f = false := by
  rw [Bool.eq_false_iff]
  intro hm
  obtain ⟨hs, hroom, hnew, hbus⟩ := State.mayBid_spec hm
  rcases hc with hc | hc | ⟨b, hb, ht⟩ | ⟨r, hr, hc⟩
  · simp [hs] at hc
  · omega
  · exact hnew b hb ht
  · obtain ⟨hno, hbid⟩ := hbus r hr
    obtain ⟨hlane, hqueue⟩ := State.holdsEntry_eq_false hno
    rcases hc with ⟨e, he, heb⟩ | ⟨p, e, he, heb⟩ | ⟨b, hb, hstage, hbb⟩
    · obtain ⟨l, hl, hel⟩ := List.mem_flatMap.1 he
      obtain ⟨n, hn⟩ := List.getElem?_of_mem hl
      exact hlane n e (mem_entriesAt.2 ⟨l, hn, hel⟩) heb
    · exact hqueue p e he heb
    · exact hbid b hb hstage hbb

/-- A bid that the transmit queue has room for (R31). -/
def State.bidMade (b : BidEntry) (s : State) : State :=
  State.send (.bid b.tag b.bus b.value b.head)
    (State.placeTentative b { s with hand := { s.hand with bids := s.hand.bids ++ [b] } })

section
variable {s u : State} {h : Nat} {f : OfferFields} (hu : s.supersede h f = u)
include hu

theorem State.offerHeard_of_not (hm : u.mayBid h f = false) : s.offerHeard h f = u := by
  simp [State.offerHeard, hu, hm]

theorem State.offerHeard_of_none (hd : u.decideBid h f = none) : s.offerHeard h f = u := by
  simp only [State.offerHeard, hu, hd]
  split <;> rfl

theorem State.offerHeard_of_bid {b : BidEntry} (hm : u.mayBid h f = true) (hd : u.decideBid h f = some b)
    (hroom : u.canPlace .normal = true) : s.offerHeard h f = u.bidMade b := by
  simp only [State.offerHeard, hu, hm, hd, if_true]
  exact if_pos hroom

end

theorem State.placeTentative_hand (b : BidEntry) (s : State) : (s.placeTentative b).hand = s.hand := by
  unfold State.placeTentative
  split
  · rfl
  · next p _ _ => cases p <;> rfl
  · rfl

theorem State.placeTentative_line (b : BidEntry) (s : State) : (s.placeTentative b).line = s.line := by
  unfold State.placeTentative
  split
  · rfl
  · next p _ _ => cases p <;> rfl
  · rfl

theorem State.bidMade_hand (b : BidEntry) (s : State) : (s.bidMade b).hand = { s.hand with bids := s.hand.bids ++ [b] } := by
  rw [State.bidMade, State.send_hand, State.placeTentative_hand]

theorem State.bidMade_still (b : BidEntry) (s : State) : (s.bidMade b).still = s.still := by
  rw [State.bidMade, State.send_still, State.placeTentative_still]; rfl

theorem State.bidMade_lanes (b : BidEntry) (s : State) : (s.bidMade b).lanes =
    (State.placeTentative b { s with hand := { s.hand with bids := s.hand.bids ++ [b] } }).lanes :=
  State.lanes_of_offers (State.send_sansOffers _ _)

theorem State.bidMade_point (b : BidEntry) (s : State) (p : PointId) : (s.bidMade b).point p =
    (State.placeTentative b { s with hand := { s.hand with bids := s.hand.bids ++ [b] } }).point p :=
  State.point_of_offers (State.send_sansOffers _ _) p

theorem State.bidMade_sent {b : BidEntry} {s : State} (hroom : s.canPlace .normal = true) :
    ∃ x ∈ (s.bidMade b).line.transmit, x.body = .bid b.tag b.bus b.value b.head ∧ x.destination = 15 ∧ x.cls = .normal := by
  refine ⟨_, State.mem_place _ _ _ ?_, rfl, rfl, rfl⟩
  have hsame : ∀ u v : State, u.line = v.line → u.canPlace .normal = v.canPlace .normal := fun u v huv => by
    simp [State.canPlace, State.transmitFull, huv]
  exact (hsame _ _ (State.placeTentative_line b _)).trans hroom

/-- The lane a berth bid names is one of the node's. -/
theorem State.berthBid_lane {s : State} {r : VisitRecord} {b : Nat × Nat} (h : s.berthBid r = some b) : b.1 < s.lanes.length := by
  unfold State.berthBid at h
  obtain ⟨best, hbest, rfl⟩ := Option.map_eq_some_iff.1 h
  refine List.foldlRecOn (motive := fun acc => ∀ x, acc = some x → x.1 < s.lanes.length) _ _ (by simp)
    (fun acc hacc n hn x hx => ?_) best hbest
  have hlane : n < s.lanes.length := List.mem_range.1 hn
  split at hx
  · exact hacc x hx
  · unfold betterLane at hx
    split at hx
    · obtain rfl := Option.some.inj hx
      exact hlane
    · split at hx
      · obtain rfl := Option.some.inj hx
        exact hlane
      · obtain rfl := Option.some.inj hx
        exact hacc _ rfl

/-- Of the two points it is the cheaper one, and point 0 of equal ones. -/
theorem bestPoint_eq {price : PointId → Option Nat} {p : PointId} {v : Nat} (hv : price p = some v)
    (hbest : ∀ w, price p.other = some w → v < w ∨ (v = w ∧ p = .p0)) : bestPoint (price .p0) (price .p1) = some (p, v) := by
  cases p with
  | p0 =>
    cases hw : price .p1 with
    | none => simp [bestPoint, hv]
    | some w =>
      have hle : ¬ w < v := by rcases hbest w hw with h | ⟨h, -⟩ <;> omega
      simp [bestPoint, hv, hle]
  | p1 =>
    cases hw : price .p0 with
    | none => simp [bestPoint, hv]
    | some w =>
      have hlt : v < w := by
        rcases hbest w hw with h | ⟨-, h⟩
        · exact h
        · simp at h
      simp [bestPoint, hv, hlt]

end Sys2Proof.Machine

namespace Sys2Proof.Machine

open Sys2Proof

/-! ## Hearing an OFFER, by the outcomes of R30 -/

/-- The bid entry for a bus at a lane or point. -/
def visitBid (h : Nat) (g : OfferFields) (copy : VisitRecord) (resource : Resource) (v : Nat) : BidEntry :=
  { tag := { holder := h, number := g.number }, bus := copy.bus, stage := g.cargo.stage, copy := some copy, resource := resource,
    value := v, head := none, asked := none, state := .computed, heard := [], waitOver := false, noBinding := false }

section
variable {u : State} {h : Nat} {g : OfferFields} {r : VisitRecord}

theorem State.decideBid_of_berth {n v : Nat} (hg : g.cargo = .visit r) (hr : r.next = .berth) (hb : u.berthBid r = some (n, v)) :
    u.decideBid h g = some (visitBid h g { r with next := .parked } (.lane n) v) := by
  simp [State.decideBid, hg, hr, hb, visitBid]

/-- What a point would bid for a record, by its stage. -/
def State.pointPrice (u : State) (r : VisitRecord) (p : PointId) : Option Nat :=
  if r.next = .fuel then u.fuelBid p r else u.washBid p r

theorem State.decideBid_of_point {p : PointId} {v : Nat} (hg : g.cargo = .visit r) (hr : r.next = .fuel ∨ r.next = .wash)
    (hv : u.pointPrice r p = some v) (hbest : ∀ w, u.pointPrice r p.other = some w → v < w ∨ (v = w ∧ p = .p0)) :
    u.decideBid h g = some (visitBid h g r (.point p) v) := by
  have hpoint := bestPoint_eq hv hbest
  rcases hr with hr | hr <;> simp only [State.pointPrice, hr, if_true, reduceCtorEq, if_false] at hpoint <;>
    simp [State.decideBid, hg, hr, hpoint, visitBid]

theorem State.decideBid_eq_none
    (hvisit : ∀ r, g.cargo = .visit r →
      (r.next = .fuel → u.fuelBid .p0 r = none ∧ u.fuelBid .p1 r = none) ∧
      (r.next = .wash → u.washBid .p0 r = none ∧ u.washBid .p1 r = none) ∧
      (r.next = .berth ∨ r.next = .parked → u.berthBid r = none))
    (hswap : ∀ q, g.cargo = .swap q → h = u.loader.address ∨ u.swapBid q = none) : u.decideBid h g = none := by
  cases hg : g.cargo with
  | swap q => rcases hswap q hg with e | e <;> simp [State.decideBid, hg, e]
  | visit r =>
    obtain ⟨hfuel, hwash, hberth⟩ := hvisit r hg
    cases hr : r.next with
    | fuel => simp [State.decideBid, hg, hr, hfuel hr, bestPoint]
    | wash => simp [State.decideBid, hg, hr, hwash hr, bestPoint]
    | berth => simp [State.decideBid, hg, hr, hberth (.inl hr)]
    | parked => simp [State.decideBid, hg, hr, hberth (.inr hr)]

theorem State.decideBid_of_swap {q : SwapRequest} {n v : Nat} {x : HeadFields} (hg : g.cargo = .swap q)
    (hh : h ≠ u.loader.address) (hb : u.swapBid q = some (n, v, x)) : ∃ b, u.decideBid h g = some b ∧
      b.tag = { holder := h, number := g.number } ∧ b.bus = 0 ∧ b.stage = .swap ∧ b.copy = none ∧
      b.resource = .lane n ∧ b.value = v ∧ b.head = some x ∧ b.asked = some q ∧ b.state = .computed := by
  simp [State.decideBid, hg, hh, hb, Cargo.stage]

/-- A berth bid's TENTATIVE entry stands at the tail of its lane. -/
theorem State.bidMade_lane {b : BidEntry} {n : Nat} {x : VisitRecord} {l : Lane} (hr : b.resource = .lane n)
    (hc : b.copy = some x) (hl : u.lanes[n]? = some l) : (u.bidMade b).lanes = u.lanes.set n { l with entries := l.entries ++
      [{ visit := x, state := .tentative, tag := some b.tag, value := some b.value, deadline := none,
         unconfirmed := false, recordAwaited := none, ask := .none, mark := none }] } := by
  rw [State.bidMade_lanes]
  simp only [State.placeTentative, hr, hc]
  exact modify_eq_set hl _

theorem State.bidMade_lane_point {b : BidEntry} {n : Nat} (hr : b.resource = .lane n) (p : PointId) :
    (u.bidMade b).point p = u.point p := by
  rw [State.bidMade_point]
  unfold State.placeTentative
  rw [hr]
  cases b.copy <;> cases p <;> rfl

/-- A point's bid has its TENTATIVE entry at the tail of its queue, and none in a lane or at the other point. -/
theorem State.bidMade_at_point {b : BidEntry} {p : PointId} {x : VisitRecord} (hr : b.resource = .point p)
    (hc : b.copy = some x) : (u.bidMade b).point p = { u.point p with queue := (u.point p).queue ++
      [{ visit := x, state := .tentative, tag := some b.tag, value := some b.value, deadline := none,
         recordAwaited := none, justServed := false, passedOn := false }] } ∧
      (u.bidMade b).point p.other = u.point p.other ∧ (u.bidMade b).lanes = u.lanes := by
  rw [State.bidMade_point, State.bidMade_point, State.bidMade_lanes]
  simp only [State.placeTentative, hr, hc]
  cases p <;> exact ⟨rfl, rfl, rfl⟩

theorem State.bidMade_no_copy {b : BidEntry} (hc : b.copy = none) (p : PointId) :
    (u.bidMade b).lanes = u.lanes ∧ (u.bidMade b).point p = u.point p := by
  have hnone : ∀ v : State, v.placeTentative b = v := fun v => by
    unfold State.placeTentative
    rw [hc]
  rw [State.bidMade_point, State.bidMade_lanes, hnone]
  cases p <;> exact ⟨rfl, rfl⟩

end

/-- What is fixed through an event is the address. -/
theorem State.address_of_steady {s t : State} (h : t.steady = s.steady) : t.loader.address = s.loader.address := by
  simp only [State.steady, Prod.mk.injEq] at h
  obtain ⟨-, -, -, -, ha, -⟩ := h
  exact ha

/-- An OFFER that reaches its owner is heard. -/
theorem exec_offer {s : State} {f : RxFrame} {h : Nat} {g : OfferFields} (hacc : s.accepts f .offer h)
    (hg : offerFields f.payload s.clock.dayLength = some g) : exec (.offer f) s = .next (s.heard.offerHeard h g) := by
  refine congrArg Host.Outcome.next ((State.receive_of_accepts hacc _).trans ?_)
  simp [State.onOffer, hg]

/-- What a bus's claims become where its OFFER is heard (R35). -/
theorem State.supersede_of_bus {s : State} {h : Nat} {g : OfferFields} {r : VisitRecord} (hg : g.cargo = .visit r) {tag : Tag}
    (hh : tag.holder = h) (hn : tag.number ≠ g.number) :
    (∀ b ∈ (s.supersede h g).hand.bids, b.stage ≠ .swap → b.bus = r.bus → b.tag ≠ tag) ∧
      (∀ e ∈ (s.supersede h g).laneEntries, e.state = .expected → e.visit.bus = r.bus → e.tag ≠ some tag) ∧
      (∀ p, ∀ e ∈ ((s.supersede h g).point p).queue, e.state = .expected → e.visit.bus = r.bus → e.tag ≠ some tag) := by
  have hy := State.supersede_yields_closed h g s
  have hcloses : (s.oldClosed h g).offerCloses h g = (s.oldClosed h g).closedTags h g.number r.bus := by
    rw [State.offerCloses, hg]
  have gone : tag ∈ (s.oldClosed h g).closedTags h g.number r.bus → (s.supersede h g).NoClaim tag :=
    fun ht => State.supersede_noClaim (by rw [hcloses]; exact ht)
  refine ⟨fun b hb hs hbus ht => ?_, fun e he hs hbus ht => ?_, fun p e he hs hbus ht => ?_⟩
  · refine (gone ?_).bids b hb ht
    rw [← hbus]
    exact State.closedTags_of_bid hh hn (hy.bids hb) hs ht
  · obtain ⟨y, hy', hstate, hv, htag⟩ := hy.lanes e he (.inr hs)
    refine (gone ?_).lanes e he (.inr hs) ht
    rw [← hbus, ← hv]
    refine State.closedTags_of_lane hh hn hy' (hstate.trans hs) ?_
    rcases htag with htag | htag
    · rw [← htag]; exact ht
    · simp [ht] at htag
  · obtain ⟨y, hy', hstate, hv, htag⟩ := hy.queue p e he
    refine (gone ?_).queue p e he (.inr hs) ht
    rw [← hbus, ← hv]
    refine State.closedTags_of_queue hh hn hy' (hstate.trans hs) ?_
    rcases htag with htag | htag
    · rw [← htag]; exact ht
    · simp [ht] at htag

end Sys2Proof.Machine

namespace Sys2Proof
open Sys2Proof.Machine

/-- Settles O38: what an OFFER supersedes goes first, and the bid is the one entry R30 decides on. -/
theorem offerDrawsABid : Obligations.OfferDrawsABid := by
  refine ⟨fun s f h g hacc hg => ?_, fun s h g hsup => ?_, fun s h g r hg => ?_⟩
  · have haddress : (s.heard.supersede h g).loader.address = s.loader.address :=
      State.address_of_steady (State.supersede_steady h g s.heard)
    rw [exec_offer hacc hg]
    generalize hu : s.heard.supersede h g = u at haddress ⊢
    refine ⟨fun hc => ?_, fun hvisit hswap => ?_, fun r n v hr hnext hm hb hroom => ⟨_, rfl, ?_⟩,
      fun r p v hr hnext hm hprice hroom => ⟨_, rfl, ?_⟩, fun q n v head hq hne hm hb hroom => ⟨_, rfl, ?_⟩⟩
    · rw [State.offerHeard_of_not hu (State.mayBid_eq_false hc)]
    · rw [State.offerHeard_of_none hu (State.decideBid_eq_none hvisit (by rw [haddress]; exact hswap))]
    · have hd := State.decideBid_of_berth (h := h) hr hnext hb
      obtain ⟨l, hl⟩ : ∃ l, u.lanes[n]? = some l :=
        ⟨_, List.getElem?_eq_getElem (State.berthBid_lane hb)⟩
      have hstage : g.cargo.stage = .berth := by simp [hr, Cargo.stage, VisitRecord.stage, hnext]
      rw [State.offerHeard_of_bid hu hm hd hroom]
      refine ⟨⟨l, hl, State.bidMade_lane rfl rfl hl⟩, ?_, State.bidMade_sent hroom, State.bidMade_still _ _,
        State.bidMade_lane_point rfl⟩
      rw [State.bidMade_hand, visitBid, hstage]
    · have hd := State.decideBid_of_point (h := h) hr hnext hprice.1 hprice.2
      rw [State.offerHeard_of_bid hu hm hd hroom]
      obtain ⟨hpoint, hother, hlanes⟩ := State.bidMade_at_point (u := u) (b := visitBid h g r (.point p) v) rfl rfl
      obtain ⟨x, hx, hbody, hdest, -⟩ := State.bidMade_sent (b := visitBid h g r (.point p) v) hroom
      exact ⟨hpoint, ⟨_, State.bidMade_hand _ _, rfl, rfl, rfl, rfl, rfl, rfl⟩, ⟨x, hx, hbody, hdest⟩, hlanes, hother,
        State.bidMade_still _ _⟩
    · obtain ⟨b, hd, htag, hbus, hstage, hcopy, hres, hval, hhead, hasked, hstate⟩ :=
        State.decideBid_of_swap hq (by rw [haddress]; exact hne) hb
      rw [State.offerHeard_of_bid hu hm hd hroom]
      obtain ⟨x, hx, hbody, hdest, -⟩ := State.bidMade_sent (b := b) hroom
      refine ⟨⟨b, State.bidMade_hand _ _, htag, hbus, hstage, hcopy, hres, hval, hhead, hasked, hstate⟩,
        ⟨x, hx, ?_, hdest⟩, (State.bidMade_no_copy hcopy .p0).1, fun p => (State.bidMade_no_copy hcopy p).2,
        State.bidMade_still _ _⟩
      rw [hbody, htag, hbus, hval, hhead]
  · obtain ⟨hb, hl, hq, hx⟩ := State.supersede_noClaim_old hsup h s
    exact ⟨hb, hl, hq, hx, (State.supersede_yields h g s).reports⟩
  · have hyields := State.supersede_yields h g s
    have hspares := State.supersede_spares h g s
    have hgone := fun (tag : Tag) => State.supersede_of_bus (s := s) (h := h) (tag := tag) hg
    generalize s.supersede h g = t at hyields hspares hgone
    refine ⟨fun b hb hs hbus ho => ?_, fun e he hs hbus tag ht ho => ?_, fun p e he hs hbus tag ht ho => ?_,
      fun hn b hb _ hhead hne => hspares.bids hn b hb hhead hne, hspares.lanes, hspares.queue, hyields.reports⟩
    · exact (hgone b.tag ho.1 ho.2).1 b hb hs hbus rfl
    · exact (hgone tag ho.1 ho.2).2.1 e he hs hbus ht
    · exact (hgone tag ho.1 ho.2).2.2 p e he hs hbus ht

end Sys2Proof

namespace Sys2Proof.Machine

open Sys2Proof

/-! ## Offers and frames of a node that has begun anew (R44, R180) -/

/-- The item as a soft restart leaves it, but for an offer started anew. -/
def State.itemFresh (m : Nat) (s : State) (i : OutItem) : Prop :=
  i.ready = m ∧ i.lastNumber = 0 ∧ (i.offerCount = 0 ∨ (i.offerCount = 1 ∧ ∃ o, s.hand.offer = some o ∧ o.key = i.key))

/-- The hand-over state and the frames of a node that a soft restart has emptied, but for the frame of an open offer. -/
structure State.Cleared (m n : Nat) (s : State) : Prop where
  clock : s.clock.m = m
  bids : s.hand.bids = []
  items : ∀ i ∈ s.hand.outbound, s.itemFresh m i
  offer : ∀ o, s.hand.offer = some o → o.phase = .queued ∧ o.takes = []
  frames : ∀ x ∈ s.line.transmit, x.sending = false ∧ n ≤ x.order
  next : n ≤ s.line.nextOrder

/-- The hand-over state and the frames of a node that a soft restart has emptied: what it holds since was placed at minute `m`
under entry orders from `n` on, the OFFER of an open offer too. -/
structure State.Fresh (m n : Nat) (s : State) : Prop extends s.Cleared m n where
  sent : ∀ o, s.hand.offer = some o → ∃ x ∈ s.line.transmit, ∃ cargo, x.body = .offer o.number 0 cargo

section
variable {m n : Nat} {s t : State}

theorem State.Cleared.of_hand (h : s.Cleared m n) (hc : t.clock = s.clock) (hh : t.hand = s.hand)
    (hf : ∀ x ∈ t.line.transmit, x.sending = false ∧ n ≤ x.order) (hn : n ≤ t.line.nextOrder) : t.Cleared m n :=
  ⟨hc ▸ h.clock, hh ▸ h.bids, fun i hi => by simpa only [State.itemFresh, hh] using h.items i (hh ▸ hi),
    fun o ho => h.offer o (hh ▸ ho), hf, hn⟩

theorem State.Cleared.place (h : s.Cleared m n) (b : FrameBody) (d : Nat) : (s.place b d).Cleared m n := by
  have heq := State.place_eq b d s
  refine h.of_hand (by rw [heq]) (by rw [heq]) (fun x hx => ?_) (h.next.trans ?_)
  · rcases State.mem_of_mem_place hx with rfl | hx
    · exact ⟨rfl, h.next⟩
    · exact h.frames x hx
  · rcases State.place_cases b d s with ⟨-, e⟩ | ⟨-, -, -, e⟩ | ⟨-, e⟩ <;> rw [e]
    · exact Nat.le_succ _
    · exact Nat.le_succ _

/-- An operation on lanes, points or outputs. -/
theorem State.Fresh.of_same (h : s.Fresh m n) (hc : t.clock = s.clock) (hh : t.hand = s.hand) (hl : t.line = s.line) :
    t.Fresh m n :=
  ⟨h.toCleared.of_hand hc hh (hl ▸ h.frames) (hl ▸ h.next), fun o ho => hl ▸ h.sent o (hh ▸ ho)⟩

theorem State.Fresh.owes (h : s.Fresh m n) : s.owesReoffer = false := by
  cases ho : s.hand.offer with
  | none => simp [State.owesReoffer, ho]
  | some o => simp [State.owesReoffer, ho, (h.offer o ho).1]

theorem State.Fresh.dropFrames {p : FrameBody → Bool} (h : s.Fresh m n) (hp : ∀ b, b.isOffer = true → p b = false) :
    (s.dropFrames p).Fresh m n := by
  refine ⟨h.toCleared.of_hand rfl rfl (fun x hx => h.frames x (State.mem_dropFrames.1 hx).1) h.next, fun o ho => ?_⟩
  obtain ⟨x, hx, cargo, hbody⟩ := h.sent o ho
  exact ⟨x, State.mem_dropFrames.2 ⟨hx, .inr (hp _ (by rw [hbody]; rfl))⟩, cargo, hbody⟩

theorem State.Fresh.place (h : s.Fresh m n) (b : FrameBody) (d : Nat) : (s.place b d).Fresh m n := by
  have hhand : (s.place b d).hand = s.hand := by rw [State.place_eq]
  refine ⟨h.toCleared.place b d, fun o ho => ?_⟩
  obtain ⟨x, hx, cargo, hbody⟩ := h.sent o (hhand ▸ ho)
  exact ⟨x, State.place_keeps hx (TxFrame.displaceable_of_offer (by rw [hbody]; rfl)), cargo, hbody⟩

theorem State.Fresh.report (h : s.Fresh m n) (b : ReportBody) : (s.report b).Fresh m n := by
  have hhead : ∀ u : State, u.Fresh m n → u.placeHeadReport.Fresh m n := by
    intro u hu
    unfold State.placeHeadReport
    repeat' split
    · exact hu.of_same rfl rfl rfl
    · exact hu
    · exact State.Fresh.place (hu.of_same (by rfl) (by rfl) (by rfl)) _ _
  have hset : ∀ l, (s.countReport.setReports l).Fresh m n := fun l => h.of_same rfl rfl rfl
  unfold State.report
  dsimp only
  split
  · exact h
  · split
    · split
      · exact hhead _ (hset _)
      · exact hset _
    · split
      · exact hset _
      · exact hhead _ ((hset _).dropFrames (fun b hb => by cases b <;> simp [FrameBody.isOffer] at hb; rfl))

theorem State.Fresh.startOffer {it : OutItem} (h : s.Fresh m n) (ho : s.hand.offer = none) (hit : it ∈ s.hand.outbound) :
    (s.startOffer it).Fresh m n := by
  have hzero : ∀ i ∈ s.hand.outbound, i.offerCount = 0 := fun i hi => by
    obtain ⟨-, -, hc | ⟨-, o, hoff, -⟩⟩ := h.items i hi
    · exact hc
    · simp [ho] at hoff
  rcases State.startOffer_cases it s with ⟨hroom, e⟩ | ⟨-, e⟩ <;> rw [e]
  swap
  · exact ⟨⟨h.clock, h.bids, h.items, h.offer, h.frames, h.next⟩, h.sent⟩
  refine ⟨State.Cleared.place (s := State.setOffer _ (s.takeNumber.modItem it.key _))
    ⟨h.clock, h.bids, fun i hi => ?_, fun o hoff => ?_, h.frames, h.next⟩ _ _, fun o hoff => ?_⟩
  · obtain ⟨j, hj, rfl⟩ := State.mem_modItem.1 (show i ∈ (s.takeNumber.modItem it.key _).hand.outbound from hi)
    obtain ⟨hr, hl, -⟩ := h.items j hj
    split
    · next hk => exact ⟨hr, hl, .inr ⟨rfl, _, rfl, hk.symm⟩⟩
    · exact ⟨hr, hl, .inl (hzero j hj)⟩
  · obtain rfl := Option.some.inj hoff
    exact ⟨rfl, rfl⟩
  · rw [State.send_hand] at hoff
    obtain rfl := Option.some.inj hoff
    exact ⟨_, State.mem_place _ _ _ hroom, it.cargo, by rw [(h.items it hit).2.1]⟩

theorem State.Fresh.offerTest (h : s.Fresh m n) : s.offerTest.Fresh m n := by
  rcases State.offerTest_cases s with e | ⟨-, o, ho, hp, -⟩ | ⟨-, ho, it, rest, hl, -, e⟩
  · rw [e]; exact h
  · simp [(h.offer o ho).1] at hp
  · rw [e]; exact h.startOffer ho (by rw [hl]; simp)

/-- Items taken out with their open offer. -/
theorem State.Fresh.removeCancelled (h : s.Fresh m n) (k : ItemKey) : ((s.cancelOffer k).removeItem k).Fresh m n := by
  unfold State.cancelOffer
  split
  · next o ho =>
    split
    · next hk =>
      refine ⟨⟨h.clock, h.bids, fun i hi => ?_, fun o' ho' => by simp [State.removeItem] at ho',
        fun x hx => h.frames x (State.mem_dropFrames.1 hx).1, h.next⟩, fun o' ho' => by simp [State.removeItem] at ho'⟩
      obtain ⟨hmem, hne⟩ := State.mem_removeItem.1 hi
      obtain ⟨hr, hl, hc | ⟨-, o', ho', hk'⟩⟩ := h.items i hmem
      · exact ⟨hr, hl, .inl hc⟩
      · rw [ho] at ho'
        obtain rfl := Option.some.inj ho'
        exact absurd (hk'.symm.trans hk) hne
    · exact ⟨⟨h.clock, h.bids, fun i hi => h.items i (State.mem_removeItem.1 hi).1, h.offer, h.frames, h.next⟩, h.sent⟩
  · exact ⟨⟨h.clock, h.bids, fun i hi => h.items i (State.mem_removeItem.1 hi).1, h.offer, h.frames, h.next⟩, h.sent⟩

theorem State.Fresh.dropRuns (runs : List Nat) : ∀ {s : State}, s.Fresh m n → (s.dropRuns runs).Fresh m n := by
  induction runs with
  | nil => exact fun h => h
  | cons r runs ih => exact fun h => ih (h.removeCancelled (.swapRun r))

theorem State.Fresh.withdrawSwaps (h : s.Fresh m n) : s.withdrawSwaps.Fresh m n := by
  rcases State.withdrawSwaps_cases s with ⟨-, e⟩ | ⟨-, e⟩ <;> rw [e]
  · exact h
  · exact (h.dropRuns _).offerTest

theorem State.Fresh.headTest (h : s.Fresh m n) (k : Nat) : (s.headTest k).Fresh m n := by
  rcases State.headTest_cases k s with e | ⟨-, -, e, -, -, eq⟩
  · rw [e]; exact h
  · rw [eq]
    exact (State.Fresh.place (h.of_same (by rfl) (by rfl) (by rfl)) _ _).withdrawSwaps

theorem State.Fresh.dropLostHeads (h : s.Fresh m n) : s.dropLostHeads.Fresh m n := by
  have hlost : s.lostBids = [] := by simp [State.lostBids, h.bids]
  rcases State.dropLostHeads_cases s with ⟨-, e⟩ | e <;> rw [e, hlost]
  · exact h
  · exact h.of_same rfl rfl rfl

theorem State.Fresh.settle (h : s.Fresh m n) (before : State) : (State.settle before s).Fresh m n :=
  State.settle_induction (P := State.Fresh m n) h.dropLostHeads.withdrawSwaps (fun _ k ht => ht.headTest k)

/-- A record joins with the present minute (R21). -/
theorem State.Fresh.join (h : s.Fresh m n) (c : Cargo) (p : Option GuidePlace) : (s.join c p).Fresh m n := by
  rcases State.join_cases c p s with ⟨-, e⟩ | ⟨-, e⟩ <;> rw [e]
  · exact h
  · refine State.Fresh.offerTest ⟨⟨h.clock, h.bids, fun i hi => ?_, h.offer, h.frames, h.next⟩, h.sent⟩
    rcases List.mem_cons.1 ((insertItem_perm _ _).mem_iff.1 hi) with rfl | hi
    · exact ⟨h.clock, rfl, .inl rfl⟩
    · exact h.items i hi

theorem State.Fresh.modPoint (h : s.Fresh m n) (p : PointId) (f : Point → Point) : (s.modPoint p f).Fresh m n := by
  cases p <;> exact h.of_same rfl rfl rfl

theorem State.Fresh.askJoin (h : s.Fresh m n) (p : PointId) (b : Nat) : (s.askJoin p b).Fresh m n := by
  rcases State.askJoin_cases p b s with ⟨e, -, -, -, -, eq⟩ | ⟨-, eq⟩ <;> rw [eq]
  · exact (h.modPoint p _).join _ _
  · exact h

theorem State.Fresh.endFuel (h : s.Fresh m n) (p : PointId) (o : FuelOutcome) (left : Bool) : (s.endFuel p o left).Fresh m n := by
  cases hs : (s.point p).serving? with
  | none => rw [State.endFuel_of_none hs]; exact h
  | some e => rw [State.endFuel_of_serving hs]; exact (h.modPoint p _).askJoin p _

theorem State.Fresh.startTests (p : PointId) (k : Nat) : ∀ {s : State}, s.Fresh m n → (s.startTests k p).Fresh m n := by
  induction k with
  | zero => exact fun h => h
  | succ k ih =>
    intro s h
    unfold State.startTests
    split
    · exact h
    split
    · exact h
    next e _ =>
    have hhead := h.modPoint p (Point.toHead e.visit.bus)
    split
    · exact hhead
    · exact hhead
    · next st _ _ _ =>
      have hfuel : (State.beginFuel p e st (s.modPoint p (Point.toHead e.visit.bus))).Fresh m n := by
        unfold State.beginFuel
        exact hhead.modPoint p _
      dsimp only
      split
      · split
        · exact ih ((hfuel.endFuel p .done false).modPoint p _)
        · exact hfuel.endFuel p .done false
      · exact hfuel
    · split
      · exact hhead
      · exact hhead.modPoint p _
    · exact hhead

theorem State.Fresh.testFreed (h : s.Fresh m n) (before : State) (p : PointId) : (State.testFreed before p s).Fresh m n := by
  unfold State.testFreed
  split
  · exact State.Fresh.startTests p _ h
  · exact h

/-! ### The bindings of take marks -/

theorem OutItem.mapVisit_key {f : VisitRecord → VisitRecord} (hf : ∀ r, (f r).bus = r.bus) (i : OutItem) :
    (i.mapVisit f).key = i.key := by
  obtain ⟨c, r, j, o, n, p⟩ := i
  cases c <;> simp [OutItem.mapVisit, OutItem.key, hf]

theorem OutItem.mapVisit_eq (f : VisitRecord → VisitRecord) (i : OutItem) : i.mapVisit f = { i with cargo := (i.mapVisit f).cargo } := by
  obtain ⟨c, r, j, o, n, p⟩ := i
  cases c <;> rfl

theorem TxFrame.mapVisit_eq (f : VisitRecord → VisitRecord) (x : TxFrame) : x.mapVisit f = { x with body := (x.mapVisit f).body } := by
  unfold TxFrame.mapVisit
  repeat' split
  all_goals rfl

/-- An OFFER keeps its number and the one it supersedes. -/
theorem TxFrame.mapVisit_offer (f : VisitRecord → VisitRecord) {x : TxFrame} {k sup : Nat} {c : Cargo} (h : x.body = .offer k sup c) :
    ∃ c', (x.mapVisit f).body = .offer k sup c' := by
  unfold TxFrame.mapVisit
  split
  · exact ⟨c, h⟩
  · rw [h]
    cases c
    · exact ⟨_, rfl⟩
    · exact ⟨_, h⟩

theorem State.Fresh.mapVisits (h : s.Fresh m n) {f : VisitRecord → VisitRecord} (hf : ∀ r, (f r).bus = r.bus) :
    (s.mapVisits f).Fresh m n := by
  refine ⟨⟨h.clock, by simp [State.mapVisits, h.bids], fun i hi => ?_, h.offer, fun x hx => ?_, h.next⟩, fun o ho => ?_⟩
  · obtain ⟨j, hj, rfl⟩ := List.mem_map.1 hi
    have hj' := h.items j hj
    rw [State.itemFresh, OutItem.mapVisit_key hf, OutItem.mapVisit_eq]
    exact hj'
  · obtain ⟨y, hy, rfl⟩ := List.mem_map.1 hx
    rw [TxFrame.mapVisit_eq]
    exact h.frames y hy
  · obtain ⟨x, hx, cargo, hbody⟩ := h.sent o ho
    obtain ⟨c, hc⟩ := TxFrame.mapVisit_offer f hbody
    exact ⟨_, List.mem_map_of_mem hx, c, hc⟩

theorem State.Fresh.dropChangedHeads (h : s.Fresh m n) (before : State) : (State.dropChangedHeads before s).Fresh m n := by
  have hlost : State.changedBids before s = [] := by simp [State.changedBids, h.bids]
  rcases State.dropChangedHeads_cases before s with e | e <;> rw [e, hlost]
  · exact h
  · exact h.of_same rfl rfl rfl

theorem State.Fresh.reportAdjusted (h : s.Fresh m n) (bus run wall : Nat) : (s.reportAdjusted bus run wall).Fresh m n := by
  unfold State.reportAdjusted
  split
  · exact h.report _
  · exact h

theorem State.Fresh.bindBus (h : s.Fresh m n) (bus run wall : Nat) (pinned substituted : Bool) :
    (s.bindBus bus run wall pinned substituted).Fresh m n := by
  have hbound := (h.mapVisits (bindVisit_bus bus run (Duty.bindTo s.clock run wall pinned substituted))).dropChangedHeads s
  unfold State.bindBus
  dsimp only
  split
  · exact hbound.reportAdjusted _ _ _
  · exact hbound

theorem State.Fresh.bindTaken (h : s.Fresh m n) (b : Nat) (k : TakeMark) : (s.bindTaken b k).Fresh m n := by
  have hcleared : (s.modLaneBus b (fun x => { x with mark := none })).Fresh m n := h.of_same rfl rfl rfl
  unfold State.bindTaken
  dsimp only
  split
  · exact hcleared
  · exact State.Fresh.of_same (hcleared.bindBus b k.run (k.wall.getD 0) false true) rfl rfl rfl

theorem State.Fresh.bindMarks (h : s.Fresh m n) : s.bindMarks.Fresh m n :=
  List.foldlRecOn (motive := State.Fresh m n) _ _ h (fun _ ht x _ => ht.bindTaken x.1 x.2)

end

end Sys2Proof.Machine

namespace Sys2Proof.Machine

open Sys2Proof

/-! ## What the bindings of take marks change (R147, R151) -/

/-- What a binding makes of a lane entry: its record, asking and mark alone. -/
structure LaneEntry.Bound (e e' : LaneEntry) : Prop where
  rest : e' = { e with visit := e'.visit, ask := e'.ask, mark := e'.mark }
  bus : e'.visit.bus = e.visit.bus
  mark : e'.mark = e.mark ∨ e'.mark = none

theorem LaneEntry.Bound.refl (e : LaneEntry) : e.Bound e := ⟨rfl, rfl, .inl rfl⟩

theorem LaneEntry.Bound.trans {a b c : LaneEntry} (h : a.Bound b) (h' : b.Bound c) : a.Bound c := by
  refine ⟨h'.rest.trans (by rw [h.rest]), h'.bus.trans h.bus, ?_⟩
  rcases h'.mark with e | e
  · rw [e]; exact h.mark
  · exact .inr e

structure State.Bound (s t : State) : Prop where
  lanes : List.Forall₂ LaneEntry.Bound s.laneEntries t.laneEntries
  points : ∀ p, ∃ f : VisitRecord → VisitRecord, (∀ r, (f r).bus = r.bus) ∧ t.point p = (s.point p).mapVisit f
  codes : t.field.codes = s.field.codes
  reports : ∀ r ∈ t.loader.reports, r ∈ s.loader.reports ∨ ∃ bus run wall minute, r.body = .timeAdjusted bus run wall minute

theorem Point.mapVisit_id (v : Point) : v.mapVisit id = v := by
  have hq : v.queue.map (QueueEntry.mapVisit id) = v.queue := (List.map_congr_left (fun e _ => by rfl)).trans (List.map_id _)
  simp only [Point.mapVisit, hq]

theorem State.Bound.refl (s : State) : s.Bound s :=
  ⟨List.forall₂_same.2 (fun e _ => .refl e), fun _ => ⟨id, fun _ => rfl, (Point.mapVisit_id _).symm⟩, rfl, fun _ h => .inl h⟩

theorem State.Bound.trans {s t u : State} (h : s.Bound t) (h' : t.Bound u) : s.Bound u where
  lanes := forall₂_trans (R := LaneEntry.Bound) (fun _ _ _ h h' => h.trans h') h.lanes h'.lanes
  points := fun p => by
    obtain ⟨f, hf, hp⟩ := h.points p
    obtain ⟨g, hg, hp'⟩ := h'.points p
    refine ⟨g ∘ f, fun r => (hg _).trans (hf r), ?_⟩
    rw [hp', hp]
    simp [Point.mapVisit, Function.comp_def, QueueEntry.mapVisit]
  codes := h'.codes.trans h.codes
  reports := fun r hr => (h'.reports r hr).elim (h.reports r) .inr

/-- Lane entries changed in their places. -/
theorem State.mapEntries_laneEntries (g : LaneEntry → LaneEntry) (s : State) :
    (s.setLanes (s.lanes.map (fun l => { l with entries := l.entries.map g }))).laneEntries = s.laneEntries.map g := by
  simp [State.laneEntries, List.flatMap_map, List.map_flatMap]

theorem State.Bound.of_mapEntries {s t : State} {g : LaneEntry → LaneEntry} (h : t.laneEntries = s.laneEntries.map g)
    (hg : ∀ e : LaneEntry, e.Bound (g e)) (hp : ∀ p, t.point p = s.point p) (hc : t.field.codes = s.field.codes)
    (hr : t.loader.reports = s.loader.reports) : s.Bound t :=
  ⟨by rw [h]; exact forall₂_map_right hg _, fun p => ⟨id, fun _ => rfl, (hp p).trans (Point.mapVisit_id _).symm⟩, hc,
    fun r h => .inl (hr ▸ h)⟩

theorem State.modLaneBus_bound {f : LaneEntry → LaneEntry} (hf : ∀ e : LaneEntry, e.Bound (f e)) (b : Nat) (s : State) :
    s.Bound (s.modLaneBus b f) :=
  .of_mapEntries (State.modLaneBus_laneEntries b f s) (fun e => by split; exacts [hf e, .refl e]) (fun p => by cases p <;> rfl)
    rfl rfl

theorem State.mapVisits_bound {f : VisitRecord → VisitRecord} (hf : ∀ r, (f r).bus = r.bus) (s : State) : s.Bound (s.mapVisits f) where
  lanes := by
    rw [State.mapVisits_laneEntries]
    exact forall₂_map_right (fun e => ⟨rfl, hf _, .inl rfl⟩) _
  points := fun p => ⟨f, hf, by cases p <;> rfl⟩
  codes := rfl
  reports := fun _ h => .inl h

theorem State.removeBids_laneEntries (l : List BidEntry) (s : State) : (s.removeBids l).laneEntries = s.laneEntries := by
  rw [State.laneEntries, show (s.removeBids l).lanes = s.lanes from State.foldl_removeBid_lanes _ s, ← State.laneEntries]

theorem State.removeBids_rest (l : List BidEntry) : ∀ s : State, (∀ p, (s.removeBids l).point p = s.point p) ∧
    (s.removeBids l).field = s.field ∧ (s.removeBids l).loader = s.loader := by
  induction l with
  | nil => exact fun s => ⟨fun _ => rfl, rfl, rfl⟩
  | cons e l ih => exact fun s => ih (s.removeBid e.tag)

theorem State.dropChangedHeads_bound (before s : State) : s.Bound (State.dropChangedHeads before s) := by
  obtain ⟨hp, hf, hl⟩ := State.removeBids_rest (State.changedBids before s) s
  have hgone : s.Bound (s.removeBids (State.changedBids before s)) :=
    .of_mapEntries (g := id) (by rw [State.removeBids_laneEntries, List.map_id]) .refl hp (by rw [hf]) (by rw [hl])
  rcases State.dropChangedHeads_cases before s with e | e <;> rw [e]
  · exact hgone
  · refine .of_mapEntries (g := State.unmarkChanged before s) (State.mapEntries_laneEntries _ s) (fun x => ?_) hp ?_ ?_
    · unfold State.unmarkChanged
      split
      · exact ⟨rfl, rfl, .inr rfl⟩
      · exact .refl x
    · show (State.field _).codes = _
      rw [← hf]
      rfl
    · rw [← hl]; rfl

theorem State.reportAdjusted_bound (bus run wall : Nat) (s : State) : s.Bound (s.reportAdjusted bus run wall) := by
  unfold State.reportAdjusted
  split
  · refine ⟨by rw [State.laneEntries, State.laneEntries, State.report_lanes]; exact List.forall₂_same.2 (fun e _ => .refl e),
      fun p => ⟨id, fun _ => rfl, ?_⟩, by rw [State.report_field], fun r hr => ?_⟩
    · rw [Point.mapVisit_id, State.report_eq]
      cases p <;> rfl
    · rcases State.mem_of_mem_report hr with rfl | hr
      · exact .inr ⟨_, _, _, _, rfl⟩
      · exact .inl hr
  · exact .refl s

theorem State.bindBus_bound (bus run wall : Nat) (pinned substituted : Bool) (s : State) :
    s.Bound (s.bindBus bus run wall pinned substituted) := by
  have hbound := (State.mapVisits_bound (bindVisit_bus bus run (Duty.bindTo s.clock run wall pinned substituted)) s).trans
    (State.dropChangedHeads_bound s _)
  unfold State.bindBus
  dsimp only
  split
  · exact hbound.trans (State.reportAdjusted_bound _ _ _ _)
  · exact hbound

theorem State.bindTaken_unmark (b : Nat) (k : TakeMark) (s : State) :
    (s.modLaneBus b (fun x => { x with mark := none })).Bound (s.bindTaken b k) := by
  unfold State.bindTaken
  dsimp only
  split
  · exact .refl _
  · exact (State.bindBus_bound _ _ _ _ _ _).trans (State.modLaneBus_bound (f := fun x => { x with ask := .none })
      (fun _ => ⟨rfl, rfl, .inl rfl⟩) b _)

theorem State.bindTaken_bound (b : Nat) (k : TakeMark) (s : State) : s.Bound (s.bindTaken b k) :=
  (State.modLaneBus_bound (f := fun x => { x with mark := none }) (fun _ => ⟨rfl, rfl, .inr rfl⟩) b s).trans (State.bindTaken_unmark b k s)

/-- No mark is made by a binding. -/
theorem State.Bound.unmarked {s t : State} (h : s.Bound t) {b : Nat} (hs : ∀ e ∈ s.laneEntries, e.visit.bus = b → e.mark = none) :
    ∀ e ∈ t.laneEntries, e.visit.bus = b → e.mark = none := by
  intro e he hb
  obtain ⟨y, hy, hye⟩ := exists_of_forall₂_right h.lanes he
  rcases hye.mark with hm | hm
  · rw [hm]; exact hs y hy (by rw [← hye.bus]; exact hb)
  · exact hm

/-- A mark that ends leaves its bus unmarked. -/
theorem State.bindTaken_unmarked (b : Nat) (k : TakeMark) (s : State) :
    ∀ e ∈ (s.bindTaken b k).laneEntries, e.visit.bus = b → e.mark = none := by
  refine (State.bindTaken_unmark b k s).unmarked (fun e he hb => ?_)
  rw [State.modLaneBus_laneEntries] at he
  obtain ⟨y, -, rfl⟩ := List.mem_map.1 he
  by_cases hy : y.visit.bus = b
  · rw [if_pos hy]
  · rw [if_neg hy] at hb
    exact absurd hb hy

/-- Several take marks end with their bindings. -/
def State.bindAll (l : List (Nat × TakeMark)) (s : State) : State := l.foldl (fun t x => t.bindTaken x.1 x.2) s

theorem State.bindAll_bound (l : List (Nat × TakeMark)) : ∀ s : State, s.Bound (s.bindAll l) := by
  induction l with
  | nil => exact .refl
  | cons x l ih => exact fun s => (State.bindTaken_bound x.1 x.2 s).trans (ih _)

theorem State.bindAll_unmarked {b : Nat} {l : List (Nat × TakeMark)} (h : b ∈ l.map Prod.fst) :
    ∀ s : State, ∀ e ∈ (s.bindAll l).laneEntries, e.visit.bus = b → e.mark = none := by
  induction l with
  | nil => simp at h
  | cons x l ih =>
    intro s
    rcases List.mem_cons.1 h with rfl | h
    · exact (State.bindAll_bound l _).unmarked (State.bindTaken_unmarked x.1 x.2 s)
    · exact ih h _

/-- The marks that stand, with their buses. -/
def State.marks (s : State) : List (Nat × TakeMark) := s.laneEntries.filterMap (fun e => e.mark.map (fun k => (e.visit.bus, k)))

theorem State.bindMarks_eq (s : State) : s.bindMarks = s.bindAll s.marks := rfl

/-- No take mark outlives a soft restart. -/
theorem State.bindMarks_unmarked (s : State) : ∀ e ∈ s.bindMarks.laneEntries, e.mark = none := by
  intro e he
  obtain ⟨y, hy, hye⟩ := exists_of_forall₂_right (State.bindAll_bound s.marks s).lanes he
  rcases hye.mark with hm | hm
  · cases hk : y.mark with
    | none => rw [hm, hk]
    | some k =>
      refine State.bindAll_unmarked (List.mem_map.2 ⟨(y.visit.bus, k), ?_, rfl⟩) s e he hye.bus
      exact List.mem_filterMap.2 ⟨y, hy, by rw [hk]; rfl⟩
  · exact hm

theorem State.bindMarks_of_none {s : State} (h : ∀ e ∈ s.laneEntries, e.mark = none) : s.bindMarks = s := by
  have hnone : s.marks = [] := List.filterMap_eq_nil_iff.2 (fun e he => by rw [h e he]; rfl)
  rw [State.bindMarks_eq, hnone]
  rfl

/-! ## What the start test of a freed point changes (R97, R120) -/

/-- What a start test makes of a point: no entry becomes pending, and none that is EXPECTED is touched. -/
structure Point.Tested (v v' : Point) : Prop where
  fixed : v'.rate = v.rate ∧ v'.stencil = v.stencil ∧ v'.pointer = v.pointer ∧ v'.staged = v.staged
  pending : ∀ e ∈ v'.queue, e.isFront = false → e ∈ v.queue
  noFault : v.state ≠ .fault → v.faultPending = false → v'.state ≠ .fault ∧ v'.faultPending = false
  nodup : (v.queue.map (fun e => e.visit.bus)).Nodup → (v'.queue.map (fun e => e.visit.bus)).Nodup
  expected : (v.queue.map (fun e => e.visit.bus)).Nodup → ∀ e ∈ v.queue, e.state = .expected → e ∈ v'.queue

theorem Point.Tested.refl (v : Point) : v.Tested v :=
  ⟨⟨rfl, rfl, rfl, rfl⟩, fun _ h _ => h, fun h h' => ⟨h, h'⟩, fun h => h, fun _ _ h _ => h⟩

theorem Point.Tested.trans {u v w : Point} (h : u.Tested v) (h' : v.Tested w) : u.Tested w where
  fixed := by
    obtain ⟨a, b, c, d⟩ := h.fixed
    obtain ⟨a', b', c', d'⟩ := h'.fixed
    exact ⟨a'.trans a, b'.trans b, c'.trans c, d'.trans d⟩
  pending := fun e he hs => h.pending e (h'.pending e he hs) hs
  noFault := fun hs hp => h'.noFault (h.noFault hs hp).1 (h.noFault hs hp).2
  nodup := fun hn => h'.nodup (h.nodup hn)
  expected := fun hn e he hs => h'.expected (h.nodup hn) e (h.expected hn e he hs) hs

theorem Point.toHead_tested (b : Nat) (v : Point) : v.Tested (v.toHead b) := by
  have hperm : (v.toHead b).queue.Perm v.queue := by
    have hsplit := List.filter_append_perm (fun e : QueueEntry => decide (e.visit.bus = b)) v.queue
    simpa [Point.toHead] using hsplit
  exact ⟨⟨rfl, rfl, rfl, rfl⟩, fun e he _ => hperm.mem_iff.1 he, fun h h' => ⟨h, h'⟩,
    fun hn => (hperm.map _).nodup_iff.2 hn, fun _ e he _ => hperm.mem_iff.2 he⟩

theorem Point.dropEntry_tested {b : Nat} {v : Point} {x : QueueEntry} (hx : x ∈ v.queue) (hb : x.visit.bus = b)
    (hs : x.state ≠ .expected) : v.Tested (v.dropEntry b) := by
  refine ⟨⟨rfl, rfl, rfl, rfl⟩, fun e he _ => (List.mem_filter.1 he).1, fun h h' => ⟨h, h'⟩,
    fun hn => (List.filter_sublist.map _).nodup hn, fun hn e he hexp => List.mem_filter.2 ⟨he, ?_⟩⟩
  rw [decide_eq_true_eq]
  intro heb
  obtain rfl : e = x := List.inj_on_of_nodup_map hn he hx (heb.trans hb.symm)
  exact hs hexp

/-- The entry of a bus that is not EXPECTED becomes a standing one. -/
theorem Point.modEntry_tested {b : Nat} {v : Point} {x : QueueEntry} {g : QueueEntry → QueueEntry} (hx : x ∈ v.queue)
    (hb : x.visit.bus = b) (hs : x.state ≠ .expected) (hg : ∀ e, (g e).visit.bus = e.visit.bus)
    (hg' : ∀ e, (g e).isFront = true) : v.Tested (v.modEntry b g) := by
  have hbuses : (v.modEntry b g).queue.map (fun e => e.visit.bus) = v.queue.map (fun e => e.visit.bus) := by
    simp only [Point.modEntry, List.map_map]
    refine List.map_congr_left (fun e _ => ?_)
    simp only [Function.comp]
    split
    · exact hg e
    · rfl
  refine ⟨⟨rfl, rfl, rfl, rfl⟩, fun e he hstate => ?_, fun h h' => ⟨h, h'⟩, fun hn => by rw [hbuses]; exact hn,
    fun hn e he hexp => List.mem_map.2 ⟨e, he, if_neg fun heb => ?_⟩⟩
  · obtain ⟨y, hy, rfl⟩ := List.mem_map.1 he
    by_cases hyb : y.visit.bus = b
    · rw [if_pos hyb] at hstate
      rw [hg' y] at hstate; cases hstate
    · rwa [if_neg hyb]
  · obtain rfl : e = x := List.inj_on_of_nodup_map hn he hx (heb.trans hb.symm)
    exact hs hexp

/-- A point with its service state changed, but into no fault. -/
theorem Point.Tested.of_queue {u v w : Point} (h : u.Tested v) (hq : w.queue = v.queue)
    (hfix : w.rate = v.rate ∧ w.stencil = v.stencil ∧ w.pointer = v.pointer ∧ w.staged = v.staged)
    (hf : v.faultPending = false → w.state ≠ .fault ∧ w.faultPending = false) : u.Tested w :=
  h.trans ⟨hfix, fun _ he _ => hq ▸ he, fun _ hp => hf hp, fun hn => hq ▸ hn, fun _ _ he _ => hq ▸ he⟩

theorem State.join_point (c : Cargo) (g : Option GuidePlace) (s : State) (p : PointId) : (s.join c g).point p = s.point p :=
  State.point_of_offers (State.join_sansOffers c g s) p

theorem State.askJoin_tested (p : PointId) (b : Nat) (s : State) : (s.point p).Tested ((s.askJoin p b).point p) := by
  rcases State.askJoin_cases p b s with ⟨e, he, hb, hf, -, eq⟩ | ⟨-, eq⟩ <;> rw [eq]
  · rw [State.join_point, State.modPoint_point]
    exact Point.dropEntry_tested he hb (by simp [hf])
  · exact .refl _

theorem State.endFuel_tested (p : PointId) (o : FuelOutcome) (left : Bool) (s : State) :
    (s.point p).Tested ((s.endFuel p o left).point p) := by
  cases hs : (s.point p).serving? with
  | none => rw [State.endFuel_of_none hs]; exact .refl _
  | some e =>
    obtain ⟨hmem, hserving, -⟩ := Point.serving?_spec hs
    rw [State.endFuel_of_serving hs]
    refine Point.Tested.trans ?_ (State.askJoin_tested p _ _)
    rw [State.modPoint_point]
    have hmod := Point.modEntry_tested (g := QueueEntry.fuelled o (s.point p).delivered) hmem rfl (by simp [hserving])
      (fun _ => rfl) (fun _ => by simp [QueueEntry.fuelled, QueueEntry.isFront])
    exact hmod.of_queue rfl ⟨rfl, rfl, rfl, rfl⟩ (fun h => ⟨by simp [Point.fuelEnded], h⟩)

theorem State.startTests_tested (p : PointId) (n : Nat) : ∀ s : State, (s.point p).Tested ((s.startTests n p).point p) := by
  induction n with
  | zero => exact fun s => .refl _
  | succ n ih =>
    intro s
    unfold State.startTests
    split
    · exact .refl _
    split
    · exact .refl _
    next e he =>
    obtain ⟨hmem, hwaiting, -⟩ := Point.firstWaiting_spec he
    have hhead : (s.point p).Tested ((s.modPoint p (Point.toHead e.visit.bus)).point p) := by
      rw [State.modPoint_point]
      exact Point.toHead_tested _ _
    have hmod := Point.modEntry_tested (v := (s.point p).toHead e.visit.bus) (x := e) (b := e.visit.bus)
      (g := fun x => { x with state := .serving }) (by simp [Point.toHead, hmem]) rfl (by simp [hwaiting]) (fun _ => rfl)
      (fun _ => by simp [QueueEntry.isFront])
    split
    · exact hhead
    · exact hhead
    · next st _ _ _ =>
      have hfuel : (s.point p).Tested ((State.beginFuel p e st (s.modPoint p (Point.toHead e.visit.bus))).point p) := by
        refine (Point.toHead_tested e.visit.bus _).trans ?_
        unfold State.beginFuel
        rw [State.modPoint_point, State.modPoint_point]
        exact hmod.of_queue rfl ⟨rfl, rfl, rfl, rfl⟩ (fun h => ⟨by simp, h⟩)
      have hended := hfuel.trans (State.endFuel_tested p .done false _)
      dsimp only
      split
      · split
        · refine (hended.trans ?_).trans (ih _)
          unfold State.leaveClearing
          rw [State.modPoint_point]
          refine (Point.Tested.refl _).of_queue rfl ⟨rfl, rfl, rfl, rfl⟩ (fun h => ⟨?_, rfl⟩)
          simp [h]
        · exact hended
      · exact hfuel
    · split
      · exact hhead
      · refine (Point.toHead_tested e.visit.bus _).trans ?_
        unfold State.beginWash
        rw [State.modPoint_point, State.modPoint_point]
        exact hmod.of_queue rfl ⟨rfl, rfl, rfl, rfl⟩ (fun h => ⟨by simp, h⟩)
    · exact hhead

end Sys2Proof.Machine

namespace Sys2Proof.Machine

open Sys2Proof

/-! ## The soft restart (R44, R151, R180, R182) -/

/-- The node as the bindings of a soft restart find it: queues emptied, handover state cleared (R44, R180). -/
def State.emptied (s : State) : State := s.emptyQueues.restartHandover

/-- The node as its faulted points are freed in a soft restart (R109, R129). -/
def State.freed (s : State) : State := (s.emptied.bindMarks.freeFault .p0).freeFault .p1

theorem State.softRestart_eq (s : State) : s.softRestart =
    (State.testFreed s .p1 (State.testFreed s .p0 (State.settle s s.freed))).offerTest := rfl

theorem State.emptied_laneEntries (s : State) :
    s.emptied.laneEntries = s.laneEntries.filter (fun e => !decide (e.state = .tentative)) :=
  State.removeLaneEntries_laneEntries (fun e => decide (e.state = .tentative)) s.emptyQueues

theorem State.emptied_fresh (s : State) : s.emptied.Fresh s.clock.m s.line.nextOrder := by
  refine ⟨⟨rfl, rfl, fun i hi => ?_, fun o ho => (by cases ho), fun x hx => (by cases hx), le_rfl⟩, fun o ho => (by cases ho)⟩
  obtain ⟨j, -, rfl⟩ := List.mem_map.1 ((sortItems_perm _).mem_iff.1 hi)
  exact ⟨rfl, rfl, .inl rfl⟩

theorem State.softRestart_fresh (s : State) : s.softRestart.Fresh s.clock.m s.line.nextOrder := by
  have hbound := s.emptied_fresh.bindMarks
  have hfreed : s.freed.Fresh s.clock.m s.line.nextOrder := (hbound.modPoint .p0 _).modPoint .p1 _
  rw [State.softRestart_eq]
  exact (((hfreed.settle s).testFreed s .p0).testFreed s .p1).offerTest

/-! ### Lanes, reports and outputs -/

theorem State.testFreed_sansPoint (before : State) (p : PointId) (s : State) :
    (State.testFreed before p s).sansPoint p = s.sansPoint p := by
  unfold State.testFreed
  split
  · exact State.startTest_sansPoint p s
  · rfl

/-- The tests at the end of a soft restart change points, offers and frames. -/
theorem State.softRestart_rest (s : State) : s.softRestart.lanes = (State.settle s s.freed).lanes ∧
    s.softRestart.field = (State.settle s s.freed).field ∧
    s.softRestart.loader.reports = (State.settle s s.freed).loader.reports := by
  have h0 := State.testFreed_sansPoint s .p0 (State.settle s s.freed)
  have h1 := State.testFreed_sansPoint s .p1 (State.testFreed s .p0 (State.settle s s.freed))
  have hoff := State.offerTest_sansOffers (State.testFreed s .p1 (State.testFreed s .p0 (State.settle s s.freed)))
  rw [State.softRestart_eq]
  refine ⟨?_, ?_, ?_⟩
  · rw [State.lanes_of_offers hoff, State.lanes_of_point h1, State.lanes_of_point h0]
  · rw [State.field_of_offers hoff, State.field_of_point h1, State.field_of_point h0]
  · rw [State.reports_of_offers hoff, State.reports_of_point h1, State.reports_of_point h0]

/-- Every report after a soft restart is of a binding (R10, R151). -/
theorem State.softRestart_reports (s : State) :
    ∀ r ∈ s.softRestart.loader.reports, ∃ bus run wall minute, r.body = .timeAdjusted bus run wall minute := by
  intro r hr
  rw [s.softRestart_rest.2.2, (State.settle_ends s s.freed).reports] at hr
  rcases (State.bindAll_bound s.emptied.marks s.emptied).reports r hr with h | h
  · cases h
  · exact h

theorem State.softRestart_codes (s : State) : s.softRestart.field.codes = s.field.codes := by
  rw [s.softRestart_rest.2.1, (State.settle_ends s s.freed).codes]
  exact (State.bindAll_bound s.emptied.marks s.emptied).codes

theorem State.softRestart_still (s : State) : s.softRestart.still = s.emptyQueues.still := by
  simp [State.softRestart]

/-- What a lane entry of the freed node becomes by the end of the restart. -/
theorem State.softRestart_laneEntries (s : State) :
    (∀ e' ∈ s.softRestart.laneEntries, ∃ e ∈ s.emptied.bindMarks.laneEntries, e.Ends e') ∧
      ∀ e ∈ s.emptied.bindMarks.laneEntries, ∃ e' ∈ s.softRestart.laneEntries, e.Ends e' := by
  have hends := State.settle_ends s s.freed
  have hlanes : s.softRestart.laneEntries = (State.settle s s.freed).laneEntries := by
    rw [State.laneEntries, s.softRestart_rest.1, ← State.laneEntries]
  rw [hlanes]
  exact ⟨fun e' he' => hends.mem_laneEntries he', fun e he => hends.laneEntries_mem he⟩

/-- No lane entry is TENTATIVE or marked after a soft restart. -/
theorem State.softRestart_no_tentative (s : State) : ∀ e ∈ s.softRestart.laneEntries, e.state ≠ .tentative ∧ e.mark = none := by
  intro e' he'
  obtain ⟨e, he, hee⟩ := s.softRestart_laneEntries.1 e' he'
  obtain ⟨y, hy, hye⟩ := exists_of_forall₂_right (State.bindAll_bound s.emptied.marks s.emptied).lanes he
  rw [State.emptied_laneEntries, List.mem_filter] at hy
  have hstate : e.state = y.state := by rw [hye.rest]
  constructor
  · rcases hee.state with h | h
    · rw [h, hstate]; simpa using hy.2
    · simp [h]
  · rcases hee.mark with h | h
    · rw [h]; exact State.bindMarks_unmarked _ e he
    · exact h

/-- A lane entry that is not TENTATIVE stays, with its bus, tag, value, deadlines and flag. -/
theorem State.softRestart_keeps_entry {s : State} {e : LaneEntry} (he : e ∈ s.laneEntries) (hs : e.state ≠ .tentative) :
    ∃ e' ∈ s.softRestart.laneEntries, e'.visit.bus = e.visit.bus ∧ e'.tag = e.tag ∧ e'.value = e.value ∧
      e'.deadline = e.deadline ∧ e'.recordAwaited = e.recordAwaited ∧ e'.unconfirmed = e.unconfirmed := by
  have hmem : e ∈ s.emptied.laneEntries := by
    rw [State.emptied_laneEntries]
    exact List.mem_filter.2 ⟨he, by simp [hs]⟩
  obtain ⟨y, hy, hey⟩ := exists_of_forall₂_left (State.bindAll_bound s.emptied.marks s.emptied).lanes hmem
  obtain ⟨e', he', hye⟩ := s.softRestart_laneEntries.2 y hy
  refine ⟨e', he', ?_⟩
  rw [hye.rest]
  refine ⟨hey.bus, ?_⟩
  rw [hey.rest]
  exact ⟨rfl, rfl, rfl, rfl, rfl⟩

/-! ### The points -/

/-- A point as a soft restart leaves it before its start test: no TENTATIVE entry, no FAULT, records rebound. -/
def Point.restarted (f : VisitRecord → VisitRecord) (v : Point) : Point :=
  { v with
    queue := (v.queue.filter (fun e => !decide (e.state = .tentative))).map (QueueEntry.mapVisit f)
    state := if v.state = .fault then .idle else v.state }

theorem State.freed_point (s : State) (p : PointId) : ∃ f : VisitRecord → VisitRecord, (∀ r, (f r).bus = r.bus) ∧
    s.freed.point p = (s.point p).restarted f := by
  obtain ⟨f, hf, hp⟩ := (State.bindAll_bound s.emptied.marks s.emptied).points p
  refine ⟨f, hf, ?_⟩
  have hempty : s.emptied.point p = { s.point p with
      queue := (s.point p).queue.filter (fun e => !decide (e.state = .tentative)) } := by cases p <;> rfl
  have hfree : s.freed.point p = if (s.emptied.bindMarks.point p).state = .fault
      then { s.emptied.bindMarks.point p with state := .idle } else s.emptied.bindMarks.point p := by
    cases p <;> rfl
  rw [hfree, State.bindMarks_eq, hp, hempty]
  by_cases hs : (s.point p).state = .fault <;> simp [Point.restarted, Point.mapVisit, hs]

theorem State.testFreed_point {before : State} {q : PointId} (h : (before.point q).state ≠ .fault) (p : PointId) (s : State) :
    (State.testFreed before p s).point q = s.point q := by
  by_cases hq : q = p
  · subst hq
    rw [State.testFreed, if_neg h]
  · exact State.point_of_point (State.testFreed_sansPoint before p s) hq

theorem State.testFreed_tested (before : State) (p q : PointId) (s : State) :
    (s.point q).Tested ((State.testFreed before p s).point q) := by
  by_cases hq : q = p
  · subst hq
    unfold State.testFreed
    split
    · exact State.startTests_tested q _ s
    · exact .refl _
  · rw [State.point_of_point (State.testFreed_sansPoint before p s) hq]
    exact .refl _

/-- What a soft restart makes of a point. -/
theorem State.softRestart_point (s : State) (p : PointId) : ∃ f : VisitRecord → VisitRecord, (∀ r, (f r).bus = r.bus) ∧
    ((s.point p).restarted f).Tested (s.softRestart.point p) ∧
    ((s.point p).state ≠ .fault → s.softRestart.point p = (s.point p).restarted f) := by
  obtain ⟨f, hf, hp⟩ := s.freed_point p
  have hsettle : (State.settle s s.freed).point p = (s.point p).restarted f := by rw [(State.settle_ends s s.freed).point, hp]
  have hoff : s.softRestart.point p = (State.testFreed s .p1 (State.testFreed s .p0 (State.settle s s.freed))).point p :=
    State.point_of_offers (State.offerTest_sansOffers _) p
  refine ⟨f, hf, ?_, fun hs => ?_⟩
  · rw [← hsettle, hoff]
    exact (State.testFreed_tested s .p0 p _).trans (State.testFreed_tested s .p1 p _)
  · rw [hoff, State.testFreed_point hs, State.testFreed_point hs, hsettle]

/-- A queue entry that is EXPECTED, or stands at a point not in FAULT and is not TENTATIVE, stays. -/
theorem State.softRestart_keeps_queued {s : State} {p : PointId} (hn : ((s.point p).queue.map (fun e => e.visit.bus)).Nodup)
    {e : QueueEntry} (he : e ∈ (s.point p).queue)
    (hs : e.state = .expected ∨ (e.state ≠ .tentative ∧ (s.point p).state ≠ .fault)) :
    ∃ e' ∈ (s.softRestart.point p).queue, e'.visit.bus = e.visit.bus ∧ e'.state = e.state ∧ e'.tag = e.tag ∧
      e'.value = e.value ∧ e'.deadline = e.deadline ∧ e'.recordAwaited = e.recordAwaited := by
  obtain ⟨f, hf, htested, hsame⟩ := s.softRestart_point p
  have hnot : e.state ≠ .tentative := by
    rcases hs with h | h
    · simp [h]
    · exact h.1
  have hmem : e.mapVisit f ∈ ((s.point p).restarted f).queue :=
    List.mem_map_of_mem (List.mem_filter.2 ⟨he, by simp [hnot]⟩)
  have hnodup : (((s.point p).restarted f).queue.map (fun e => e.visit.bus)).Nodup := by
    simp only [Point.restarted, List.map_map, Function.comp_def, QueueEntry.mapVisit, hf]
    exact (List.filter_sublist.map _).nodup hn
  refine ⟨e.mapVisit f, ?_, hf _, rfl, rfl, rfl, rfl, rfl⟩
  rcases hs with h | ⟨-, h⟩
  · exact htested.expected hnodup _ hmem h
  · rw [hsame h]; exact hmem

theorem State.softRestart_no_tentative_queued (s : State) (p : PointId) :
    ∀ e ∈ (s.softRestart.point p).queue, e.state ≠ .tentative := by
  intro e he hs
  obtain ⟨f, -, htested, -⟩ := s.softRestart_point p
  obtain ⟨y, hy, rfl⟩ := List.mem_map.1 (htested.pending e he (by simp [QueueEntry.isFront, hs]))
  have hy' := (List.mem_filter.1 hy).2
  simp [show y.state = .tentative from hs] at hy'

theorem State.Ends.nextSequence {s t : State} (h : s.Ends t) : t.loader.nextSequence = s.loader.nextSequence :=
  (congrArg (fun u : State => u.loader.nextSequence) h.rest :)

/-- Where no take mark stands, a soft restart reports nothing. -/
theorem State.softRestart_silent {s : State} (h : ∀ e ∈ s.laneEntries, e.mark = none) :
    s.softRestart.loader.reports = [] ∧ s.softRestart.loader.nextSequence = s.loader.nextSequence := by
  have hnone : s.emptied.bindMarks = s.emptied := State.bindMarks_of_none (fun e he => by
    rw [State.emptied_laneEntries] at he
    exact h e (List.mem_filter.1 he).1)
  have hfreed : s.freed.loader = s.emptied.loader := by rw [State.freed, hnone]; rfl
  constructor
  · rw [s.softRestart_rest.2.2, (State.settle_ends s s.freed).reports, hfreed]
    rfl
  · have h0 := State.testFreed_sansPoint s .p0 (State.settle s s.freed)
    have h1 := State.testFreed_sansPoint s .p1 (State.testFreed s .p0 (State.settle s s.freed))
    have hoff := State.offerTest_sansOffers (State.testFreed s .p1 (State.testFreed s .p0 (State.settle s s.freed)))
    have hseq : ∀ u v : State, u.sansOffers = v.sansOffers → u.loader.nextSequence = v.loader.nextSequence :=
      fun u v huv => (congrArg (fun x : State => x.loader.nextSequence) huv :)
    have hseq' : ∀ (p : PointId) (u v : State), u.sansPoint p = v.sansPoint p → u.loader.nextSequence = v.loader.nextSequence :=
      fun p u v huv => by cases p <;> exact (congrArg (fun x : State => x.loader.nextSequence) huv :)
    have hends := (State.settle_ends s s.freed).nextSequence
    rw [State.softRestart_eq, hseq _ _ hoff, hseq' _ _ _ h1, hseq' _ _ _ h0, hends, hfreed]
    rfl

end Sys2Proof.Machine

namespace Sys2Proof
open Sys2Proof.Machine

/-- Settles O19: the node a soft restart leaves is fresh in its offers and frames, and keeps entries, points and the rest. -/
theorem softRestartClearsHandover : Obligations.SoftRestartClearsHandover := by
  intro s f source hacc hact
  have hexec : exec (.restart f) s = .next (State.onRestart (rxDestination f) source s.heard) := by
    refine congrArg Host.Outcome.next ((State.receive_of_accepts hacc _).trans ?_)
    exact if_pos hact
  refine ⟨fun hnot => ?_, fun hsource hdest => ⟨_, hexec, by simp, ?_⟩⟩
  · rw [hexec, State.onRestart, if_neg]
    rintro ⟨hs, hd⟩
    exact hnot.elim (fun h => h hs) (fun h => h hd)
  have hrestart : State.onRestart (rxDestination f) source s.heard = s.heard.softRestart := if_pos ⟨hsource, hdest⟩
  have hfresh := s.heard.softRestart_fresh
  have hstill := s.heard.softRestart_still
  have hlanes := s.heard.softRestart_no_tentative
  have hqueues := s.heard.softRestart_no_tentative_queued
  have hkept : ∀ e ∈ s.laneEntries, _ := fun e he => State.softRestart_keeps_entry (s := s.heard) (e := e) he
  have hqueued := fun p => State.softRestart_keeps_queued (s := s.heard) (p := p)
  have hreports := s.heard.softRestart_reports
  have hsilent := State.softRestart_silent (s := s.heard)
  have hcodes := s.heard.softRestart_codes
  have hpoint := s.heard.softRestart_point
  rw [hrestart]
  generalize s.heard.softRestart = t at *
  simp only [State.still, Prod.mk.injEq] at hstill
  obtain ⟨htimeline, hlate, -, hfilter, hdetectors, -, -, -, -, hconflict, hmuted, -⟩ := hstill
  simp only [State.heard_point] at hqueued hpoint
  refine ⟨hfresh.bids, fun e he => (hlanes e he).1, hqueues, hkept, fun p hn e he hs => hqueued p hn he hs,
    fun e he => (hlanes e he).2, hfresh.items, fun o ho => ?_, hfresh.frames, fun x hx => ?_,
    hreports, hsilent, hcodes, htimeline, hlate, hfilter, hdetectors, hconflict, fun p => ?_⟩
  · obtain ⟨hphase, htakes⟩ := hfresh.offer o ho
    obtain ⟨x, hx, cargo, hbody⟩ := hfresh.sent o ho
    exact ⟨hphase, htakes, x, hx, (hfresh.frames x hx).2, cargo, hbody⟩
  · rw [hmuted]
    have hsending : s.heard.sendingFrame = some x := hx
    simp [State.emptyQueues, hsending]
  · obtain ⟨g, -, htested, -⟩ := hpoint p
    obtain ⟨hrate, hstencil, hpointer, hstaged⟩ := htested.fixed
    refine ⟨hrate, hstencil, hpointer, hstaged, fun hfault hpending => (htested.noFault ?_ hpending).1⟩
    simp [Point.restarted, hfault]

end Sys2Proof

namespace Sys2Proof.Machine

open Sys2Proof

/-! ## Joins and tests of points send OFFERs alone (R21, R97, R103) -/

theorem State.modPoint_sends (p : PointId) (f : Point → Point) (s : State) : s.Sends (s.modPoint p f) := by
  cases p <;> exact .of_same rfl rfl

theorem State.join_sends (c : Cargo) (g : Option GuidePlace) (s : State) : s.Sends (s.join c g) := by
  rcases State.join_cases c g s with ⟨-, e⟩ | ⟨-, e⟩ <;> rw [e]
  · exact .refl s
  · exact (State.Sends.of_same (by rfl) (by rfl)).trans (State.offerTest_sends _)

theorem State.askJoin_sends (p : PointId) (b : Nat) (s : State) : s.Sends (s.askJoin p b) := by
  rcases State.askJoin_cases p b s with ⟨e, -, -, -, -, h⟩ | ⟨-, h⟩ <;> rw [h]
  · exact (State.modPoint_sends p _ s).trans (State.join_sends _ _ _)
  · exact .refl s

section
variable {P : State → Prop} {p : PointId} (hmod : ∀ (t : State) (f : Point → Point), P t → P (t.modPoint p f))
  (hask : ∀ (t : State) (b : Nat), P t → P (t.askJoin p b))
include hmod hask

/-- What changes of a point and the joins of its records keep, the operations of a point keep. -/
theorem State.endFuel_keeps (o : FuelOutcome) (left : Bool) {s : State} (h : P s) : P (s.endFuel p o left) := by
  cases hs : (s.point p).serving? with
  | none => rw [State.endFuel_of_none hs]; exact h
  | some e =>
    rw [State.endFuel_of_serving hs]
    exact hask _ _ (hmod _ _ h)

theorem State.startTests_keeps (n : Nat) : ∀ {s : State}, P s → P (s.startTests n p) := by
  induction n with
  | zero => exact fun h => h
  | succ n ih =>
    intro s h
    unfold State.startTests
    split
    · exact h
    split
    · exact h
    next e _ =>
    have hhead := hmod s (Point.toHead e.visit.bus) h
    split
    · exact hhead
    · exact hhead
    · next st _ _ _ =>
      have hfuel : P (State.beginFuel p e st (s.modPoint p (Point.toHead e.visit.bus))) := by
        unfold State.beginFuel
        exact hmod _ _ hhead
      have hended := State.endFuel_keeps hmod hask .done false hfuel
      dsimp only
      split
      · split
        · exact ih (hmod _ _ hended)
        · exact hended
      · exact hfuel
    · split
      · exact hhead
      · exact hmod _ _ hhead
    · exact hhead

theorem State.clearingTest_keeps {s : State} (h : P s) : P (s.clearingTest p) := by
  unfold State.clearingTest
  split
  · exact State.startTests_keeps hmod hask _ (hmod _ _ h)
  · exact h

theorem State.takeFromQueue_keeps (b : Nat) {s : State} (h : P s) : P (s.takeFromQueue p b) := by
  rcases State.takeFromQueue_cases p b s with ⟨-, e⟩ | ⟨x, -, -, -, -, e⟩ <;> rw [e]
  · exact h
  · exact State.clearingTest_keeps hmod hask (hmod _ _ h)

end

section
variable (p : PointId) (s : State)

theorem State.takeFromQueue_sends (b : Nat) : s.Sends (s.takeFromQueue p b) :=
  State.takeFromQueue_keeps (P := s.Sends) (fun t f h => h.trans (State.modPoint_sends p f t))
    (fun t b h => h.trans (State.askJoin_sends p b t)) b (.refl s)

end

theorem State.testIfClosed_sends (before s : State) : s.Sends (State.testIfClosed before s) := by
  unfold State.testIfClosed
  split
  · exact State.offerTest_sends s
  · exact .refl s

theorem State.offerGivenUp_sends (b : Nat) (s : State) : s.Sends (s.offerGivenUp b) :=
  (State.cancelOffer_sends (.bus b) s).trans (.of_same rfl rfl)

theorem State.queueGivenUp_sends (p : PointId) (b : Nat) (here : Resource) (s : State) : s.Sends (s.queueGivenUp p b here) := by
  unfold State.queueGivenUp
  split
  · exact .refl s
  · exact State.takeFromQueue_sends p s b

theorem State.giveUpRecord_sends (b : Nat) (here : Resource) (s : State) : s.Sends (s.giveUpRecord b here) := by
  have hlanes : ∀ u : State, u.Sends (u.lanesGivenUp b here) := fun u => .of_same rfl rfl
  rw [State.giveUpRecord_eq]
  exact ((((State.offerGivenUp_sends b s).trans (State.queueGivenUp_sends .p0 b here _)).trans
    (State.queueGivenUp_sends .p1 b here _)).trans (hlanes _)).trans (State.testIfClosed_sends s _)

/-- A frame that is no OFFER, no claim and no REPORT outlives an event that sends. -/
theorem State.Sends.kept_frame {s t : State} (h : s.Sends t) {x : TxFrame} (hx : x ∈ s.line.transmit)
    (hd : x.displaceable = false) (ho : x.body.isOffer = false) (hc : ∀ tag, x.body.isClaimOf tag = false) : x ∈ t.line.transmit :=
  h.kept x hx (.inr ⟨hd, ho, fun _ _ => hc _⟩)

/-! ## An item the node has no more (R24, R27, R38, R39) -/

/-- Whether the node holds no item of a key, no offer of it, and no OFFER of it that could still be sent where `q`. -/
structure State.Closed (q : Prop) (k : ItemKey) (s : State) : Prop where
  items : ∀ i ∈ s.hand.outbound, i.key ≠ k
  offer : ∀ o, s.hand.offer = some o → o.key ≠ k
  frames : q → ∀ y ∈ s.line.transmit, ∀ n sup c, y.body = .offer n sup c → c.key = k → y.sending = true

section
variable {q : Prop} {k : ItemKey} {s t : State}

/-- An operation that leaves the outbound list and the open offer. -/
theorem State.Closed.of_hand (h : s.Closed q k) (hh : t.hand.outbound = s.hand.outbound) (ho : t.hand.offer = s.hand.offer)
    (hx : q → ∀ y ∈ t.line.transmit, y ∈ s.line.transmit ∨ ∀ n sup c, y.body = .offer n sup c → c.key ≠ k) : t.Closed q k where
  items := hh ▸ h.items
  offer := ho ▸ h.offer
  frames := fun hq y hy n sup c hb hc => (hx hq y hy).elim (fun hy' => h.frames hq y hy' n sup c hb hc)
    (fun hne => absurd hc (hne n sup c hb))

theorem State.Closed.of_same (h : s.Closed q k) (hh : t.hand.outbound = s.hand.outbound) (ho : t.hand.offer = s.hand.offer)
    (hx : t.line.transmit = s.line.transmit) : t.Closed q k :=
  h.of_hand hh ho (fun _ _ hy => .inl (hx ▸ hy))

/-- An OFFER of another cargo is placed. -/
theorem State.Closed.sendOffer (h : s.Closed q k) (n sup : Nat) {c : Cargo} (hc : c.key ≠ k) :
    (s.send (.offer n sup c)).Closed q k := by
  refine h.of_hand (by rw [State.send_hand]) (by rw [State.send_hand]) (fun _ y hy => ?_)
  rcases State.mem_of_mem_place hy with rfl | hy
  · right
    intro n' sup' c' hb
    cases hb
    exact hc
  · exact .inl hy

/-- A frame that is no OFFER is placed. -/
theorem State.Closed.place (h : s.Closed q k) {f : FrameBody} (hf : f.isOffer = false) (d : Nat) : (s.place f d).Closed q k := by
  have heq := State.place_eq f d s
  refine h.of_hand (by rw [heq]) (by rw [heq]) (fun _ y hy => ?_)
  rcases State.mem_of_mem_place hy with rfl | hy
  · right
    intro n sup c hb
    subst hb
    simp [FrameBody.isOffer] at hf
  · exact .inl hy

/-- Items changed but for their names, and the offer for another one. -/
theorem State.Closed.withOffer (h : s.Closed q k) {k' : ItemKey} {f : OutItem → OutItem} (hf : ∀ i, (f i).key = i.key)
    {o : OpenOffer} (ho : o.key ≠ k) : ((s.takeNumber.modItem k' f).setOffer (some o)).Closed q k where
  items := fun i hi => by
    obtain ⟨j, hj, rfl⟩ := State.mem_modItem.1 (show i ∈ (s.takeNumber.modItem k' f).hand.outbound from hi)
    split
    · rw [hf]; exact h.items j hj
    · exact h.items j hj
  offer := fun o' ho' => by
    obtain rfl := Option.some.inj ho'
    exact ho
  frames := h.frames

theorem State.Closed.startOffer {it : OutItem} (h : s.Closed q k) (hit : it ∈ s.hand.outbound) : (s.startOffer it).Closed q k := by
  have hk := h.items it hit
  rcases State.startOffer_cases it s with ⟨-, e⟩ | ⟨-, e⟩ <;> rw [e]
  · have hopen := h.withOffer (k' := it.key) (f := fun i => { i with offerCount := 1 }) (fun _ => rfl)
      (o := { number := s.hand.counter, phase := .queued, key := it.key, countBefore := it.offerCount, reNumber := 0,
              takes := [] }) hk
    exact hopen.sendOffer _ _ (by rw [← OutItem.key_eq]; exact hk)
  · exact h.of_same rfl rfl rfl

theorem State.Closed.placeReoffer {o : OpenOffer} (h : s.Closed q k) (ho : o.key ≠ k) : (s.placeReoffer o).Closed q k := by
  unfold State.placeReoffer
  split
  · exact ⟨h.items, fun o' ho' => by simp at ho', h.frames⟩
  · next it hit =>
    have hk : it.key = o.key := (State.item?_spec hit).2
    dsimp only
    split
    · exact (h.withOffer (f := fun i => { i with offerCount := 2 }) (fun _ => rfl)
        (o := { o with phase := .reofferQueued, reNumber := s.hand.counter }) ho).sendOffer _ _
        (by rw [← OutItem.key_eq, hk]; exact ho)
    · exact h.withOffer (f := fun i => { i with offerCount := 2 }) (fun _ => rfl)
        (o := { o with phase := .reofferQueued, reNumber := 0 }) ho

theorem State.Closed.offerTest (h : s.Closed q k) : s.offerTest.Closed q k := by
  rcases State.offerTest_cases s with e | ⟨-, o, ho, -, -, e⟩ | ⟨-, -, it, rest, hl, -, e⟩ <;> rw [e]
  · exact h
  · exact h.placeReoffer (h.offer o ho)
  · exact h.startOffer (by rw [hl]; simp)

theorem State.Closed.testIfClosed (h : s.Closed q k) (before : State) : (State.testIfClosed before s).Closed q k := by
  unfold State.testIfClosed
  split
  · exact h.offerTest
  · exact h

theorem State.Closed.dropFrames (h : s.Closed q k) (p : FrameBody → Bool) : (s.dropFrames p).Closed q k :=
  h.of_hand rfl rfl (fun _ _ hy => .inl (State.mem_dropFrames.1 hy).1)

theorem State.Closed.cancelOffer (h : s.Closed q k) (k' : ItemKey) : (s.cancelOffer k').Closed q k := by
  unfold State.cancelOffer
  split
  · split
    · have hclosed : (s.setOffer none).Closed q k := ⟨h.items, fun o ho => (by cases ho), h.frames⟩
      exact hclosed.dropFrames _
    · exact h
  · exact h

theorem State.Closed.removeItem (h : s.Closed q k) (k' : ItemKey) : (s.removeItem k').Closed q k :=
  ⟨fun i hi => h.items i (State.mem_removeItem.1 hi).1, h.offer, h.frames⟩

theorem State.Closed.dropRuns (runs : List Nat) : ∀ {s : State}, s.Closed q k → (s.dropRuns runs).Closed q k := by
  induction runs with
  | nil => exact fun h => h
  | cons r runs ih => exact fun h => ih ((h.cancelOffer (.swapRun r)).removeItem (.swapRun r))

theorem State.Closed.withdrawSwaps (h : s.Closed q k) : s.withdrawSwaps.Closed q k := by
  rcases State.withdrawSwaps_cases s with ⟨-, e⟩ | ⟨-, e⟩ <;> rw [e]
  · exact h
  · exact (h.dropRuns _).offerTest

theorem State.Closed.removeBids (l : List BidEntry) : ∀ {s : State}, s.Closed q k → (s.removeBids l).Closed q k := by
  induction l with
  | nil => exact fun h => h
  | cons e l ih =>
    intro s h
    have hbids : State.Closed q k { s with hand := { s.hand with bids := s.hand.bids.filter (fun x => decide (x.tag ≠ e.tag)) } } :=
      h.of_same rfl rfl rfl
    exact ih (hbids.dropFrames _)

theorem State.Closed.dropLostHeads (h : s.Closed q k) : s.dropLostHeads.Closed q k := by
  rcases State.dropLostHeads_cases s with ⟨-, e⟩ | e <;> rw [e]
  · exact h.removeBids s.lostBids
  · exact (h.removeBids s.lostBids).of_same rfl rfl rfl

theorem State.Closed.headTest (h : s.Closed q k) (n : Nat) : (s.headTest n).Closed q k := by
  rcases State.headTest_cases n s with e | ⟨-, -, e, -, -, eq⟩
  · rw [e]; exact h
  · rw [eq]
    refine State.Closed.withdrawSwaps (State.Closed.place ?_ rfl _)
    exact h.of_same rfl rfl rfl

theorem State.Closed.settle (h : s.Closed q k) (before : State) : (State.settle before s).Closed q k :=
  State.settle_induction (P := State.Closed q k) h.dropLostHeads.withdrawSwaps (fun _ n ht => ht.headTest n)

theorem State.Closed.join (h : s.Closed q k) {c : Cargo} (hc : c.key ≠ k) (g : Option GuidePlace) : (s.join c g).Closed q k := by
  rcases State.join_cases c g s with ⟨-, e⟩ | ⟨-, e⟩ <;> rw [e]
  · exact h
  · refine State.Closed.offerTest ⟨fun i hi => ?_, h.offer, h.frames⟩
    rcases List.mem_cons.1 ((insertItem_perm _ _).mem_iff.1 hi) with rfl | hi
    · rw [OutItem.key_eq]; exact hc
    · exact h.items i hi

/-- An item removed with its open offer and the OFFER that waits. -/
theorem State.cancelled_closed (k : ItemKey) (s : State) :
    ((s.cancelOffer k).removeItem k).Closed (∃ o, s.hand.offer = some o ∧ o.key = k) k := by
  refine ⟨fun i hi => (State.mem_removeItem.1 hi).2, fun o ho => ?_, fun hq y hy n sup c hb _ => ?_⟩
  · have ho' : (s.cancelOffer k).hand.offer = some o := ho
    unfold State.cancelOffer at ho'
    split at ho'
    · next o' hoff =>
      split at ho'
      · cases ho'
      · next hne =>
        rw [hoff] at ho'
        obtain rfl := Option.some.inj ho'
        exact hne
    · next hoff => rw [hoff] at ho'; cases ho'
  · obtain ⟨o, ho, hk⟩ := hq
    have hy' : y ∈ (s.cancelOffer k).line.transmit := hy
    rw [State.cancelOffer, ho] at hy'
    simp only [hk, if_true] at hy'
    rcases (State.mem_dropFrames.1 hy').2 with h | h
    · exact h
    · simp [hb, FrameBody.isOffer] at h

end

/-! ## A bus the node has given up (R38, R39) -/

/-- Whether the node holds no record of bus `b` in its outbound list, no offer of it, no OFFER of it that could still be sent
where `q`, and no record of it at the places `R`. -/
structure State.Gone (q : Prop) (b : Nat) (R : Resource → Prop) (s : State) : Prop extends s.Closed q (.bus b) where
  queues : ∀ p, R (.point p) → ∀ x ∈ (s.point p).queue, x.visit.bus = b → x.isFront = false
  lanes : ∀ n l, R (.lane n) → s.lanes[n]? = some l → ∀ x ∈ l.entries, x.visit.bus = b → x.isFront = false

section
variable {q : Prop} {b : Nat} {R : Resource → Prop} {s t : State}

/-- An operation that leaves the lanes and the points. -/
theorem State.Gone.of_places (h : s.Gone q b R) (hc : t.Closed q (.bus b)) (hp : ∀ p, t.point p = s.point p)
    (hl : t.lanes = s.lanes) : t.Gone q b R where
  toClosed := hc
  queues := fun p hR => by rw [hp]; exact h.queues p hR
  lanes := hl ▸ h.lanes

theorem State.Gone.of_offers (h : s.Gone q b R) (hc : t.Closed q (.bus b)) (ht : t.sansOffers = s.sansOffers) : t.Gone q b R :=
  h.of_places hc (State.point_of_offers ht) (State.lanes_of_offers ht)

theorem State.Gone.mono {R' : Resource → Prop} (h : s.Gone q b R) (hR : ∀ r, R' r → R r) : s.Gone q b R' :=
  { h with queues := fun p hp => h.queues p (hR _ hp), lanes := fun n l hn => h.lanes n l (hR _ hn) }

theorem State.Gone.place (h : s.Gone q b R) {f : FrameBody} (hf : f.isOffer = false) (d : Nat) : (s.place f d).Gone q b R :=
  h.of_offers (h.toClosed.place hf d) (State.place_sansOffers f d s)

theorem State.Gone.testIfClosed (h : s.Gone q b R) (before : State) : (State.testIfClosed before s).Gone q b R :=
  h.of_offers (h.toClosed.testIfClosed before) (State.testIfClosed_sansOffers before s)

theorem State.Gone.cancelOffer (h : s.Gone q b R) (k : ItemKey) : (s.cancelOffer k).Gone q b R :=
  h.of_offers (h.toClosed.cancelOffer k) (State.cancelOffer_sansOffers k s)

theorem State.Gone.withdrawSwaps (h : s.Gone q b R) : s.withdrawSwaps.Gone q b R :=
  h.of_offers h.toClosed.withdrawSwaps (State.withdrawSwaps_sansOffers s)

/-- The lanes changed, no entry of the bus among them made a standing one. -/
theorem State.Gone.setLanes {lanes : List Lane} (h : s.Gone q b R)
    (hl : ∀ n l', R (.lane n) → lanes[n]? = some l' → ∀ x ∈ l'.entries, x.visit.bus = b → x.isFront = false) :
    (s.setLanes lanes).Gone q b R :=
  ⟨h.toClosed.of_same rfl rfl rfl, fun p hR => by cases p <;> exact h.queues _ hR, hl⟩

theorem State.Gone.dropLostHeads (h : s.Gone q b R) : s.dropLostHeads.Gone q b R := by
  have hlanes : (s.removeBids s.lostBids).lanes = s.lanes := State.foldl_removeBid_lanes _ s
  have hb : (s.removeBids s.lostBids).Gone q b R :=
    h.of_places (h.toClosed.removeBids _) (State.removeBids_rest _ s).1 hlanes
  rcases State.dropLostHeads_cases s with ⟨-, e⟩ | e <;> rw [e]
  · exact hb
  · refine hb.setLanes (fun n l' hR hl x hx hxb => ?_)
    rw [List.getElem?_map] at hl
    obtain ⟨l, hl0, rfl⟩ := Option.map_eq_some_iff.1 hl
    rw [Lane.markHeadOnly, List.mem_append] at hx
    rcases hx with hx | hx
    · exact h.lanes n l hR hl0 x (List.mem_of_mem_take hx) hxb
    · obtain ⟨y, hy, rfl⟩ := List.mem_map.1 hx
      exact h.lanes n l hR hl0 y (List.mem_of_mem_drop hy) hxb

/-- The call of a head, which is another bus's where the lane is one of the places. -/
theorem State.Gone.headTest (h : s.Gone q b R) (n : Nat) : (s.headTest n).Gone q b R := by
  rcases State.headTest_cases n s with e | ⟨-, -, e, he, hdue, eq⟩
  · rw [e]; exact h
  rw [eq]
  refine State.Gone.withdrawSwaps (State.Gone.place ?_ rfl _)
  rw [State.modLane]
  refine h.setLanes (fun k l' hR hl x hx hb => ?_)
  by_cases hk : k = n
  · subst hk
    obtain ⟨l, hl0, hle⟩ := Option.bind_eq_some_iff.1 he
    rw [modify_eq_set hl0, List.getElem?_set_self (List.getElem?_eq_some_iff.1 hl0).1] at hl
    cases hl
    obtain ⟨y, hy, rfl⟩ := List.mem_map.1 hx
    have hne : e.visit.bus ≠ b := by
      intro heb
      have hfront := h.lanes k l hR hl0 e (List.mem_of_mem_head? hle) heb
      simp [LaneEntry.isDue] at hdue
      simp [LaneEntry.isFront, hdue] at hfront
    by_cases hyb : y.visit.bus = e.visit.bus
    · rw [if_pos hyb] at hb
      exact absurd (hyb.symm.trans hb) hne
    · rw [if_neg hyb] at hb ⊢
      exact h.lanes k l hR hl0 y hy hb
  · rw [List.getElem?_modify_ne _ _ (Ne.symm hk)] at hl
    exact h.lanes k l' hR hl x hx hb

theorem State.Gone.settle (h : s.Gone q b R) (before : State) : (State.settle before s).Gone q b R :=
  State.settle_induction (P := State.Gone q b R) h.dropLostHeads.withdrawSwaps (fun _ n ht => ht.headTest n)

/-! ### At the points -/

theorem State.Gone.join (h : s.Gone q b R) {c : Cargo} (hc : c.key ≠ .bus b) (g : Option GuidePlace) : (s.join c g).Gone q b R :=
  h.of_offers (h.toClosed.join hc g) (State.join_sansOffers c g s)

/-- A point changed, with no entry of the bus made a standing one. -/
theorem State.Gone.modPoint {f : Point → Point} (h : s.Gone q b R) (p : PointId)
    (hf : ∀ x ∈ (f (s.point p)).queue, x.visit.bus = b → x.isFront = true → ∃ y ∈ (s.point p).queue, y.visit.bus = b ∧ y.isFront = true) :
    (s.modPoint p f).Gone q b R := by
  have hand : (s.modPoint p f).hand = s.hand := by cases p <;> rfl
  have line : (s.modPoint p f).line = s.line := by cases p <;> rfl
  have lanes : (s.modPoint p f).lanes = s.lanes := by cases p <;> rfl
  refine ⟨h.toClosed.of_same (by rw [hand]) (by rw [hand]) (by rw [line]), fun p' hR x hx hb => ?_, lanes ▸ h.lanes⟩
  by_cases hp : p' = p
  · subst hp
    rw [State.modPoint_point] at hx
    rw [Bool.eq_false_iff]
    intro hfront
    obtain ⟨y, hy, hyb, hyf⟩ := hf x hx hb hfront
    simp [h.queues p' hR y hy hyb] at hyf
  · rw [State.modPoint_point_of_ne _ _ _ _ hp] at hx
    exact h.queues p' hR x hx hb

end

end Sys2Proof.Machine

namespace Sys2Proof.Machine

open Sys2Proof

/-! ## The record of a bus given up everywhere but at one place (R38 step 1, R39) -/

section
variable {q : Prop} {b : Nat} {R : Resource → Prop} {s t : State} {p : PointId}

theorem State.Gone.askJoin (h : s.Gone q b R) (hR : R (.point p)) (c : Nat) : (s.askJoin p c).Gone q b R := by
  rcases State.askJoin_cases p c s with ⟨e, he, hb, hf, -, eq⟩ | ⟨-, eq⟩ <;> rw [eq]
  · refine (h.modPoint p (fun x hx hxb hfront => ⟨x, (List.mem_filter.1 hx).1, hxb, hfront⟩)).join (fun hk => ?_) _
    have hfront := h.queues p hR e he (by simpa [Cargo.key] using hk)
    simp [QueueEntry.isFront, hf] at hfront
  · exact h

/-- A standing entry of another bus changes at a point. -/
theorem State.Gone.modFront (h : s.Gone q b R) {e : QueueEntry} {g : QueueEntry → QueueEntry} {f : Point → Point}
    (he : e ∈ (s.point p).queue) (hf : e.isFront = true) (hg : ∀ x, (g x).visit.bus = x.visit.bus)
    (hq : (f (s.point p)).queue = ((s.point p).modEntry e.visit.bus g).queue) : (s.modPoint p f).Gone q b R := by
  refine h.modPoint p (fun x hx hxb hfront => ?_)
  rw [hq] at hx
  obtain ⟨y, hy, rfl⟩ := List.mem_map.1 hx
  by_cases hyb : y.visit.bus = e.visit.bus
  · rw [if_pos hyb, hg] at hxb
    exact ⟨e, he, hyb.symm.trans hxb, hf⟩
  · rw [if_neg hyb] at hxb hfront
    exact ⟨y, hy, hxb, hfront⟩

theorem State.Gone.endFuel (h : s.Gone q b R) (hR : R (.point p)) (o : FuelOutcome) (left : Bool) :
    (s.endFuel p o left).Gone q b R := by
  cases hs : (s.point p).serving? with
  | none => rw [State.endFuel_of_none hs]; exact h
  | some e =>
    obtain ⟨hmem, -, hfront⟩ := Point.serving?_spec hs
    rw [State.endFuel_of_serving hs]
    refine State.Gone.askJoin ?_ hR _
    exact h.modFront (g := QueueEntry.fuelled o (s.point p).delivered) hmem hfront (fun _ => rfl) rfl

theorem State.Gone.startTests (hR : R (.point p)) (n : Nat) : ∀ {s : State}, s.Gone q b R → (s.startTests n p).Gone q b R := by
  induction n with
  | zero => exact fun h => h
  | succ n ih =>
    intro s h
    unfold State.startTests
    split
    · exact h
    split
    · exact h
    next e he =>
    obtain ⟨hmem, -, hfront⟩ := Point.firstWaiting_spec he
    have hhead : (s.modPoint p (Point.toHead e.visit.bus)).Gone q b R :=
      h.modPoint p (fun x hx hxb hf => ⟨x, (List.mem_append.1 hx).elim List.mem_of_mem_filter List.mem_of_mem_filter, hxb, hf⟩)
    have hmem' : e ∈ ((s.modPoint p (Point.toHead e.visit.bus)).point p).queue := by
      rw [State.modPoint_point]
      simp [Point.toHead, hmem]
    split
    · exact hhead
    · exact hhead
    · next st _ _ _ =>
      have hfuel : (State.beginFuel p e st (s.modPoint p (Point.toHead e.visit.bus))).Gone q b R := by
        unfold State.beginFuel
        exact hhead.modFront (g := fun x => { x with state := .serving }) hmem' hfront (fun _ => rfl) rfl
      have hended := hfuel.endFuel hR .done false
      dsimp only
      split
      · split
        · exact ih (hended.modPoint p (fun x hx hxb hf => ⟨x, hx, hxb, hf⟩))
        · exact hended
      · exact hfuel
    · split
      · exact hhead
      · unfold State.beginWash
        exact hhead.modFront (g := fun x => { x with state := .serving }) hmem' hfront (fun _ => rfl) rfl
    · exact hhead

theorem State.Gone.clearingTest (h : s.Gone q b R) (hR : R (.point p)) : (s.clearingTest p).Gone q b R := by
  unfold State.clearingTest
  split
  · exact State.Gone.startTests hR _ (h.modPoint p (fun x hx hxb hf => ⟨x, hx, hxb, hf⟩))
  · exact h

/-- The record of the bus is taken from a queue. -/
theorem State.Gone.takeFromQueue (h : s.Gone q b R) : (s.takeFromQueue p b).Gone q b (fun r => R r ∨ r = .point p) := by
  rcases State.takeFromQueue_cases p b s with ⟨hnone, eq⟩ | ⟨e, -, -, -, -, eq⟩ <;> rw [eq]
  · refine { h with queues := fun p' hR => ?_, lanes := fun n l hR => h.lanes n l (by simpa using hR) }
    rcases hR with hR | hR
    · exact h.queues p' hR
    · cases hR; exact hnone
  · refine State.Gone.clearingTest ?_ (.inr rfl)
    have hand : (s.modPoint p (s.takenPoint p b e)).hand = s.hand := by cases p <;> rfl
    have line : (s.modPoint p (s.takenPoint p b e)).line = s.line := by cases p <;> rfl
    have lanes : (s.modPoint p (s.takenPoint p b e)).lanes = s.lanes := by cases p <;> rfl
    refine ⟨h.toClosed.of_same (by rw [hand]) (by rw [hand]) (by rw [line]), fun p' hR x hx hb => ?_,
      fun n l hR => by rw [lanes]; exact h.lanes n l (by simpa using hR)⟩
    by_cases hp : p' = p
    · subst hp
      rw [State.modPoint_point, State.takenPoint_queue] at hx
      have hkeep := (List.mem_filter.1 hx).2
      simpa [hb] using hkeep
    · rw [State.modPoint_point_of_ne _ _ _ _ hp] at hx
      exact h.queues p' (hR.elim id (fun he => absurd (Resource.point.inj he) hp)) x hx hb

theorem State.Gone.queueGivenUp (h : s.Gone q b R) (here : Resource) :
    (s.queueGivenUp p b here).Gone q b (fun r => R r ∨ (r = .point p ∧ r ≠ here)) := by
  unfold State.queueGivenUp
  split
  · next hh =>
    refine h.mono (fun r hr => hr.elim id (fun hp => ?_))
    exact absurd (hp.1.trans hh.symm) hp.2
  · exact h.takeFromQueue.mono (fun r hr => hr.imp_right And.left)

theorem State.Gone.lanesGivenUp (h : s.Gone q b R) (here : Resource) :
    (s.lanesGivenUp b here).Gone q b (fun r => R r ∨ ((∃ n, r = .lane n) ∧ r ≠ here)) := by
  refine ⟨h.toClosed.of_same rfl rfl rfl, fun p' hR => ?_, fun n l hR hl x hx hb => ?_⟩
  · have hR' : R (.point p') := hR.elim id (fun ⟨⟨n, hn⟩, _⟩ => by cases hn)
    cases p' <;> exact h.queues _ hR'
  · rw [State.lanesGivenUp, State.removeLaneEntries_lane] at hl
    obtain ⟨l', hl', rfl⟩ := Option.map_eq_some_iff.1 hl
    rw [Lane.without_entries, List.mem_filter] at hx
    rcases hR with hR | ⟨-, hR⟩
    · exact h.lanes n l' hR hl' x hx.1 hb
    · have hkeep := hx.2
      have hne : here ≠ .lane n := fun e => hR e.symm
      simpa [hb, hne] using hkeep

end

/-- The open offer of the bus goes, with its item and its waiting OFFER. -/
theorem State.offerGivenUp_gone (b : Nat) (s : State) :
    (s.offerGivenUp b).Gone (∃ o, s.hand.offer = some o ∧ o.key = .bus b) b (fun _ => False) :=
  ⟨State.cancelled_closed (.bus b) s, fun _ hR => hR.elim, fun _ _ hR => hR.elim⟩

/-- A node that gives up its record of a bus holds none elsewhere, nor an offer of it. -/
theorem State.giveUpRecord_gone (b : Nat) (here : Resource) (s : State) :
    (s.giveUpRecord b here).Gone (∃ o, s.hand.offer = some o ∧ o.key = .bus b) b (fun r => r ≠ here) := by
  rw [State.giveUpRecord_eq]
  have hall := ((((State.offerGivenUp_gone b s).queueGivenUp (p := .p0) here).queueGivenUp (p := .p1) here).lanesGivenUp here)
  refine (hall.mono (fun r hr => ?_)).testIfClosed s
  cases r with
  | point p => cases p <;> simp [hr]
  | lane n => simp [hr]

theorem State.item?_bus_visit {s : State} {b : Nat} {i : OutItem} (h : s.item? (.bus b) = some i) : ∃ r, i.cargo = .visit r := by
  have hk := (State.item?_spec h).2
  cases hc : i.cargo with
  | visit r => exact ⟨r, rfl⟩
  | swap r => simp [OutItem.key_eq, hc, Cargo.key] at hk

theorem State.item?_eq_none {s : State} {k : ItemKey} : s.item? k = none ↔ ∀ i ∈ s.hand.outbound, i.key ≠ k := by
  simp [State.item?]

theorem State.ownRecord?_eq (s : State) (b : Nat) (here : Resource) : s.ownRecord? b here =
    ((s.item? (.bus b)).bind OutItem.visit?).or
    ((if here = .point .p0 then none else
      (s.point0.queue.find? (fun e => decide (e.visit.bus = b) && e.isFront)).map (s.handedRecord .p0)).or
    ((if here = .point .p1 then none else
      (s.point1.queue.find? (fun e => decide (e.visit.bus = b) && e.isFront)).map (s.handedRecord .p1)).or
    (((List.range s.lanes.length).filter (fun n => decide (here ≠ .lane n))).findSome? (fun n =>
      ((s.lanes[n]?).bind (fun l => l.entries.find? (fun e => decide (e.visit.bus = b) && e.isFront))).map
        (fun e => e.visit))))) := by
  simp only [State.ownRecord?, Option.orElse_eq_orElse, Option.orElse_eq_or]
  rfl

/-- Where no record is found elsewhere, no item and no standing entry of the bus is. -/
theorem State.nowhere_of_ownRecord? {s : State} {b : Nat} {here : Resource} (h : s.ownRecord? b here = none) :
    (∀ i ∈ s.hand.outbound, i.key ≠ .bus b) ∧
      (∀ p, here ≠ .point p → ∀ x ∈ (s.point p).queue, x.visit.bus = b → x.isFront = false) ∧
      (∀ n l, here ≠ .lane n → s.lanes[n]? = some l → ∀ x ∈ l.entries, x.visit.bus = b → x.isFront = false) := by
  rw [State.ownRecord?_eq] at h
  simp only [Option.or_eq_none_iff] at h
  obtain ⟨hitem, h0, h1, hlane⟩ := h
  refine ⟨fun i hi hk => ?_, fun p hp x hx hb => ?_, fun n l hn hl x hx hb => ?_⟩
  · cases hit : s.item? (.bus b) with
    | none => exact State.item?_eq_none.1 hit i hi hk
    | some j =>
      obtain ⟨r, hr⟩ := State.item?_bus_visit hit
      simp [hit, OutItem.visit?, hr] at hitem
  · cases p with
    | p0 =>
      rw [if_neg hp, Option.map_eq_none_iff] at h0
      simpa [hb] using List.find?_eq_none.1 h0 x hx
    | p1 =>
      rw [if_neg hp, Option.map_eq_none_iff] at h1
      simpa [hb] using List.find?_eq_none.1 h1 x hx
  · have hnone := List.findSome?_eq_none_iff.1 hlane n (by simpa [hn] using (List.getElem?_eq_some_iff.1 hl).1)
    rw [hl, Option.bind_some, Option.map_eq_none_iff] at hnone
    simpa [hb] using List.find?_eq_none.1 hnone x hx

end Sys2Proof.Machine

namespace Sys2Proof.Machine

open Sys2Proof

/-! ## Bids and pending entries given up (R32, R34, R38, R39) -/

/-- What the loss of pending entries makes of a lane. -/
structure Lane.Loses (l l' : Lane) : Prop where
  sub : l'.entries.Sublist l.entries
  front : l'.entries.filter LaneEntry.isFront = l.entries.filter LaneEntry.isFront
  state : l'.state = l.state

/-- What the loss of bids and of pending entries makes of a node. -/
structure State.Loses (s t : State) : Prop where
  hand : t.hand = { s.hand with bids := t.hand.bids }
  bids : t.hand.bids.Sublist s.hand.bids
  queue : ∀ p, (t.point p).queue.Sublist (s.point p).queue
  front : ∀ p, (t.point p).queue.filter QueueEntry.isFront = (s.point p).queue.filter QueueEntry.isFront
  point : ∀ p, t.point p = { s.point p with queue := (t.point p).queue }
  lanes : List.Forall₂ Lane.Loses s.lanes t.lanes
  frames : t.line.transmit.Sublist s.line.transmit
  kept : ∀ x ∈ s.line.transmit, (∀ tag, x.body.isClaimOf tag = false) → x ∈ t.line.transmit
  muted : t.line.muted = s.line.muted
  order : t.line.nextOrder = s.line.nextOrder
  loader : t.loader = s.loader
  clock : t.clock = s.clock
  guide : ∀ place, t.guide place = s.guide place

theorem guide_eq_of_outputs {s t : State} (hg : t.field.gate = s.field.gate) (h0 : t.field.point0 = s.field.point0)
    (h1 : t.field.point1 = s.field.point1) (place : GuidePlace) : t.guide place = s.guide place := by
  cases place with
  | gate => exact hg
  | point p =>
    cases p
    exacts [h0, h1]

theorem Lane.Loses.refl (l : Lane) : l.Loses l := ⟨.refl _, rfl, rfl⟩

theorem Lane.Loses.trans {a b c : Lane} (h : a.Loses b) (h' : b.Loses c) : a.Loses c :=
  ⟨h'.sub.trans h.sub, h'.front.trans h.front, h'.state.trans h.state⟩

theorem State.Loses.refl (s : State) : s.Loses s :=
  ⟨rfl, .refl _, fun _ => .refl _, fun _ => rfl, fun _ => rfl, List.forall₂_same.2 (fun l _ => .refl l), .refl _, fun _ h _ => h,
    rfl, rfl, rfl, rfl, fun _ => rfl⟩

theorem State.Loses.trans {s t u : State} (h : s.Loses t) (h' : t.Loses u) : s.Loses u where
  hand := h'.hand.trans (by rw [h.hand])
  bids := h'.bids.trans h.bids
  queue := fun p => (h'.queue p).trans (h.queue p)
  front := fun p => (h'.front p).trans (h.front p)
  point := fun p => (h'.point p).trans (by rw [h.point p])
  lanes := forall₂_trans (R := Lane.Loses) (fun _ _ _ h h' => h.trans h') h.lanes h'.lanes
  frames := h'.frames.trans h.frames
  kept := fun x hx hc => h'.kept x (h.kept x hx hc) hc
  muted := h'.muted.trans h.muted
  order := h'.order.trans h.order
  loader := h'.loader.trans h.loader
  clock := h'.clock.trans h.clock
  guide := fun place => (h'.guide place).trans (h.guide place)

/-- A filter that keeps what another one keeps. -/
theorem filter_filter_of_imp {α : Type} {f g : α → Bool} {l : List α} (h : ∀ x ∈ l, f x = true → g x = true) :
    (l.filter g).filter f = l.filter f := by
  rw [List.filter_filter]
  refine List.filter_congr (fun x hx => ?_)
  cases hf : f x with
  | false => simp
  | true => simp [h x hx hf]

theorem forall₂_mapLanesFrom_right {R : Lane → Lane → Prop} {f : Nat → Lane → Lane} (h : ∀ n l, R l (f n l)) (l : List Lane) :
    ∀ n, List.Forall₂ R l (mapLanesFrom f n l) := by
  induction l with
  | nil => exact fun _ => .nil
  | cons x xs ih => exact fun n => .cons (h n x) (ih (n + 1))

/-- Pending entries taken out of the lanes. -/
theorem State.removeLaneEntries_loses {p : Nat → LaneEntry → Bool} (hp : ∀ n e, p n e = true → e.isFront = false) (s : State) :
    s.Loses (s.removeLaneEntries p) where
  hand := rfl
  bids := .refl _
  queue := fun p => by cases p <;> exact .refl _
  front := fun p => by cases p <;> rfl
  point := fun p => by cases p <;> rfl
  lanes := by
    refine forall₂_mapLanesFrom_right (R := Lane.Loses) (fun n l => ⟨?_, ?_, Lane.without_state _ _ _ _⟩) _ _
    · rw [Lane.without_entries]
      exact List.filter_sublist
    · rw [Lane.without_entries]
      refine filter_filter_of_imp (fun e _ hf => ?_)
      by_contra hne
      simp [hp n e (by simpa using hne)] at hf
  frames := .refl _
  kept := fun _ h _ => h
  muted := rfl
  order := rfl
  loader := rfl
  clock := rfl
  guide := guide_eq_of_outputs rfl rfl rfl

/-- Pending entries taken out of the queues. -/
theorem State.queuePending_loses {s t : State} {f : PointId → QueueEntry → Bool} (hf : ∀ p e, f p e = true → e.isFront = false)
    (ht : t = { s with point0 := { s.point0 with queue := s.point0.queue.filter (fun e => !f .p0 e) }
                       point1 := { s.point1 with queue := s.point1.queue.filter (fun e => !f .p1 e) } }) : s.Loses t := by
  subst ht
  refine ⟨rfl, .refl _, fun p => ?_, fun p => ?_, fun p => by cases p <;> rfl, List.forall₂_same.2 (fun l _ => .refl l), .refl _,
    fun _ h _ => h, rfl, rfl, rfl, rfl, guide_eq_of_outputs rfl rfl rfl⟩
  · cases p <;> exact List.filter_sublist
  · have hkeep : ∀ q, ((s.point q).queue.filter (fun e => !f q e)).filter QueueEntry.isFront
        = (s.point q).queue.filter QueueEntry.isFront := fun q => filter_filter_of_imp (fun e _ hfront => by
      by_contra hne
      simp [hf q e (by simpa using hne)] at hfront)
    cases p
    · exact hkeep .p0
    · exact hkeep .p1

theorem State.removeBid_loses (tag : Tag) (s : State) : s.Loses (s.removeBid tag) where
  hand := rfl
  bids := List.filter_sublist
  queue := fun p => by cases p <;> exact .refl _
  front := fun p => by cases p <;> rfl
  point := fun p => by cases p <;> rfl
  lanes := List.forall₂_same.2 (fun l _ => .refl l)
  frames := List.filter_sublist
  kept := fun x hx hc => List.mem_filter.2 ⟨hx, by simp [hc tag]⟩
  muted := rfl
  order := rfl
  loader := rfl
  clock := rfl
  guide := guide_eq_of_outputs rfl rfl rfl

theorem State.removeTentative_loses (tag : Tag) (s : State) : s.Loses (s.removeTentative tag) := by
  refine (State.removeLaneEntries_loses (p := fun _ e => decide (e.state = .tentative) && decide (e.tag = some tag))
    (fun _ e he => ?_) s).trans (State.queuePending_loses
      (f := fun _ e => decide (e.state = .tentative) && decide (e.tag = some tag)) (fun _ e he => ?_) rfl)
  · simp only [Bool.and_eq_true, decide_eq_true_eq] at he
    simp [LaneEntry.isFront, he.1]
  · simp only [Bool.and_eq_true, decide_eq_true_eq] at he
    simp [QueueEntry.isFront, he.1]

theorem State.dropBid_loses (tag : Tag) (s : State) : s.Loses (s.dropBid tag) :=
  (State.removeBid_loses tag s).trans (State.removeTentative_loses tag _)

theorem State.removeExpected_loses (tag : Tag) (s : State) : s.Loses (s.removeExpected tag) := by
  refine (State.removeLaneEntries_loses (p := fun _ e => decide (e.state = .expected) && decide (e.tag = some tag))
    (fun _ e he => ?_) s).trans (State.queuePending_loses
      (f := fun _ e => decide (e.state = .expected) && decide (e.tag = some tag)) (fun _ e he => ?_) rfl)
  · simp only [Bool.and_eq_true, decide_eq_true_eq] at he
    simp [LaneEntry.isFront, he.1]
  · simp only [Bool.and_eq_true, decide_eq_true_eq] at he
    simp [QueueEntry.isFront, he.1]

theorem State.dropClaim_loses (tag : Tag) (s : State) : s.Loses (s.dropClaim tag) :=
  (State.dropBid_loses tag s).trans (State.removeExpected_loses tag _)

theorem State.dropBids_loses (tags : List Tag) : ∀ s : State, s.Loses (tags.foldl (fun t tag => t.dropBid tag) s) := by
  induction tags with
  | nil => exact .refl
  | cons tag tags ih => exact fun s => (State.dropBid_loses tag s).trans (ih _)

theorem State.dropBidsOf_loses (b : Nat) (s : State) : s.Loses (s.dropBidsOf b) := State.dropBids_loses _ s

theorem State.dropBids_tag {tags : List Tag} : ∀ {s : State} {e : BidEntry},
    e ∈ (tags.foldl (fun t tag => t.dropBid tag) s).hand.bids → e.tag ∉ tags := by
  induction tags with
  | nil => intro s e _; simp
  | cons tag tags ih =>
    intro s e he
    rw [List.foldl_cons] at he
    have hsub := (State.dropBids_loses tags (s.dropBid tag)).bids.subset he
    rw [List.mem_cons, not_or]
    exact ⟨(State.dropBid_spec tag s).1 e hsub, ih he⟩

/-- No bid of the bus, nor one with it as head, is left. -/
theorem State.dropBidsOf_bids {b : Nat} {s : State} {e : BidEntry} (he : e ∈ (s.dropBidsOf b).hand.bids) :
    (e.stage ≠ .swap → e.bus ≠ b) ∧ ∀ h, e.head = some h → h.bus ≠ b := by
  have hmem := (State.dropBidsOf_loses b s).bids.subset he
  have htag : e.tag ∉ s.bidTagsOf b := State.dropBids_tag he
  have hnot : ((decide (e.stage ≠ .swap) && decide (e.bus = b)) || decide ((e.head.map (fun h => h.bus)) = some b)) = false := by
    rw [Bool.eq_false_iff]
    exact fun hc => htag (List.mem_map.2 ⟨e, List.mem_filter.2 ⟨hmem, hc⟩, rfl⟩)
  simp only [Bool.or_eq_false_iff, Bool.and_eq_false_iff, decide_eq_false_iff_not, not_not] at hnot
  refine ⟨fun hs hb => ?_, fun h hh hb => ?_⟩
  · rcases hnot.1 with h1 | h1
    · exact hs h1
    · exact h1 hb
  · exact hnot.2 (by rw [hh, Option.map_some, hb])

/-- The places but one where EXPECTED entries of a bus go. -/
theorem State.dropExpectedOf_loses (b : Nat) (here : Option Resource) (s : State) : s.Loses (s.dropExpectedOf b here) := by
  have hqueue := State.queuePending_loses (s := s)
    (f := fun p e => decide (here ≠ some (.point p)) && (decide (e.visit.bus = b) && decide (e.state = .expected)))
    (fun p e he => by
      simp only [Bool.and_eq_true, decide_eq_true_eq] at he
      simp [QueueEntry.isFront, he.2.2]) rfl
  refine State.Loses.trans (t := { s with
    point0 := if here = some (.point .p0) then s.point0 else { s.point0 with
      queue := s.point0.queue.filter (fun e => !(decide (e.visit.bus = b) && decide (e.state = .expected))) }
    point1 := if here = some (.point .p1) then s.point1 else { s.point1 with
      queue := s.point1.queue.filter (fun e => !(decide (e.visit.bus = b) && decide (e.state = .expected))) } }) ?_
    (State.removeLaneEntries_loses (fun n e he => ?_) _)
  · convert hqueue using 2
    · by_cases h : here = some (.point .p0) <;> simp [h]
    · by_cases h : here = some (.point .p1) <;> simp [h]
  · simp only [Bool.and_eq_true, decide_eq_true_eq] at he
    simp [LaneEntry.isFront, he.2]

theorem State.Loses.laneEntries {s t : State} (h : s.Loses t) {e : LaneEntry} (he : e ∈ t.laneEntries) : e ∈ s.laneEntries := by
  obtain ⟨l', hl', he'⟩ := List.mem_flatMap.1 he
  obtain ⟨l, hl, hll⟩ := exists_of_forall₂_right h.lanes hl'
  exact List.mem_flatMap.2 ⟨l, hl, hll.sub.subset he'⟩

theorem State.Loses.laneEntries_front {s t : State} (h : s.Loses t) {e : LaneEntry} (he : e ∈ s.laneEntries)
    (hf : e.isFront = true) : e ∈ t.laneEntries := by
  obtain ⟨l, hl, he'⟩ := List.mem_flatMap.1 he
  obtain ⟨l', hl', hll⟩ := exists_of_forall₂_left h.lanes hl
  have hmem : e ∈ l'.entries.filter LaneEntry.isFront := by
    rw [hll.front]
    exact List.mem_filter.2 ⟨he', hf⟩
  exact List.mem_flatMap.2 ⟨l', hl', (List.mem_filter.1 hmem).1⟩

theorem State.Loses.queue_front {s t : State} (h : s.Loses t) {p : PointId} {e : QueueEntry} (he : e ∈ (s.point p).queue)
    (hf : e.isFront = true) : e ∈ (t.point p).queue := by
  have hmem : e ∈ (t.point p).queue.filter QueueEntry.isFront := by
    rw [h.front]
    exact List.mem_filter.2 ⟨he, hf⟩
  exact (List.mem_filter.1 hmem).1

theorem State.Loses.item? {s t : State} (h : s.Loses t) (k : ItemKey) : t.item? k = s.item? k := by
  rw [State.item?, h.hand, State.item?]

theorem FrameBody.isClaimOf_of_report {b : FrameBody} (h : b.kind = .report) (tag : Tag) : b.isClaimOf tag = false := by
  cases b <;> simp [FrameBody.kind, FrameBody.isClaimOf] at h ⊢

/-- A place in the transmit queue is not lost. -/
theorem State.Loses.canPlace {s t : State} (h : s.Loses t) {c : FrameClass} (hc : s.canPlace c = true) : t.canPlace c = true := by
  simp only [State.canPlace, State.transmitFull, Bool.or_eq_true, Bool.not_eq_true', decide_eq_false_iff_not, Bool.and_eq_true,
    List.any_eq_true] at hc ⊢
  rcases hc with hc | ⟨hc, x, hx, hd⟩
  · left
    rw [h.muted]
    have hlen := h.frames.length_le
    omega
  · right
    refine ⟨hc, x, h.kept x hx (fun tag => ?_), hd⟩
    simp only [TxFrame.displaceable, TxFrame.cls, Bool.and_eq_true] at hd
    refine FrameBody.isClaimOf_of_report ?_ tag
    cases hk : x.body.kind <;> simp [hk, FrameKind.cls] at hd ⊢

end Sys2Proof.Machine

namespace Sys2Proof.Machine

open Sys2Proof

/-! ## What a record given up leaves as it is (R38, R39, R40) -/

/-- The two queues of a node without its record of the bus, but at one place. -/
def State.queuesGivenUp (b : Nat) (here : Resource) (s : State) : State :=
  ((s.offerGivenUp b).queueGivenUp .p0 b here).queueGivenUp .p1 b here

theorem State.giveUpRecord_eq' (b : Nat) (here : Resource) (s : State) :
    s.giveUpRecord b here = State.testIfClosed s ((s.queuesGivenUp b here).lanesGivenUp b here) := State.giveUpRecord_eq b here s

theorem State.queuesGivenUp_rest (b : Nat) (here : Resource) (s : State) :
    (s.queuesGivenUp b here).lanes = s.lanes ∧ (s.queuesGivenUp b here).clock = s.clock ∧
      (s.queuesGivenUp b here).field = s.field ∧ (s.queuesGivenUp b here).loader.reports = s.loader.reports ∧
      (s.queuesGivenUp b here).hand.bids = s.hand.bids := by
  have hoff := State.offerGivenUp_sansOffers b s
  have h0 := State.queueGivenUp_sansPoint .p0 b here (s.offerGivenUp b)
  have h1 := State.queueGivenUp_sansPoint .p1 b here ((s.offerGivenUp b).queueGivenUp .p0 b here)
  unfold State.queuesGivenUp
  refine ⟨?_, ?_, ?_, ?_, ?_⟩
  · rw [State.lanes_of_point h1, State.lanes_of_point h0, State.lanes_of_offers hoff]
  · rw [State.clock_of_point h1, State.clock_of_point h0, State.clock_of_offers hoff]
  · rw [State.field_of_point h1, State.field_of_point h0, State.field_of_offers hoff]
  · rw [State.reports_of_point h1, State.reports_of_point h0, State.reports_of_offers hoff]
  · rw [State.bids_of_point h1, State.bids_of_point h0, State.bids_of_offers hoff]

/-- The queues change, and no entry there becomes pending. -/
theorem State.takeFromQueue_pending (p q : PointId) (b : Nat) (s : State) :
    ∀ e ∈ ((s.takeFromQueue p b).point q).queue, e.isFront = false → e ∈ (s.point q).queue := by
  intro e he hf
  by_cases hq : q = p
  · subst hq
    rcases State.takeFromQueue_cases q b s with ⟨-, h⟩ | ⟨x, -, -, -, -, h⟩ <;> rw [h] at he
    · exact he
    · have hmod : e ∈ ((s.modPoint q (s.takenPoint q b x)).point q).queue := by
        unfold State.clearingTest at he
        split at he
        · have hleft := (State.startTests_tested q _ _).pending e he hf
          rw [State.leaveClearing, State.modPoint_point] at hleft
          exact hleft
        · exact he
      rw [State.modPoint_point, State.takenPoint_queue] at hmod
      exact (List.mem_filter.1 hmod).1
  · rwa [State.point_of_point (State.takeFromQueue_sansPoint p b s) hq] at he

theorem State.queueGivenUp_pending (p q : PointId) (b : Nat) (here : Resource) (s : State) :
    ∀ e ∈ ((s.queueGivenUp p b here).point q).queue, e.isFront = false → e ∈ (s.point q).queue := by
  unfold State.queueGivenUp
  split
  · exact fun e he _ => he
  · exact State.takeFromQueue_pending p q b s

theorem State.giveUpRecord_point (b : Nat) (here : Resource) (s : State) (p : PointId) :
    (s.giveUpRecord b here).point p = (s.queuesGivenUp b here).point p := by
  rw [State.giveUpRecord_eq', State.point_of_offers (State.testIfClosed_sansOffers s _)]
  cases p <;> rfl

theorem State.giveUpRecord_pending (b : Nat) (here : Resource) (s : State) (p : PointId) :
    ∀ e ∈ ((s.giveUpRecord b here).point p).queue, e.isFront = false → e ∈ (s.point p).queue := by
  intro e he hf
  rw [State.giveUpRecord_point] at he
  have h1 := State.queueGivenUp_pending .p1 p b here _ e he hf
  have h0 := State.queueGivenUp_pending .p0 p b here _ e h1 hf
  rwa [State.offerGivenUp_point] at h0

theorem State.giveUpRecord_lanes (b : Nat) (here : Resource) (s : State) :
    (s.giveUpRecord b here).lanes = (s.lanesGivenUp b here).lanes := by
  have himage : (s.queuesGivenUp b here).image = s.image := by
    have h : (s.queuesGivenUp b here).loader.image = s.loader.image := by
      unfold State.queuesGivenUp
      exact (State.image_of_point (State.queueGivenUp_sansPoint .p1 b here _)).trans
        ((State.image_of_point (State.queueGivenUp_sansPoint .p0 b here _)).trans
        (congrArg (fun u : State => u.loader.image) (State.offerGivenUp_sansOffers b s) :))
    exact h
  rw [State.giveUpRecord_eq', State.lanes_of_offers (State.testIfClosed_sansOffers s _)]
  simp only [State.lanesGivenUp, State.removeLaneEntries, State.setLanes, himage, (s.queuesGivenUp_rest b here).1]

theorem State.giveUpRecord_lane (b : Nat) (here : Resource) (s : State) (n : Nat) :
    (s.giveUpRecord b here).lanes[n]? = (s.lanes[n]?).map (fun l => l.without s.image (s.image.laneLengthOf n)
      (fun e => decide (here ≠ .lane n) && decide (e.visit.bus = b) && e.isFront)) := by
  rw [State.giveUpRecord_lanes, State.lanesGivenUp, State.removeLaneEntries_lane]

theorem State.giveUpRecord_rest (b : Nat) (here : Resource) (s : State) :
    (s.giveUpRecord b here).clock = s.clock ∧ (s.giveUpRecord b here).field.codes = s.field.codes ∧
      (s.giveUpRecord b here).loader.reports = s.loader.reports ∧ (s.giveUpRecord b here).hand.bids = s.hand.bids := by
  obtain ⟨-, hclock, hfield, hreports, hbids⟩ := s.queuesGivenUp_rest b here
  have hoff := State.testIfClosed_sansOffers s ((s.queuesGivenUp b here).lanesGivenUp b here)
  rw [State.giveUpRecord_eq']
  exact ⟨(State.clock_of_offers hoff).trans hclock, (congrArg Field.codes (State.field_of_offers hoff)).trans (congrArg Field.codes hfield :),
    (State.reports_of_offers hoff).trans hreports, (State.bids_of_offers hoff).trans hbids⟩

theorem State.giveUpRecord_laneEntries (b : Nat) (here : Resource) (s : State) :
    ∀ e ∈ (s.giveUpRecord b here).laneEntries, e ∈ s.laneEntries := by
  intro e he
  obtain ⟨l, hl, hle⟩ := List.mem_flatMap.1 he
  obtain ⟨n, hn⟩ := List.mem_iff_getElem?.1 hl
  rw [State.giveUpRecord_lane] at hn
  obtain ⟨l', hl', rfl⟩ := Option.map_eq_some_iff.1 hn
  rw [Lane.without_entries] at hle
  exact List.mem_flatMap.2 ⟨l', List.mem_of_getElem? hl', (List.mem_filter.1 hle).1⟩

/-! ## A STRAY of another station (R39) -/

/-- No EXPECTED entry of the bus stays, where no place is excepted. -/
theorem State.dropExpectedOf_none (b : Nat) (s : State) :
    (∀ e ∈ (s.dropExpectedOf b none).laneEntries, e.visit.bus = b → e.state ≠ .expected) ∧
      ∀ p, ∀ e ∈ ((s.dropExpectedOf b none).point p).queue, e.visit.bus = b → e.state ≠ .expected := by
  refine ⟨fun e he hb hs => ?_, fun p e he hb hs => ?_⟩
  · obtain ⟨l, hl, hle⟩ := List.mem_flatMap.1 he
    obtain ⟨n, hn⟩ := List.mem_iff_getElem?.1 hl
    rw [State.dropExpectedOf, State.removeLaneEntries_lane] at hn
    obtain ⟨l', -, rfl⟩ := Option.map_eq_some_iff.1 hn
    rw [Lane.without_entries] at hle
    simpa [hb, hs] using (List.mem_filter.1 hle).2
  · have hmem : e ∈ (s.point p).queue.filter (fun e => !(decide (e.visit.bus = b) && decide (e.state = .expected))) := by
      cases p <;> simpa [State.dropExpectedOf, State.removeLaneEntries, State.setLanes, State.point] using he
    simpa [hb, hs] using (List.mem_filter.1 hmem).2

/-- The item, the standing queue entry or the standing lane entry whose record the node holds. -/
theorem State.ownRecord?_of_item {s : State} {b : Nat} {i : OutItem} {r : VisitRecord} (hi : s.item? (.bus b) = some i)
    (hc : i.cargo = .visit r) (here : Resource) : s.ownRecord? b here = some r := by
  rw [State.ownRecord?_eq, hi]
  simp [OutItem.visit?, hc]

theorem find?_of_unique {α : Type} {f : α → Bool} {l : List α} {x : α} (hx : x ∈ l) (hf : f x = true)
    (hu : ∀ y ∈ l, f y = true → y = x) : l.find? f = some x := by
  cases h : l.find? f with
  | none => exact absurd hf (List.find?_eq_none.1 h x hx)
  | some y => rw [hu y (List.mem_of_find?_eq_some h) (List.find?_some h)]

theorem State.ownRecord?_of_queued {s : State} {b : Nat} {here : Resource} {p : PointId} {e : QueueEntry}
    (hi : s.item? (.bus b) = none) (he : e ∈ (s.point p).queue) (hb : e.visit.bus = b) (hf : e.isFront = true)
    (hh : ∀ q, here ≠ .point q)
    (hu : ∀ q, ∀ x ∈ (s.point q).queue, x.visit.bus = b → x.isFront = true → q = p ∧ x = e) :
    s.ownRecord? b here = some (s.handedRecord p e) := by
  have hfind : (s.point p).queue.find? (fun e => decide (e.visit.bus = b) && e.isFront) = some e :=
    find?_of_unique he (by simp [hb, hf]) (fun y hy hyf => by
      simp only [Bool.and_eq_true, decide_eq_true_eq] at hyf
      exact (hu p y hy hyf.1 hyf.2).2)
  rw [State.ownRecord?_eq, hi, if_neg (hh _), if_neg (hh _)]
  cases p with
  | p0 =>
    rw [show s.point0.queue.find? _ = some e from hfind]
    simp
  | p1 =>
    have hnone : s.point0.queue.find? (fun e => decide (e.visit.bus = b) && e.isFront) = none := by
      refine List.find?_eq_none.2 (fun y hy hyf => ?_)
      simp only [Bool.and_eq_true, decide_eq_true_eq] at hyf
      cases (hu .p0 y hy hyf.1 hyf.2).1
    rw [hnone, show s.point1.queue.find? _ = some e from hfind]
    simp

theorem State.handedRecord_of_not_serving {s : State} {p : PointId} {e : QueueEntry} (hs : e.state ≠ .serving) :
    s.handedRecord p e = e.visit := if_neg hs

theorem State.ownRecord?_of_lane {s : State} {b : Nat} {here : Resource} {e : LaneEntry} (hi : s.item? (.bus b) = none)
    (he : e ∈ s.laneEntries) (hb : e.visit.bus = b) (hf : e.isFront = true) (hh : ∀ n, n < s.lanes.length → here ≠ .lane n)
    (hq : ∀ q, ∀ x ∈ (s.point q).queue, x.visit.bus = b → x.isFront = false)
    (hu : ∀ x ∈ s.laneEntries, x.visit.bus = b → x.isFront = true → x = e) : s.ownRecord? b here = some e.visit := by
  have hnone : ∀ q, (s.point q).queue.find? (fun e => decide (e.visit.bus = b) && e.isFront) = none := fun q => by
    refine List.find?_eq_none.2 (fun y hy hyf => ?_)
    simp only [Bool.and_eq_true, decide_eq_true_eq] at hyf
    exact absurd hyf.2 (by simp [hq q y hy hyf.1])
  obtain ⟨l, hl, hle⟩ := List.mem_flatMap.1 he
  obtain ⟨n, hn⟩ := List.mem_iff_getElem?.1 hl
  have hlen := (List.getElem?_eq_some_iff.1 hn).1
  rw [State.ownRecord?_eq, hi, show s.point0.queue.find? _ = none from hnone .p0, show s.point1.queue.find? _ = none from hnone .p1]
  simp only [Option.bind_none, Option.map_none, ite_self, Option.none_or]
  have hsome : ∀ (k : Nat) (r : VisitRecord),
      ((s.lanes[k]?).bind (fun (l : Lane) => l.entries.find? (fun e => decide (e.visit.bus = b) && e.isFront))).map
        (fun (e : LaneEntry) => e.visit) = some r → r = e.visit := by
    intro k r hr
    obtain ⟨y, hy, rfl⟩ := Option.map_eq_some_iff.1 hr
    obtain ⟨l', hl', hy'⟩ := Option.bind_eq_some_iff.1 hy
    have hyf := List.find?_some hy'
    simp only [Bool.and_eq_true, decide_eq_true_eq] at hyf
    rw [hu y (List.mem_flatMap.2 ⟨l', List.mem_of_getElem? hl', List.mem_of_find?_eq_some hy'⟩) hyf.1 hyf.2]
  cases hfound : ((List.range s.lanes.length).filter (fun n => decide (here ≠ .lane n))).findSome? (fun n =>
      ((s.lanes[n]?).bind (fun (l : Lane) => l.entries.find? (fun e => decide (e.visit.bus = b) && e.isFront))).map
        (fun (e : LaneEntry) => e.visit)) with
  | none =>
    have hno := List.findSome?_eq_none_iff.1 hfound n (by simp [hlen, hh n hlen])
    rw [hn, Option.bind_some, Option.map_eq_none_iff] at hno
    exact absurd (List.find?_eq_none.1 hno e hle) (by simp [hb, hf])
  | some r =>
    obtain ⟨k, -, hk⟩ := List.exists_of_findSome?_eq_some hfound
    rw [hsome k r hk]

end Sys2Proof.Machine

namespace Sys2Proof.Machine

open Sys2Proof

/-! ## The node after a STRAY of another station (R39) -/

/-- The node without its bids and its EXPECTED entries of a bus. -/
def State.unclaimed (b : Nat) (s : State) : State := (s.dropBidsOf b).dropExpectedOf b none

/-- The node when the STRAY is answered and its offer of the bus cancelled. -/
def State.answered (b source : Nat) (s : State) : State :=
  ((s.unclaimed b).answerStray b source (.lane 6)).cancelOffer (.bus b)

theorem State.onStray_eq (source b : Nat) (s : State) : s.onStray source b =
    State.settle s (State.testIfClosed ((s.unclaimed b).answerStray b source (.lane 6)) (s.answered b source)) := rfl

theorem State.unclaimed_loses (b : Nat) (s : State) : s.Loses (s.unclaimed b) :=
  (State.dropBidsOf_loses b s).trans (State.dropExpectedOf_loses b none _)

theorem State.unclaimed_bids {b : Nat} {s : State} {e : BidEntry} (he : e ∈ (s.unclaimed b).hand.bids) :
    (e.stage ≠ .swap → e.bus ≠ b) ∧ ∀ h, e.head = some h → h.bus ≠ b :=
  State.dropBidsOf_bids ((State.dropExpectedOf_loses b none _).bids.subset he)

/-- The answer takes the node's record away and leaves its bids, its reports and its pending entries. -/
theorem State.answerStray_rest (b source : Nat) (here : Resource) (t : State) :
    (t.answerStray b source here).hand.bids = t.hand.bids ∧
      (t.answerStray b source here).loader.reports = t.loader.reports ∧
      (∀ p, ∀ e ∈ ((t.answerStray b source here).point p).queue, e.isFront = false → e ∈ (t.point p).queue) ∧
      ∀ e ∈ (t.answerStray b source here).laneEntries, e ∈ t.laneEntries := by
  cases hr : t.ownRecord? b here with
  | none => simp only [State.answerStray, hr]; exact ⟨trivial, trivial, fun _ _ he _ => he, fun _ he => he⟩
  | some r =>
    have hplaced := State.place_sansOffers (.record r) source t
    obtain ⟨-, -, hreports, hbids⟩ := (t.place (.record r) source).giveUpRecord_rest b here
    simp only [State.answerStray, hr]
    refine ⟨hbids.trans (State.bids_of_offers hplaced), hreports.trans (State.reports_of_offers hplaced), fun p e he hf => ?_,
      fun e he => ?_⟩
    · have := State.giveUpRecord_pending b here _ p e he hf
      rwa [State.point_of_offers hplaced] at this
    · have := State.giveUpRecord_laneEntries b here _ e he
      rwa [State.laneEntries, State.lanes_of_offers hplaced] at this

theorem State.cancelOffer_offer (b : Nat) (s : State) : ∀ o, (s.cancelOffer (.bus b)).hand.offer = some o → o.key ≠ .bus b :=
  (State.offerGivenUp_gone b s).offer

/-- Nothing of the bus stands in the node any more. -/
theorem State.answered_gone (b source : Nat) {s : State} (hl : s.lanes.length ≤ 6) :
    (s.answered b source).Gone False b (fun _ => True) := by
  have hlen : (s.unclaimed b).lanes.length ≤ 6 := by rw [← (s.unclaimed_loses b).lanes.length_eq]; exact hl
  have hsix : ∀ {t : State} {n : Nat} {l : Lane}, t.lanes.length ≤ 6 → t.lanes[n]? = some l → n ≠ 6 := by
    intro t n l hlen hn hk
    have := (List.getElem?_eq_some_iff.1 hn).1
    omega
  unfold State.answered
  generalize s.unclaimed b = t at hlen
  have hitems : ∀ u : State, (u.cancelOffer (.bus b)).hand.outbound = u.hand.outbound := by
    intro u
    unfold State.cancelOffer
    repeat' split
    all_goals rfl
  have hoff := fun u : State => State.cancelOffer_sansOffers (.bus b) u
  cases hr : t.ownRecord? b (.lane 6) with
  | none =>
    obtain ⟨hnoitem, hqueues, hlanes⟩ := State.nowhere_of_ownRecord? hr
    simp only [State.answerStray, hr]
    refine ⟨⟨by rw [hitems]; exact hnoitem, State.cancelOffer_offer b t, fun hq => hq.elim⟩, fun p _ => ?_, fun n l _ hn => ?_⟩
    · rw [State.point_of_offers (hoff t)]
      exact hqueues p (by simp)
    · rw [State.lanes_of_offers (hoff t)] at hn
      exact hlanes n l (fun h => hsix hlen hn (Resource.lane.inj h).symm) hn
  | some r =>
    simp only [State.answerStray, hr]
    have hgone := ((State.giveUpRecord_gone b (.lane 6) (t.place (.record r) source))).cancelOffer (.bus b)
    have hlen' : ((t.place (.record r) source).giveUpRecord b (.lane 6)).lanes.length ≤ 6 := by
      rw [State.giveUpRecord_lanes, State.lanesGivenUp, State.removeLaneEntries]
      simpa [State.setLanes, State.lanes_of_offers (State.place_sansOffers (.record r) source t)] using hlen
    refine ⟨⟨hgone.items, hgone.offer, fun hq => hq.elim⟩, fun p _ => hgone.queues p (by simp), fun n l _ hn => ?_⟩
    refine hgone.lanes n l ?_ hn
    rw [State.lanes_of_offers (hoff _)] at hn
    simpa using hsix hlen' hn

theorem State.onStray_sends (s : State) (source b : Nat) :
    ((s.unclaimed b).answerStray b source (.lane 6)).Sends (s.onStray source b) := by
  have hcancel : ((s.unclaimed b).answerStray b source (.lane 6)).Sends (s.answered b source) := State.cancelOffer_sends _ _
  rw [State.onStray_eq]
  generalize s.answered b source = t at hcancel
  exact (hcancel.trans (State.testIfClosed_sends _ t)).trans (State.settle_sends s _)

/-- The RECORD that answers the STRAY outlives the event. -/
theorem State.onStray_sends_record {s : State} {b source : Nat} {r : VisitRecord}
    (hr : (s.unclaimed b).ownRecord? b (.lane 6) = some r) (hroom : s.canPlace .normal = true) :
    ∃ x ∈ (s.onStray source b).line.transmit, x.body = .record r ∧ x.destination = source ∧ x.cls = .normal := by
  have hmem := State.mem_place (.record r) source (s.unclaimed b) ((s.unclaimed_loses b).canPlace hroom)
  obtain ⟨x, hx, hbody, hdest⟩ : ∃ x ∈ ((s.unclaimed b).place (.record r) source).line.transmit,
      x.body = .record r ∧ x.destination = source := ⟨_, hmem, rfl, rfl⟩
  have hcls : x.cls = .normal := by simp [TxFrame.cls, hbody, FrameBody.kind, FrameKind.cls]
  refine ⟨x, ?_, hbody, hdest, hcls⟩
  have hanswer : x ∈ ((s.unclaimed b).answerStray b source (.lane 6)).line.transmit := by
    simp only [State.answerStray, hr]
    exact (State.giveUpRecord_sends b _ _).kept_frame hx (by simp [TxFrame.displaceable, hcls])
      (by simp [hbody, FrameBody.isOffer]) (by simp [hbody, FrameBody.isClaimOf])
  exact (s.onStray_sends source b).kept_frame hanswer
    (by simp [TxFrame.displaceable, hcls]) (by simp [hbody, FrameBody.isOffer]) (by simp [hbody, FrameBody.isClaimOf])

/-- What is left of the bus after the STRAY. -/
theorem State.onStray_ends (s : State) (source b : Nat) : (s.answered b source).Ends (s.onStray source b) := by
  have htest : (s.answered b source).Ends
      (State.testIfClosed ((s.unclaimed b).answerStray b source (.lane 6)) (s.answered b source)) := by
    unfold State.testIfClosed
    split
    · exact State.offerTest_ends _
    · exact .refl _
  exact htest.trans (State.settle_ends _ _)

theorem State.onStray_bids (s : State) (source b : Nat) :
    ∀ e ∈ (s.onStray source b).hand.bids, e ∈ (s.unclaimed b).hand.bids := by
  intro e he
  have hmem := (s.onStray_sends source b).bids.subset he
  rwa [((s.unclaimed b).answerStray_rest b source (.lane 6)).1] at hmem

/-- A pending entry of the bus that stays is TENTATIVE. -/
theorem State.onStray_entries (s : State) (source b : Nat) (hl : s.lanes.length ≤ 6) :
    (∀ e ∈ (s.onStray source b).laneEntries, e.visit.bus = b → e.state = .tentative) ∧
      ∀ p, ∀ e ∈ ((s.onStray source b).point p).queue, e.visit.bus = b → e.state = .tentative := by
  have hends := s.onStray_ends source b
  have hgone : (s.onStray source b).Gone False b (fun _ => True) := by
    rw [State.onStray_eq]
    exact ((s.answered_gone b source hl).testIfClosed _).settle _
  obtain ⟨hlanes, hqueues⟩ := State.dropExpectedOf_none b (s.dropBidsOf b)
  obtain ⟨-, -, hpending, hentries⟩ := (s.unclaimed b).answerStray_rest b source (.lane 6)
  have hoff := State.cancelOffer_sansOffers (.bus b) ((s.unclaimed b).answerStray b source (.lane 6))
  refine ⟨fun e he hb => ?_, fun p e he hb => ?_⟩
  · obtain ⟨l, hlane, hle⟩ := List.mem_flatMap.1 he
    obtain ⟨n, hn⟩ := List.mem_iff_getElem?.1 hlane
    have hfront := hgone.lanes n l trivial hn e hle hb
    obtain ⟨y, hy, hye⟩ := hends.mem_laneEntries he
    have hstate : y.state = e.state := by
      rcases hye.state with h | h
      · exact h.symm
      · simp [LaneEntry.isFront, h] at hfront
    have hyb : y.visit.bus = b := by rw [← hb, hye.rest]
    have hy' : y ∈ ((s.unclaimed b).answerStray b source (.lane 6)).laneEntries := by
      rwa [State.answered, State.laneEntries, State.lanes_of_offers hoff] at hy
    have hexp := hlanes y (hentries y hy') hyb
    cases hs : e.state <;> simp [LaneEntry.isFront, hs] at hfront hstate ⊢
    exact hexp hstate
  · have hfront := hgone.queues p trivial e he hb
    rw [hends.point, State.answered, State.point_of_offers hoff] at he
    have hexp := hqueues p e (hpending p e he hfront) hb
    cases hs : e.state <;> simp [QueueEntry.isFront, hs] at hfront hexp ⊢

end Sys2Proof.Machine

namespace Sys2Proof

open Sys2Proof.Machine

/-- Settles O48: the node's bids and EXPECTED entries go first, then its record, in the one place that holds it, and its
offer; the end of the event brings none of them back. -/
theorem strayMakesTheNodeGiveTheBusUp : Obligations.StrayMakesTheNodeGiveTheBusUp := by
  intro s f source b hacc hb hl
  have hexec : exec (.stray f) s = .next (s.heard.onStray source b) := by
    rw [hb]
    exact congrArg _ (State.receive_of_accepts hacc (fun source => State.onStray source (pairAt f.payload 0)))
  have hends := s.heard.onStray_ends source b
  have hloses := s.heard.unclaimed_loses b
  have hl' : s.heard.lanes.length ≤ 6 := hl
  obtain ⟨-, hreports, -, -⟩ := (s.heard.unclaimed b).answerStray_rest b source (.lane 6)
  have hoff := State.cancelOffer_sansOffers (.bus b) ((s.heard.unclaimed b).answerStray b source (.lane 6))
  have hgone : (s.heard.onStray source b).Gone False b (fun _ => True) := by
    rw [State.onStray_eq]
    exact ((s.heard.answered_gone b source hl').testIfClosed _).settle _
  have hkept := s.heard.onStray_bids source b
  obtain ⟨hlanes, hqueues⟩ := s.heard.onStray_entries source b hl'
  have hsteady : (s.heard.onStray source b).steady = s.steady := by simp [State.onStray]
  have hstill : (s.heard.onStray source b).still = s.heard.still := by simp [State.onStray]
  have hrep : (s.heard.onStray source b).loader.reports = s.loader.reports := by
    rw [hends.reports, State.answered, State.reports_of_offers hoff, hreports, hloses.loader, State.heard_loader]
  have hsent : ∀ r, (s.heard.unclaimed b).ownRecord? b (.lane 6) = some r → s.canPlace .normal = true →
      ∃ x ∈ (s.heard.onStray source b).line.transmit, x.body = .record r ∧ x.destination = source ∧ x.cls = .normal :=
    fun r hr hroom => State.onStray_sends_record hr hroom
  have hitem := hloses.item? (.bus b)
  have hlen := hloses.lanes.length_eq
  generalize s.heard.onStray source b = t at *
  refine ⟨t, hexec, hsteady, hstill, hrep, fun e he => (State.unclaimed_bids (hkept e he)).1,
    fun e he => (State.unclaimed_bids (hkept e he)).2, hgone.items, hgone.offer, hlanes, hqueues, ?_, ?_, ?_⟩
  · intro i r hi hc
    exact hsent r (State.ownRecord?_of_item (hitem.trans hi) hc _)
  · intro p e he heb hf hs hi hu
    have hrecord := State.ownRecord?_of_queued (here := .lane 6) (hitem.trans hi) (hloses.queue_front he hf) heb hf (by simp)
      (fun q x hx => hu q x ((hloses.queue q).subset hx))
    exact hsent _ (by rw [hrecord, State.handedRecord_of_not_serving hs])
  · intro e he heb hf hi hq hu
    refine hsent _ (State.ownRecord?_of_lane (hitem.trans hi) (hloses.laneEntries_front he hf) heb hf (fun n hn hc => ?_)
      (fun q x hx => hq q x ((hloses.queue q).subset hx)) (fun x hx => hu x (hloses.laneEntries hx)))
    obtain rfl := Resource.lane.inj hc
    omega

end Sys2Proof

namespace Sys2Proof.Machine

open Sys2Proof

/-! ## The commit closes the offer (R27, R148) -/

section
variable {q : Prop} {k : ItemKey} {s t : State}

theorem State.Closed.of_loses (h : s.Closed q k) (hl : s.Loses t) : t.Closed q k :=
  h.of_hand (by rw [hl.hand]) (by rw [hl.hand]) (fun _ _ hy => .inl (hl.frames.subset hy))

theorem State.Closed.report (h : s.Closed q k) (b : ReportBody) : (s.report b).Closed q k := by
  have hhead : ∀ u : State, u.Closed q k → u.placeHeadReport.Closed q k := by
    intro u hu
    unfold State.placeHeadReport
    repeat' split
    · exact hu.of_same rfl rfl rfl
    · exact hu
    · exact State.Closed.place (hu.of_same (by rfl) (by rfl) (by rfl)) rfl _
  have hset : ∀ l, (s.countReport.setReports l).Closed q k := fun l => h.of_same rfl rfl rfl
  unfold State.report
  dsimp only
  split
  · exact h
  · split
    · split
      · exact hhead _ (hset _)
      · exact hset _
    · split
      · exact hset _
      · exact hhead _ ((hset _).dropFrames _)

/-- A frame whose record is changed still carries what its OFFER is of. -/
theorem TxFrame.of_mapVisit_offer {f : VisitRecord → VisitRecord} (hf : ∀ r, (f r).bus = r.bus) {x : TxFrame} {n sup : Nat}
    {c : Cargo} (h : (x.mapVisit f).body = .offer n sup c) : ∃ c', x.body = .offer n sup c' ∧ c'.key = c.key := by
  unfold TxFrame.mapVisit at h
  split at h
  · exact ⟨c, h, rfl⟩
  · split at h
    · next r hb =>
      cases h
      exact ⟨_, hb, by simp [Cargo.key, hf]⟩
    · cases h
    · exact ⟨c, h, rfl⟩

theorem State.Closed.mapVisits (h : s.Closed q k) {f : VisitRecord → VisitRecord} (hf : ∀ r, (f r).bus = r.bus) :
    (s.mapVisits f).Closed q k := by
  refine ⟨fun i hi => ?_, h.offer, fun hq y hy n sup c hb hc => ?_⟩
  · obtain ⟨j, hj, rfl⟩ := List.mem_map.1 hi
    rw [OutItem.mapVisit_key hf]
    exact h.items j hj
  · obtain ⟨x, hx, rfl⟩ := List.mem_map.1 hy
    obtain ⟨c', hb', hkey⟩ := TxFrame.of_mapVisit_offer hf hb
    have hsend := h.frames hq x hx n sup c' hb' (hkey.trans hc)
    rw [TxFrame.mapVisit_eq]
    exact hsend

theorem State.Closed.dropChangedHeads (h : s.Closed q k) (before : State) : (State.dropChangedHeads before s).Closed q k := by
  rcases State.dropChangedHeads_cases before s with e | e <;> rw [e]
  · exact h.removeBids _
  · exact (h.removeBids _).of_same rfl rfl rfl

theorem State.Closed.bindBus (h : s.Closed q k) (bus run wall : Nat) (pinned substituted : Bool) :
    (s.bindBus bus run wall pinned substituted).Closed q k := by
  have hbound := (h.mapVisits (bindVisit_bus bus run (Duty.bindTo s.clock run wall pinned substituted))).dropChangedHeads s
  unfold State.bindBus State.reportAdjusted
  dsimp only
  split
  · split
    · exact hbound.report _
    · exact hbound
  · exact hbound

theorem State.Closed.unbindBus (h : s.Closed q k) (bus : Nat) : (s.unbindBus bus).Closed q k :=
  (h.mapVisits (unbindVisit_bus bus)).dropChangedHeads s

theorem State.Closed.rebindAsker (h : s.Closed q k) (run : Nat) (x : HeadFields) : (s.rebindAsker run x).Closed q k := by
  unfold State.rebindAsker
  split
  · exact h
  · dsimp only
    split
    · exact (h.bindBus ..).of_same rfl rfl rfl
    · exact (h.unbindBus _).of_same rfl rfl rfl

theorem State.closeOffer_closed (k : ItemKey) (s : State) : (s.closeOffer k).Closed True k := by
  refine ⟨fun i hi => (State.mem_removeItem.1 hi).2, fun o ho => (by cases ho), fun _ y hy n sup c hb _ => ?_⟩
  rcases (State.mem_dropFrames.1 hy).2 with h | h
  · exact h
  · simp [hb, FrameBody.isOffer] at h

theorem State.showTaker_codes (it : OutItem) (x : HeardTake) (s : State) :
    (s.showTaker it x).hand = s.hand ∧ (s.showTaker it x).line = s.line := by
  unfold State.showTaker
  split
  · rw [State.setGuide_eq]; exact ⟨rfl, rfl⟩
  · exact ⟨rfl, rfl⟩

/-- A commit leaves nothing of the item, of its offer and of an OFFER that waits. -/
theorem State.commit_closed {o : OpenOffer} {i : OutItem} (hi : s.item? o.key = some i) (x : HeardTake) :
    (s.commit o x).Closed True o.key := by
  obtain ⟨hhand, hline⟩ := State.showTaker_codes i x (s.closeOffer o.key)
  have hshown : ((s.closeOffer o.key).showTaker i x).Closed True o.key :=
    (State.closeOffer_closed o.key s).of_same (by rw [hhand]) (by rw [hhand]) (by rw [hline])
  unfold State.commit
  simp only [hi]
  change State.Closed True o.key (State.offerTest (match i.cargo, x.head with
    | .swap r, some h => ((s.closeOffer o.key).showTaker i x).rebindAsker r.run h
    | _, _ => (s.closeOffer o.key).showTaker i x))
  split
  · exact (hshown.rebindAsker _ _).offerTest
  · exact hshown.offerTest

/-- A commit shows the taker at the place of the item. -/
theorem State.commit_guide {o : OpenOffer} {i : OutItem} {r : VisitRecord} {place : GuidePlace} (hi : s.item? o.key = some i)
    (hp : i.place = some place) (hc : i.cargo = .visit r) (x : HeardTake) :
    (s.commit o x).guide place = { code := .destination x.source x.resource, bus := some r.bus } := by
  rw [State.commit_of_visit hi hc, (State.offerTest_ends _).guide, State.showTaker_of_visit hc, hp]
  exact State.setGuide_guide ..

end

end Sys2Proof.Machine

namespace Sys2Proof.Machine

open Sys2Proof

/-! ## A TAKE heard (R26, R27, R34, R146) -/

theorem exec_take {s : State} {f : RxFrame} {source : Nat} {g : TakeFields} (hacc : s.accepts f .take source)
    (hg : takeFields f.payload s.clock.dayLength = some g) : exec (.take f) s = .next (s.heard.takeHeard source g) := by
  refine congrArg Host.Outcome.next ((State.receive_of_accepts hacc _).trans ?_)
  simp [State.onTake, hg]

/-- What a TAKE makes of the node as a taker and for its take mark. -/
def State.asTaker (source : Nat) (g : TakeFields) (s : State) : State := (s.takerTake source g).markTake source g

theorem State.takeHeard_eq (source : Nat) (g : TakeFields) (s : State) :
    s.takeHeard source g = State.settle s ((s.holderTake source g).asTaker source g) := rfl

/-- An offer with a further TAKE kept for it. -/
def OpenOffer.withTake (source : Nat) (g : TakeFields) (o : OpenOffer) : OpenOffer :=
  { o with takes := o.takes ++
      [{ source := source, value := g.value, bus := g.bus, resource := g.resource, head := g.head }] }

section
variable {s : State} {source : Nat} {g : TakeFields} {o : OpenOffer} (ho : s.hand.offer = some o)
include ho

theorem State.holderTake_of_fits (hn : g.tag = { holder := s.loader.address, number := o.number }) (hq : o.phase ≠ .queued)
    (hr : o.phase ≠ .reofferQueued) (hf : g.fitsKey o.key = true) : s.holderTake source g =
      s.setOffer (some (o.withTake source g)) := by
  simp only [State.holderTake, ho]
  rw [if_neg (by simp [hn, hq, hf]), if_neg hr]
  rfl

theorem State.holderTake_of_reoffer (hn : g.tag = { holder := s.loader.address, number := o.number })
    (hr : o.phase = .reofferQueued) (hf : g.fitsKey o.key = true) : s.holderTake source g =
      s.commit o { source := source, value := g.value, bus := g.bus, resource := g.resource, head := g.head } := by
  simp only [State.holderTake, ho]
  rw [if_neg (by simp [hn, hr, hf]), if_pos hr]

theorem State.holderTake_of_not (h : g.tag ≠ { holder := s.loader.address, number := o.number } ∨ g.fitsKey o.key = false) :
    s.holderTake source g = s := by
  simp only [State.holderTake, ho]
  rw [if_pos (by tauto)]

end

theorem State.holderTake_of_other {s : State} {g : TakeFields} (h : g.tag.holder ≠ s.loader.address) (source : Nat) :
    s.holderTake source g = s := by
  unfold State.holderTake
  split
  · rfl
  · dsimp only
    rw [if_pos (.inl (fun he => h (by rw [he])))]

/-- What a taker that yields, or a mark that ends, leaves of a node: its offer, its items and its asking. -/
structure State.Yielded (s t : State) : Prop where
  hand : t.hand = { s.hand with bids := t.hand.bids }
  frames : t.line.transmit.Sublist s.line.transmit
  guide : ∀ place, t.guide place = s.guide place
  asks : ∀ run, s.asksFor run = true → t.asksFor run = true
  buses : (∀ l ∈ s.lanes, (l.entries.map (fun e => e.visit.bus)).Nodup) → ∀ l ∈ t.lanes, (l.entries.map (fun e => e.visit.bus)).Nodup

theorem State.Yielded.refl (s : State) : s.Yielded s := ⟨rfl, .refl _, fun _ => rfl, fun _ h => h, fun h => h⟩

theorem State.Yielded.trans {s t u : State} (h : s.Yielded t) (h' : t.Yielded u) : s.Yielded u where
  hand := h'.hand.trans (by rw [h.hand])
  frames := h'.frames.trans h.frames
  guide := fun p => (h'.guide p).trans (h.guide p)
  asks := fun r hr => h'.asks r (h.asks r hr)
  buses := fun hn => h'.buses (h.buses hn)

theorem State.dropClaim_yielded (tag : Tag) (s : State) : s.Yielded (s.dropClaim tag) := by
  have hl := State.dropClaim_loses tag s
  refine ⟨hl.hand, hl.frames, hl.guide, fun run hr => ?_, fun hn l hl' => ?_⟩
  · obtain ⟨e, he, ha⟩ := List.any_eq_true.1 hr
    have hp : e.state = .parked := by
      simp only [LaneEntry.asksFor, Bool.and_eq_true, decide_eq_true_eq] at ha
      exact ha.1.1
    exact List.any_eq_true.2 ⟨e, hl.laneEntries_front he (by simp [LaneEntry.isFront, hp]), ha⟩
  · obtain ⟨l0, hl0, hll⟩ := exists_of_forall₂_right hl.lanes hl'
    exact (hll.sub.map _).nodup (hn l0 hl0)

theorem State.clearMark_yielded (tag : Tag) (s : State) : s.Yielded (s.clearMark tag) := by
  rcases State.clearMark_cases tag s with e | ⟨b, e⟩ <;> rw [e]
  · exact .refl s
  · refine ⟨rfl, .refl _, guide_eq_of_outputs rfl rfl rfl, fun run hr => ?_, fun hn l hl => ?_⟩
    · obtain ⟨x, hx, ha⟩ := List.any_eq_true.1 hr
      refine List.any_eq_true.2 ⟨if x.visit.bus = b then { x with mark := none } else x, ?_, ?_⟩
      · rw [State.modLaneBus_laneEntries]
        exact List.mem_map_of_mem hx
      · split <;> exact ha
    · obtain ⟨l0, hl0, rfl⟩ := List.mem_map.1 hl
      have hbuses : (l0.entries.map (fun e => if e.visit.bus = b then { e with mark := none } else e)).map (fun e => e.visit.bus)
          = l0.entries.map (fun e => e.visit.bus) := by
        rw [List.map_map]
        refine List.map_congr_left (fun x _ => ?_)
        simp only [Function.comp]
        split <;> rfl
      rw [hbuses]
      exact hn l0 hl0

theorem State.asTaker_yielded (source : Nat) (g : TakeFields) (s : State) : s.Yielded (s.asTaker source g) := by
  have htaker : s.Yielded (s.takerTake source g) := by
    unfold State.takerTake
    repeat' split
    · exact State.dropClaim_yielded _ s
    all_goals exact .refl s
  refine htaker.trans ?_
  unfold State.asTaker State.markTake
  repeat' split
  · exact State.clearMark_yielded _ _
  all_goals exact .refl _

theorem State.modLane_lane_self {s : State} {n : Nat} {l : Lane} (f : Lane → Lane) (hl : s.lanes[n]? = some l) :
    (s.modLane n f).lanes[n]? = some (f l) := by
  simp [State.modLane, State.setLanes, hl]

theorem State.modLane_lane_of_ne {s : State} {n k : Nat} (f : Lane → Lane) (h : k ≠ n) :
    (s.modLane n f).lanes[k]? = s.lanes[k]? := List.getElem?_modify_ne f s.lanes (Ne.symm h)

/-! ### A swap offer while its entry asks (R142) -/

/-- Whether a node has an open offer for a run that an entry of it asks for, and no bus twice in a lane. -/
structure State.Asking (o : OpenOffer) (n run : Nat) (s : State) : Prop where
  offer : s.hand.offer = some o
  counter : s.hand.counter = n
  asks : s.asksFor run = true
  buses : ∀ l ∈ s.lanes, (l.entries.map (fun e => e.visit.bus)).Nodup

section
variable {o : OpenOffer} {n run : Nat} (hp : o.phase = .bidding ∨ o.phase = .takeWait) (hk : o.key = .swapRun run)

theorem State.Asking.yielded {s t : State} (h : s.Asking o n run) (hy : s.Yielded t) : t.Asking o n run :=
  ⟨by rw [hy.hand]; exact h.offer, by rw [hy.hand]; exact h.counter, hy.asks run h.asks, hy.buses h.buses⟩

theorem Lane.Ends.buses {l l' : Lane} (h : l.Ends l') :
    l'.entries.map (fun e => e.visit.bus) = l.entries.map (fun e => e.visit.bus) := by
  have hmap : ∀ {a b : List LaneEntry}, List.Forall₂ LaneEntry.Ends a b →
      b.map (fun e => e.visit.bus) = a.map (fun e => e.visit.bus) := by
    intro a b hab
    induction hab with
    | nil => rfl
    | cons hxy _ ih => rw [List.map_cons, List.map_cons, ih, hxy.rest]
  exact hmap h.entries

theorem State.Ends.buses {s t : State} (h : s.Ends t) (hn : ∀ l ∈ s.lanes, (l.entries.map (fun e => e.visit.bus)).Nodup) :
    ∀ l ∈ t.lanes, (l.entries.map (fun e => e.visit.bus)).Nodup := by
  intro l hl
  obtain ⟨l0, hl0, hll⟩ := exists_of_forall₂_right h.lanes hl
  rw [hll.buses]
  exact hn l0 hl0

theorem State.dropRuns_counter (runs : List Nat) : ∀ s : State, (s.dropRuns runs).hand.counter = s.hand.counter := by
  induction runs with
  | nil => exact fun _ => rfl
  | cons r runs ih =>
    intro s
    rw [State.dropRuns_cons, ih]
    show (s.cancelOffer (.swapRun r)).hand.counter = s.hand.counter
    unfold State.cancelOffer
    repeat' split
    all_goals rfl

/-- An open offer in BIDDING or TAKE WAIT keeps the counter where swap requests are withdrawn. -/
theorem State.withdrawSwaps_counter {s : State} (ho : s.hand.offer = some o) (hp : o.phase = .bidding ∨ o.phase = .takeWait)
    (hr : ∀ r, o.key = .swapRun r → s.asksFor r = true) : s.withdrawSwaps.hand.counter = s.hand.counter := by
  rcases State.withdrawSwaps_cases s with ⟨-, e⟩ | ⟨-, e⟩ <;> rw [e]
  have hstays : (s.dropRuns s.deadSwaps).hand.offer = some o := State.dropRuns_offer ho (fun r hdead hkey => by
    have hnot := (List.mem_filter.1 hdead).2
    simp [hr r hkey] at hnot)
  rw [State.offerTest_idle ?_ (.inr (.inl (by rw [hstays]; rfl))), State.dropRuns_counter]
  rw [State.owesReoffer, hstays]
  rcases hp with h | h <;> simp [h]

include hp hk

theorem State.Asking.withdrawSwaps {s : State} (h : s.Asking o n run) : s.withdrawSwaps.Asking o n run := by
  have hr : ∀ r, o.key = .swapRun r → s.asksFor r = true := fun r hr => by
    rw [hk] at hr; cases hr; exact h.asks
  have hlanes := State.lanes_of_offers (State.withdrawSwaps_sansOffers s)
  refine ⟨State.withdrawSwaps_offer h.offer hp hr, (State.withdrawSwaps_counter h.offer hp hr).trans h.counter, ?_, ?_⟩
  · rw [State.asksFor, State.laneEntries, hlanes]; exact h.asks
  · rw [hlanes]; exact h.buses

omit hp hk in
theorem State.Asking.dropLostHeads {s : State} (h : s.Asking o n run) : s.dropLostHeads.Asking o n run := by
  refine ⟨by rw [State.dropLostHeads_hand]; exact h.offer, by rw [State.dropLostHeads_hand]; exact h.counter, ?_,
    (State.dropLostHeads_ends s).buses h.buses⟩
  obtain ⟨e, he, ha⟩ := List.any_eq_true.1 h.asks
  obtain ⟨y, hy, heq⟩ := State.dropLostHeads_laneEntries_mem he
  refine List.any_eq_true.2 ⟨y, hy, ?_⟩
  rw [heq]
  exact ha

/-- The head that asks for the run of the open offer is not called, so the offer's entry asks on. -/
theorem State.Asking.headTest {s : State} (h : s.Asking o n run) (k : Nat) : (s.headTest k).Asking o n run := by
  rcases State.headTest_cases k s with e | ⟨-, hw, e, he, hdue, eq⟩
  · rw [e]; exact h
  rw [eq]
  have hwaiting : s.swapRunWaiting = some run := (State.swapRunWaiting_iff s run).2 ⟨o, h.offer, hk, hp⟩
  have hparked : e.state = .parked := by
    simp only [LaneEntry.isDue, Bool.and_eq_true, decide_eq_true_eq] at hdue
    exact hdue.1
  have hnot : e.asksFor run = false := by
    rw [Bool.eq_false_iff]
    intro ha
    simp only [LaneEntry.asksFor, Bool.and_eq_true, decide_eq_true_eq] at ha
    refine Bool.eq_false_iff.1 hw ((State.headWaits_iff s k).2 ⟨e, he, hparked, .inr ?_⟩)
    simp [State.awaitsOwnOffer, ha.1.2, ha.2, hwaiting]
  obtain ⟨l, hl, hle⟩ := Option.bind_eq_some_iff.1 he
  refine State.Asking.withdrawSwaps hp hk ⟨by rw [State.send_hand]; exact h.offer, by rw [State.send_hand]; exact h.counter, ?_, ?_⟩
  · obtain ⟨x, hx, ha⟩ := List.any_eq_true.1 h.asks
    obtain ⟨l', hl', hxl⟩ := List.mem_flatMap.1 hx
    obtain ⟨j, hj⟩ := List.mem_iff_getElem?.1 hl'
    rw [State.asksFor, State.laneEntries, State.lanes_of_offers (State.send_sansOffers _ _)]
    refine List.any_eq_true.2 ⟨x, ?_, ha⟩
    by_cases hjk : j = k
    · subst hjk
      obtain rfl : l' = l := Option.some.inj (hj.symm.trans hl)
      refine List.mem_flatMap.2 ⟨_, List.mem_of_getElem? (State.modLane_lane_self _ hl), List.mem_map.2 ⟨x, hxl, if_neg fun hb => ?_⟩⟩
      obtain rfl : x = e := List.inj_on_of_nodup_map (h.buses l' hl') hxl (List.mem_of_mem_head? hle) hb
      rw [hnot] at ha
      cases ha
    · exact List.mem_flatMap.2 ⟨l', List.mem_of_getElem? ((State.modLane_lane_of_ne _ hjk).trans hj), hxl⟩
  · rw [State.lanes_of_offers (State.send_sansOffers _ _)]
    refine State.Ends.buses (State.Ends.modLane (Lane.Ends.of_map (fun x => ?_))) h.buses
    split
    · exact ⟨rfl, .inr rfl, .inl rfl⟩
    · exact .refl x

theorem State.Asking.settle {s : State} (h : s.Asking o n run) (before : State) : (State.settle before s).Asking o n run :=
  State.settle_induction (P := State.Asking o n run) (h.dropLostHeads.withdrawSwaps hp hk) (fun _ k ht => ht.headTest hp hk k)

end

end Sys2Proof.Machine

namespace Sys2Proof.Machine

open Sys2Proof

/-- A TAKE that is for no item the node holds closes none. -/
theorem State.Closed.of_yielded {q : Prop} {k : ItemKey} {s t : State} (h : s.Closed q k) (hy : s.Yielded t) : t.Closed q k :=
  h.of_hand (by rw [hy.hand]) (by rw [hy.hand]) (fun _ _ hm => .inl (hy.frames.subset hm))

theorem State.owesReoffer_of_phase {s : State} {o : OpenOffer} (ho : s.hand.offer = some o)
    (hp : o.phase = .bidding ∨ o.phase = .takeWait) : s.owesReoffer = false := by
  rw [State.owesReoffer, ho]
  rcases hp with h | h <;> simp [h]

/-- The offer of a bus stays open in the event of a TAKE, as the holder has left it. -/
theorem State.takeHeard_of_bus {s : State} {source b : Nat} {g : TakeFields} {o : OpenOffer}
    (ho : (s.holderTake source g).hand.offer = some o) (hk : o.key = .bus b) (hp : o.phase = .bidding ∨ o.phase = .takeWait)
    (hc : (s.holderTake source g).hand.counter = s.hand.counter) :
    (s.takeHeard source g).hand.offer = some o ∧ (s.takeHeard source g).hand.counter = s.hand.counter := by
  have hy := State.asTaker_yielded source g (s.holderTake source g)
  rw [State.takeHeard_eq]
  generalize s.holderTake source g = t at *
  have hoff : (t.asTaker source g).hand.offer = some o := by rw [hy.hand]; exact ho
  have hcount : (t.asTaker source g).hand.counter = t.hand.counter := by rw [hy.hand]
  obtain ⟨hoffer, hcounter⟩ := (State.settle_tests s (State.owesReoffer_of_phase hoff hp)).offer o b hoff hk
  exact ⟨hoffer, hcounter.trans (hcount.trans hc)⟩

/-- A swap offer, too, as long as its entry asks. -/
theorem State.takeHeard_of_swap {s : State} {source run n : Nat} {g : TakeFields} {o : OpenOffer}
    (h : (s.holderTake source g).Asking o n run) (hk : o.key = .swapRun run) (hp : o.phase = .bidding ∨ o.phase = .takeWait) :
    (s.takeHeard source g).Asking o n run := by
  rw [State.takeHeard_eq]
  exact (h.yielded (State.asTaker_yielded source g _)).settle hp hk s

/-- A better TAKE takes the claim away. -/
theorem State.takeHeard_of_better {s : State} {source v : Nat} {g : TakeFields} (hh : g.tag.holder ≠ s.loader.address)
    (hv : s.takenValue g.tag = some v) (hb : betterBid (g.value, source) (v, s.loader.address) = true) :
    (s.takeHeard source g).NoClaim g.tag := by
  have htaker : s.takerTake source g = s.dropClaim g.tag := by
    simp only [State.takerTake, hv]
    exact if_pos hb
  have hmark : (s.dropClaim g.tag).Yields ((s.dropClaim g.tag).markTake source g) := by
    unfold State.markTake
    repeat' split
    · exact State.clearMark_yields _ _
    all_goals exact .refl _
  rw [State.takeHeard_eq, State.holderTake_of_other hh, State.asTaker, htaker]
  exact ((State.dropClaim_noClaim g.tag s).of_yields hmark).of_yields (State.settle_yields _ _)

/-- The mark on a head that ends leaves every entry's record and tag. -/
theorem State.markTake_ends (source : Nat) (g : TakeFields) (s : State) : s.Ends (s.markTake source g) := by
  have hclear : ∀ tag, s.Ends (s.clearMark tag) := by
    intro tag
    rcases State.clearMark_cases tag s with e | ⟨b, e⟩ <;> rw [e]
    · exact .refl s
    · refine State.Ends.mapLanes (Lane.Ends.of_map (fun x => ?_))
      split
      · exact ⟨rfl, .inl rfl, .inr rfl⟩
      · exact .refl x
  unfold State.markTake
  repeat' split
  · exact hclear _
  all_goals exact .refl s

theorem Lane.Ends.tags {l l' : Lane} (h : l.Ends l') :
    l'.entries.map (fun e => (e.visit, e.tag)) = l.entries.map (fun e => (e.visit, e.tag)) := by
  have hmap : ∀ {a b : List LaneEntry}, List.Forall₂ LaneEntry.Ends a b →
      b.map (fun e => (e.visit, e.tag)) = a.map (fun e => (e.visit, e.tag)) := by
    intro a b hab
    induction hab with
    | nil => rfl
    | cons hxy _ ih => rw [List.map_cons, List.map_cons, ih, hxy.rest]
  exact hmap h.entries

theorem State.Ends.tags {s t : State} (h : s.Ends t) : t.lanes.map (fun l => l.entries.map (fun e => (e.visit, e.tag)))
    = s.lanes.map (fun l => l.entries.map (fun e => (e.visit, e.tag))) := by
  have hlanes := h.lanes
  generalize s.lanes = a, t.lanes = b at hlanes
  induction hlanes with
  | nil => rfl
  | cons hxy _ ih => rw [List.map_cons, List.map_cons, ih, hxy.tags]

/-- One that is not better takes nothing. -/
theorem State.takeHeard_of_worse {s : State} {source v : Nat} {g : TakeFields} (hh : g.tag.holder ≠ s.loader.address)
    (hv : s.takenValue g.tag = some v) (hb : betterBid (g.value, source) (v, s.loader.address) = false) :
    s.Ends (s.takeHeard source g) := by
  have htaker : s.takerTake source g = s := by
    simp only [State.takerTake, hv]
    exact if_neg (by simp [hb])
  rw [State.takeHeard_eq, State.holderTake_of_other hh, State.asTaker, htaker]
  exact (State.markTake_ends source g s).trans (State.settle_ends _ _)

/-- With no offer of its own for the tag, the node places no report. -/
theorem State.takeHeard_reports {s : State} {source : Nat} {g : TakeFields} (hh : g.tag.holder ≠ s.loader.address) :
    (s.takeHeard source g).loader.reports = s.loader.reports := by
  have htaker : (s.takerTake source g).loader.reports = s.loader.reports := by
    unfold State.takerTake
    repeat' split
    all_goals rfl
  rw [State.takeHeard_eq, State.holderTake_of_other hh, (State.settle_ends _ _).reports, State.asTaker,
    (State.markTake_ends source g _).reports, htaker]

/-- The commit to a TAKE for the old number while a re-offer waits. -/
theorem State.takeHeard_of_commit {s : State} {source : Nat} {g : TakeFields} {o : OpenOffer} {i : OutItem} {x : HeardTake}
    (ht : s.holderTake source g = s.commit o x) (hi : s.item? o.key = some i) :
    (s.takeHeard source g).Closed True o.key ∧ ∀ place r, i.place = some place → i.cargo = .visit r →
      (s.takeHeard source g).guide place = { code := .destination x.source x.resource, bus := some r.bus } := by
  have hy := State.asTaker_yielded source g (s.commit o x)
  rw [State.takeHeard_eq, ht]
  refine ⟨((State.commit_closed hi x).of_yielded hy).settle s, fun place r hp hc => ?_⟩
  rw [(State.settle_ends _ _).guide, hy.guide]
  exact State.commit_guide hi hp hc x

end Sys2Proof.Machine

namespace Sys2Proof

open Sys2Proof.Machine

/-- Settles O44: the holder's part of a TAKE changes its open offer alone, the taker's part the claim and the marks alone, and
neither the loss of a claim nor the call of a head ends the open offer. -/
theorem takesAreKeptOrYieldedTo : Obligations.TakesAreKeptOrYieldedTo := by
  refine ⟨fun s f source bus g o hacc hg ho hk hp => ?_, fun s f source run g o hacc hg ho hk ha hp hn => ?_,
    fun s f source v g hacc hg hh hv => ?_, fun s f source g o i hacc hg ho hp hi htag hbus hswap => ?_⟩
  · have ho' : s.heard.hand.offer = some o := ho
    refine ⟨_, exec_take hacc hg, by simp [State.takeHeard], by simp [State.takeHeard], ?_⟩
    by_cases hfit : g.tag = { holder := s.loader.address, number := o.number } ∧ g.fitsKey o.key = true
    · have htake := State.holderTake_of_fits (source := source) ho' hfit.1 (by rcases hp with h | h <;> simp [h])
        (by rcases hp with h | h <;> simp [h]) hfit.2
      obtain ⟨hoff, hcount⟩ := State.takeHeard_of_bus (s := s.heard) (source := source) (g := g) (o := o.withTake source g)
        (by rw [htake]; rfl) hk hp
        (by rw [htake]; rfl)
      rw [hk] at hfit
      simp only [TakeFields.fitsKey, Bool.and_eq_true, decide_eq_true_eq] at hfit
      refine ⟨hcount, fun _ hb hhead => ?_, fun hne => ?_⟩
      · rw [hoff, OpenOffer.withTake, hb, hhead]
      · exact absurd hne (by simp [hfit])
    · have htake := State.holderTake_of_not (source := source) ho' (g := g) (by
        by_cases h : g.tag = { holder := s.loader.address, number := o.number }
        · exact .inr (by simpa using fun hf => hfit ⟨h, hf⟩)
        · exact .inl h)
      obtain ⟨hoff, hcount⟩ := State.takeHeard_of_bus (s := s.heard) (source := source) (g := g) (by rw [htake]; exact ho') hk hp
        (by rw [htake])
      refine ⟨hcount, fun htag hb hhead => ?_, fun _ => hoff⟩
      exact absurd ⟨htag, by simp [hk, TakeFields.fitsKey, hb, hhead]⟩ hfit
  · have ho' : s.heard.hand.offer = some o := ho
    refine ⟨_, exec_take hacc hg, by simp [State.takeHeard], by simp [State.takeHeard], ?_⟩
    by_cases hfit : g.tag = { holder := s.loader.address, number := o.number } ∧ g.fitsKey o.key = true
    · have htake := State.holderTake_of_fits (source := source) ho' hfit.1 (by rcases hp with h | h <;> simp [h])
        (by rcases hp with h | h <;> simp [h]) hfit.2
      have hasking := State.takeHeard_of_swap (s := s.heard) (source := source) (g := g) (n := s.hand.counter)
        (o := o.withTake source g) (by rw [htake]; exact ⟨rfl, rfl, ha, hn⟩) hk hp
      rw [hk] at hfit
      simp only [TakeFields.fitsKey] at hfit
      refine ⟨hasking.counter, fun h _ hhead => ?_, fun hne => ?_⟩
      · rw [hasking.offer, OpenOffer.withTake, hhead]
      · rcases hne with hne | hne
        · exact absurd hfit.1 hne
        · simp [hne] at hfit
    · have htake := State.holderTake_of_not (source := source) ho' (g := g) (by
        by_cases h : g.tag = { holder := s.loader.address, number := o.number }
        · exact .inr (by simpa using fun hf => hfit ⟨h, hf⟩)
        · exact .inl h)
      have hasking := State.takeHeard_of_swap (s := s.heard) (source := source) (g := g) (n := s.hand.counter)
        (by rw [htake]; exact ⟨ho', rfl, ha, hn⟩) hk hp
      refine ⟨hasking.counter, fun h htag hhead => ?_, fun _ => hasking.offer⟩
      exact absurd ⟨htag, by simp [hk, TakeFields.fitsKey, hhead]⟩ hfit
  · have hh' : g.tag.holder ≠ s.heard.loader.address := hh
    have hv' : s.heard.takenValue g.tag = some v := hv
    refine ⟨_, exec_take hacc hg, by simp [State.takeHeard], by simp [State.takeHeard], State.takeHeard_reports hh',
      fun hbetter => ?_, fun hworse => ?_⟩
    · have hno := State.takeHeard_of_better (source := source) hh' hv' ((betterBid_iff _ _).2 hbetter)
      exact ⟨hno.bids, fun e he hs => hno.lanes e he (.inr hs), fun p e he hs => hno.queue p e he (.inr hs), hno.frames⟩
    · have hends := State.takeHeard_of_worse (source := source) hh' hv' (by
        rw [Bool.eq_false_iff, ne_eq, betterBid_iff, State.heard_loader]
        rintro (h | h) <;> omega)
      refine ⟨fun p => ?_, hends.tags⟩
      rw [hends.point, State.heard_point]
  · have ho' : s.heard.hand.offer = some o := ho
    have hfit : g.fitsKey o.key = true := by
      cases hkey : o.key with
      | bus b => simp [TakeFields.fitsKey, hbus b hkey]
      | swapRun run => exact hswap run hkey
    have htake := State.holderTake_of_reoffer (source := source) ho' htag hp hfit
    obtain ⟨hclosed, hguide⟩ := State.takeHeard_of_commit (s := s.heard) htake hi
    refine ⟨_, exec_take hacc hg, by simp [State.takeHeard], by simp [State.takeHeard], hclosed.items, hclosed.offer,
      fun y hy n sup hb => hclosed.frames trivial y hy n sup i.cargo hb ?_, hguide⟩
    rw [← OutItem.key_eq]
    exact (State.item?_spec hi).2

end Sys2Proof

namespace Sys2Proof.Machine

open Sys2Proof

/-! ## An own offer that waits stays open (R25, R26) -/

section
variable {o : OpenOffer} (hp : o.phase = .bidding ∨ o.phase = .takeWait)
include hp

theorem State.offerTest_of_waiting {s : State} (ho : s.hand.offer = some o) : s.offerTest = s :=
  State.offerTest_idle (State.owesReoffer_of_phase ho hp) (.inr (.inl (by rw [ho]; rfl)))

theorem State.join_waiting (c : Cargo) (g : Option GuidePlace) {s : State} (ho : s.hand.offer = some o) :
    (s.join c g).hand.offer = some o := by
  rcases State.join_cases c g s with ⟨-, e⟩ | ⟨-, e⟩ <;> rw [e]
  · exact ho
  · rw [State.offerTest_of_waiting hp (by exact ho)]
    exact ho

theorem State.askJoin_waiting (p : PointId) (b : Nat) {s : State} (ho : s.hand.offer = some o) :
    (s.askJoin p b).hand.offer = some o := by
  rcases State.askJoin_cases p b s with ⟨e, -, -, -, -, h⟩ | ⟨-, h⟩ <;> rw [h]
  · exact State.join_waiting hp _ _ (by rw [State.modPoint_hand]; exact ho)
  · exact ho

theorem State.takeFromQueue_waiting (p : PointId) (b : Nat) {s : State} (ho : s.hand.offer = some o) :
    (s.takeFromQueue p b).hand.offer = some o :=
  State.takeFromQueue_keeps (P := fun t => t.hand.offer = some o) (fun t f h => by rw [State.modPoint_hand]; exact h)
    (fun t c h => State.askJoin_waiting hp p c h) b ho

theorem State.testIfClosed_waiting (before : State) {s : State} (ho : s.hand.offer = some o) :
    (State.testIfClosed before s).hand.offer = some o := by
  unfold State.testIfClosed
  split
  · rw [State.offerTest_of_waiting hp ho]; exact ho
  · exact ho

omit hp in
theorem State.cancelOffer_of_ne {k : ItemKey} {s : State} (ho : s.hand.offer = some o) (hk : o.key ≠ k) : s.cancelOffer k = s := by
  simp [State.cancelOffer, ho, hk]

theorem State.giveUpRecord_waiting {b : Nat} {here : Resource} {s : State} (ho : s.hand.offer = some o) (hk : o.key ≠ .bus b) :
    (s.giveUpRecord b here).hand.offer = some o := by
  have hqueue : ∀ p (u : State), u.hand.offer = some o → (u.queueGivenUp p b here).hand.offer = some o := by
    intro p u hu
    unfold State.queueGivenUp
    split
    · exact hu
    · exact State.takeFromQueue_waiting hp p b hu
  have hoffer : (s.offerGivenUp b).hand.offer = some o := by
    rw [State.offerGivenUp, State.cancelOffer_of_ne ho hk]
    exact ho
  rw [State.giveUpRecord_eq]
  exact State.testIfClosed_waiting hp s (hqueue .p1 _ (hqueue .p0 _ hoffer))

end

/-! ## An event that leaves the lanes (R134, R145) -/

/-- Where only heads carry marks and every SWAP bid names the PARKED head of its lane, no lane changes at the end of an event
that has changed none, nor a bid, nor a swap offer that waits. -/
theorem State.settle_lanes {before s : State} (hl : s.lanes = before.lanes) (hb : s.hand.bids = before.hand.bids)
    (hmarks : ∀ l ∈ before.lanes, ∀ x ∈ l.entries.drop 1, x.mark = none)
    (hheads : ∀ b ∈ before.hand.bids, ∀ h, b.head = some h → before.isParkedHead b.resource h.bus = true)
    (ho : ∀ o r, before.hand.offer = some o → o.key = .swapRun r → (o.phase = .bidding ∨ o.phase = .takeWait) →
      s.hand.offer = some o) : (State.settle before s).lanes = before.lanes := by
  have hkept : before.HeadsKept s := .of_lanes hl
  have hlost : s.lostBids = [] := State.lostBids_eq_nil (fun b hb' x hx =>
    hkept.isParkedHead (hheads b (hb ▸ hb') x hx))
  have hnone : s.removeBids s.lostBids = s := by rw [hlost]; rfl
  have hdrop : s.dropLostHeads.lanes = s.lanes := by
    rcases State.dropLostHeads_cases s with ⟨-, e⟩ | e <;> rw [e, hnone]
    refine (List.map_congr_left (fun l hmem => ?_)).trans (List.map_id _)
    have hsame : (l.entries.drop 1).map (fun e => { e with mark := none }) = l.entries.drop 1 :=
      (List.map_congr_left (fun x hx => by
        show { x with mark := none } = x
        rw [← hmarks l (hl ▸ hmem) x hx])).trans (List.map_id _)
    show ({ l with entries := l.entries.take 1 ++ (l.entries.drop 1).map (fun e => { e with mark := none }) } : Lane) = l
    rw [hsame, List.take_append_drop]
  rw [State.settle_of_kept (fun n => State.lostEntry_eq_false (fun l l' h h' e he => ?_)) hkept
    (fun b hb' h hh => ⟨b, hb ▸ hb', hh⟩) hlost ho, State.lanes_of_offers (State.withdrawSwaps_sansOffers _), hdrop, hl]
  rw [hl, h] at h'
  cases h'
  exact ⟨e, he, rfl⟩

/-! ## Entries that are none of the bus's (R38, R39) -/

theorem mapLanesFrom_congr {f : Nat → Lane → Lane} {l : List Lane} : ∀ {k : Nat}, (∀ n x, l[n]? = some x → f (k + n) x = x) →
    mapLanesFrom f k l = l := by
  induction l with
  | nil => exact fun _ => rfl
  | cons x xs ih =>
    intro k h
    have hx : f k x = x := h 0 x rfl
    have hxs : mapLanesFrom f (k + 1) xs = xs := ih (fun n y hy => by
      have hn := h (n + 1) y (by simpa using hy)
      rwa [show k + (n + 1) = k + 1 + n by omega] at hn)
    rw [mapLanesFrom, hx, hxs]

theorem Lane.without_of_none {i : Image} {n : Nat} {p : LaneEntry → Bool} {l : Lane} (h : ∀ e ∈ l.entries, p e = false) :
    l.without i n p = l := by
  rw [Lane.without, if_neg]
  simpa using h

theorem State.removeLaneEntries_of_none {p : Nat → LaneEntry → Bool} {s : State}
    (h : ∀ n l, s.lanes[n]? = some l → ∀ e ∈ l.entries, p n e = false) : s.removeLaneEntries p = s.setLanes s.lanes := by
  rw [State.removeLaneEntries, mapLanesFrom_congr]
  intro n l hl
  simpa using Lane.without_of_none (h n l hl)

theorem State.dropBidsOf_of_none {s : State} {b : Nat} (h : s.bidTagsOf b = []) : s.dropBidsOf b = s := by
  rw [State.dropBidsOf, h]; rfl

theorem State.dropExpectedOf_of_none {s : State} {b : Nat} {here : Option Resource}
    (hl : ∀ e ∈ s.laneEntries, e.visit.bus = b → e.state ≠ .expected)
    (hq : ∀ p, ∀ e ∈ (s.point p).queue, e.visit.bus = b → e.state ≠ .expected) :
    s.dropExpectedOf b here = s.setLanes s.lanes := by
  have hkeep : ∀ p, (s.point p).queue.filter (fun e => !(decide (e.visit.bus = b) && decide (e.state = .expected)))
      = (s.point p).queue := fun p => List.filter_eq_self.2 (fun e he => by
    simpa [imp_iff_not_or] using hq p e he)
  have h0 : s.point0.queue.filter (fun e => !(decide (e.visit.bus = b) && decide (e.state = .expected))) = s.point0.queue := hkeep .p0
  have h1 : s.point1.queue.filter (fun e => !(decide (e.visit.bus = b) && decide (e.state = .expected))) = s.point1.queue := hkeep .p1
  unfold State.dropExpectedOf
  simp only [h0, h1, ite_self]
  refine State.removeLaneEntries_of_none (fun n l hn e he => ?_)
  have hnot := hl e (List.mem_flatMap.2 ⟨l, List.mem_of_getElem? hn, he⟩)
  simp only [Bool.and_eq_false_iff, decide_eq_false_iff_not]
  tauto

/-- A queue that holds no record of the bus is left as it is. -/
theorem State.takeFromQueue_of_none {s : State} {p : PointId} {b : Nat}
    (h : ∀ x ∈ (s.point p).queue, x.visit.bus = b → x.isFront = false) : s.takeFromQueue p b = s := by
  rcases State.takeFromQueue_cases p b s with ⟨-, e⟩ | ⟨x, hx, hb, hf, -, -⟩
  · exact e
  · simp [h x hx hb] at hf

theorem State.queueGivenUp_of_none {s : State} {p : PointId} {b : Nat} {here : Resource}
    (h : ∀ x ∈ (s.point p).queue, x.visit.bus = b → x.isFront = false) : s.queueGivenUp p b here = s := by
  rw [State.queueGivenUp, State.takeFromQueue_of_none h, ite_self]

/-- The record given up from the one queue that holds it. -/
theorem State.queuesGivenUp_of_queue {s : State} {p : PointId} {b : Nat} {here : Resource} (hh : here ≠ .point p)
    (h : ∀ x ∈ (s.point p.other).queue, x.visit.bus = b → x.isFront = false) :
    s.queuesGivenUp b here = (s.offerGivenUp b).takeFromQueue p b := by
  unfold State.queuesGivenUp
  cases p with
  | p0 =>
    rw [State.queueGivenUp_of_none (p := .p1), State.queueGivenUp, if_neg hh]
    rw [State.queueGivenUp_point_of_ne .p0 b here _ (by simp), State.offerGivenUp_point]
    exact h
  | p1 =>
    rw [State.queueGivenUp_of_none (p := .p0), State.queueGivenUp, if_neg hh]
    rw [State.offerGivenUp_point]
    exact h

end Sys2Proof.Machine

namespace Sys2Proof.Machine

open Sys2Proof

/-! ## A debounced change at a point (R99, R103, R123, R160, R162) -/

/-- A debounce timer that completes raises the change of the level. -/
theorem State.debounced_of_change {s : State} {pin : Pin} (ha : s.active = true) (hpresent : s.isPresent pin = true)
    {live : Bool} (hl : (s.detector pin).live = live) (hd : (s.detector pin).debounced = !live)
    (ht : (s.detector pin).timer = true) :
    s.debounced pin = State.raiseChange pin live (s.setDetector pin { live := live, debounced := live, timer := false }) := by
  unfold State.debounced
  simp [ha, hpresent, hl, hd, ht]

@[simp] theorem State.setDetector_point (pin : Pin) (d : Detector) (s : State) (p : PointId) :
    (s.setDetector pin d).point p = s.point p := by cases p <;> rfl

/-- The levels of the other pins stay. -/
theorem State.setDetector_level_of_ne {s : State} {pin pin' : Pin} (d : Detector) (h : pinIndex pin' ≠ pinIndex pin) :
    (s.setDetector pin d).level pin' = s.level pin' := by
  have hne : (pinIndex pin).val ≠ (pinIndex pin').val := fun he => h (Fin.ext he).symm
  simp [State.level, State.detector, State.setDetector, hne]

theorem State.modPoint_eq_setPoint (p : PointId) (f : Point → Point) (s : State) : s.modPoint p f = s.setPoint p (f (s.point p)) := rfl

/-- A point that leaves CLEARING at once (R103, R123). -/
theorem State.clearingTest_of_over {s : State} {p : PointId} (h : s.clearingOver p = true) :
    s.clearingTest p = (s.leaveClearing p).startTest p := if_pos h

theorem State.clearingTest_of_stays {s : State} {p : PointId} (h : s.clearingOver p = false) : s.clearingTest p = s := by
  simp [State.clearingTest, h]

theorem State.clearingOver_iff (s : State) (p : PointId) : s.clearingOver p = true ↔
    (s.point p).state = .clearing ∧ (s.point p).left = true ∧ (s.point p).startOutput = .off ∧
      ∀ x ∈ (s.point p).queue, x.justServed = false := by
  simp [State.clearingOver, and_assoc]

/-- The start test finds nothing at a point that is not IDLE or has no WAITING entry (R97, R120). -/
theorem State.startTest_of_none {s : State} {p : PointId}
    (h : (s.point p).state ≠ .idle ∨ ∀ x ∈ (s.point p).queue, x.state ≠ .waiting) : s.startTest p = s := by
  unfold State.startTest State.startTests
  split
  · rfl
  · next hidle =>
    have hnone : (s.point p).firstWaiting = none := by
      rcases h with h | h
      · exact absurd h hidle
      · exact List.find?_eq_none.2 (fun x hx => by simpa using h x hx)
    rw [hnone]

/-- The service whose nozzle was lifted ends where it is hung (R99). -/
theorem State.nozzleHung_of_lifted {s : State} {p : PointId} {sv : Service} (hs : (s.point p).state = .busy)
    (hv : (s.point p).service = some sv) (hl : sv.lifted = true) : s.nozzleHung p =
      (s.modPoint p (fun v => { v with qualifies := false })).endFuelTested p (fuelOutcomeOf (s.point p).delivered sv.needed)
        false := by
  simp [State.nozzleHung, hs, hv, hl]

theorem State.nozzleHung_of_not {s : State} {p : PointId} (h : (s.point p).state ≠ .busy ∨ (s.point p).service = none ∨
    ∃ sv, (s.point p).service = some sv ∧ sv.lifted = false) :
    s.nozzleHung p = s.modPoint p (fun v => { v with qualifies := false }) := by
  unfold State.nozzleHung
  dsimp only
  split
  · next hs hv =>
    rcases h with h | h | ⟨sv', h, hl⟩
    · exact absurd hs h
    · rw [hv] at h; cases h
    · rw [hv] at h
      obtain rfl := Option.some.inj h
      simp [hl]
  · rfl

/-- The nozzle hung after it was lifted: the point is CLEARING and the record has joined for its next stage (R99, R102). -/
theorem State.nozzleHung_stands {s : State} {p : PointId} {sv : Service} {e : QueueEntry} (hs : (s.point p).state = .busy)
    (hv : (s.point p).service = some sv) (hl : sv.lifted = true) (he : (s.point p).serving? = some e)
    (hq : ((s.point p).queue.map (fun x => x.visit.bus)).Nodup) (hocc : s.level (.occupied p) = true)
    (hroom : s.hand.outbound.length < Config.outboundCapacity) :
    (s.nozzleHung p).point p.other = s.point p.other ∧ (s.nozzleHung p).lanes = s.lanes ∧
      (s.nozzleHung p).point p = { s.point p with
        state := .clearing, service := none, enable := false, qualifies := false, served := some e.visit.bus
        left := false, queue := (s.point p).queue.filter (fun x => decide (x.visit.bus ≠ e.visit.bus)) } ∧
      ∃ i ∈ (s.nozzleHung p).hand.outbound, i.ready = s.clock.m ∧ i.place = some (.point p) ∧
        i.cargo = .visit { e.visit with
          fuelOutcome := some (if 9 * sv.needed / 10 ≤ (s.point p).delivered then .done else .part)
          litres := (s.point p).delivered, next := if e.visit.washRequest = .none then .berth else .wash } := by
  rw [State.nozzleHung_of_lifted hs hv hl]
  generalize hu : s.modPoint p (fun v => { v with qualifies := false }) = u
  have hpoint : u.point p = { s.point p with qualifies := false } := by rw [← hu, State.modPoint_point]
  have hhand : u.hand = s.hand := by rw [← hu]; exact State.modPoint_hand ..
  have hlevel : u.level (.occupied p) = true := by rw [← hu]; cases p <;> exact hocc
  have hclock : u.clock = s.clock := by rw [← hu]; cases p <;> rfl
  have hframe := State.endFuelTested_sansPoint p (fuelOutcomeOf (s.point p).delivered sv.needed) false u
  obtain ⟨hended, hitem⟩ := State.endFuelTested_stands (s := u) (p := p) (e := e)
    (o := fuelOutcomeOf (s.point p).delivered sv.needed) (by rw [hpoint]; exact he) (by rw [hpoint]; exact hq) hlevel
    (by rw [hhand]; exact hroom)
  refine ⟨?_, ?_, ?_, ?_⟩
  · rw [State.other_of_point hframe, ← hu]; cases p <;> rfl
  · rw [State.lanes_of_point hframe, ← hu]; cases p <;> rfl
  · rw [hended, hpoint]
  · rw [hpoint, hclock] at hitem
    exact hitem

section
variable {s : State} {p : PointId}

/-- The served bus leaves a point where nothing else keeps CLEARING (R103, R123). -/
theorem State.pointCleared_over (hs : (s.point p).state = .clearing) (ho : (s.point p).startOutput = .off)
    (hj : ∀ x ∈ (s.point p).queue, x.justServed = false) : s.pointCleared p = (s.setPoint p { s.point p with
      state := if (s.point p).faultPending then .fault else .idle, faultPending := false, served := none
      left := false }).startTest p := by
  have hover : (s.modPoint p (fun v => { v with left := true })).clearingOver p = true := by
    rw [State.clearingOver_iff, State.modPoint_point]
    exact ⟨hs, rfl, ho, hj⟩
  rw [State.pointCleared, if_pos hs, State.countLeft, State.clearingTest_of_over hover]
  simp only [State.leaveClearing, State.modPoint_eq_setPoint, State.setPoint_point, State.setPoint_setPoint]

theorem State.pointCleared_stays (hs : (s.point p).state = .clearing)
    (h : (s.point p).startOutput ≠ .off ∨ ∃ x ∈ (s.point p).queue, x.justServed = true) :
    s.pointCleared p = s.setPoint p { s.point p with left := true } := by
  rw [State.pointCleared, if_pos hs, State.countLeft, State.clearingTest_of_stays, State.modPoint_eq_setPoint]
  rw [Bool.eq_false_iff, ne_eq, State.clearingOver_iff, State.modPoint_point]
  rintro ⟨-, -, hout, hj⟩
  rcases h with h | ⟨x, hx, h⟩
  · exact h hout
  · simp [hj x hx] at h

theorem State.pointCleared_washing (hs : (s.point p).state = .busy) (hk : (s.pointImage p).kind = .wash) :
    s.pointCleared p = s.setPoint p { s.point p with left := true } := by
  simp [State.pointCleared, hs, hk, State.modPoint_eq_setPoint]

theorem State.pointCleared_of_none (h : (s.point p).state = .idle ∨ (s.point p).state = .fault ∨
    ((s.point p).state = .busy ∧ (s.pointImage p).kind = .fuel)) : s.pointCleared p = s := by
  rcases h with h | h | ⟨h, hk⟩
  · simp [State.pointCleared, h]
  · simp [State.pointCleared, h]
  · simp [State.pointCleared, h, hk]

end

end Sys2Proof.Machine

namespace Sys2Proof.Machine

open Sys2Proof

/-! ## A STRAY for the bus in service (R40, R127) -/

/-- A point whose bus in service is taken away. -/
def Point.taken (left : Bool) (b : Nat) (v : Point) : Point :=
  { v with
    state := .clearing, service := none, enable := false, qualifies := false, served := some b, left := left
    queue := v.queue.filter (fun x => decide (x.visit.bus ≠ b)), cycle := v.cycle.map (fun c => { c with advance := false }) }

/-- Whether the bus in service is taken to have left where it is taken away. -/
def State.takenLeft (s : State) (p : PointId) : Bool :=
  (decide ((s.pointImage p).kind = .wash) && (s.point p).left) || s.pointClear p

section
variable {s : State} {p : PointId} {e : QueueEntry} (he : e ∈ (s.point p).queue) (hs : e.state = .serving)
  (hn : ((s.point p).queue.map (fun x => x.visit.bus)).Nodup)
include he hs hn

theorem State.takeFromQueue_serving : s.takeFromQueue p e.visit.bus =
    (s.modPoint p (Point.taken (s.takenLeft p) e.visit.bus)).clearingTest p := by
  have hfront : e.isFront = true := by simp [QueueEntry.isFront, hs]
  have honly : ∀ x ∈ (s.point p).queue, x.visit.bus = e.visit.bus → x = e := fun x hx hb => List.inj_on_of_nodup_map hn hx he hb
  rcases State.takeFromQueue_cases p e.visit.bus s with ⟨hnone, -⟩ | ⟨x, hx, hb, -, -, h⟩
  · simp [hnone e he rfl] at hfront
  · obtain rfl := honly x hx hb
    have hqueue : (s.point p).queue.filter (fun y => !(decide (y.visit.bus = x.visit.bus) && y.isFront))
        = (s.point p).queue.filter (fun y => decide (y.visit.bus ≠ x.visit.bus)) :=
      List.filter_congr (fun y hy => by
        by_cases hyb : y.visit.bus = x.visit.bus
        · rw [honly y hy hyb]; simp [hfront]
        · simp [hyb])
    have htaken : s.takenPoint p x.visit.bus x (s.point p) = (s.point p).taken (s.takenLeft p) x.visit.bus := by
      simp only [State.takenPoint, hs, if_true, hqueue]
      rfl
    rw [h, State.modPoint_eq_setPoint, htaken, ← State.modPoint_eq_setPoint]

/-- The point stays CLEARING where the bus stands there or a start output is on. -/
theorem State.takeFromQueue_point_stays (h : s.takenLeft p = false ∨ (s.point p).startOutput ≠ .off) :
    (s.takeFromQueue p e.visit.bus).point p = (s.point p).taken (s.takenLeft p) e.visit.bus := by
  rw [State.takeFromQueue_serving he hs hn, State.clearingTest_of_stays, State.modPoint_point]
  rw [Bool.eq_false_iff, ne_eq, State.clearingOver_iff, State.modPoint_point]
  rintro ⟨-, hleft, hout, -⟩
  rcases h with h | h
  · exact absurd hleft (by simp [Point.taken, h])
  · exact h hout

/-- The point leaves CLEARING at once where it is clear already, and no entry waits to start. -/
theorem State.takeFromQueue_point_over (hl : s.takenLeft p = true) (hout : (s.point p).startOutput = .off)
    (hj : ∀ x ∈ (s.point p).queue.filter (fun x => decide (x.visit.bus ≠ e.visit.bus)), x.justServed = false)
    (hw : ∀ x ∈ (s.point p).queue.filter (fun x => decide (x.visit.bus ≠ e.visit.bus)), x.state ≠ .waiting) :
    (s.takeFromQueue p e.visit.bus).point p = { (s.point p).taken false e.visit.bus with
      state := if (s.point p).faultPending then .fault else .idle, faultPending := false, served := none } := by
  have hover : (s.modPoint p (Point.taken (s.takenLeft p) e.visit.bus)).clearingOver p = true := by
    rw [State.clearingOver_iff, State.modPoint_point]
    exact ⟨rfl, hl, hout, hj⟩
  rw [State.takeFromQueue_serving he hs hn, State.clearingTest_of_over hover, State.startTest_of_none (.inr ?_), State.leaveClearing,
    State.modPoint_point, State.modPoint_point]
  · rfl
  · rw [State.leaveClearing, State.modPoint_point, State.modPoint_point]
    exact hw

end

/-- What the STRAY for a bus in service does to the node. -/
theorem State.onStray_serving {s : State} {p : PointId} {e : QueueEntry} {source : Nat} (he : e ∈ (s.point p).queue)
    (hs : e.state = .serving) (hn : ((s.point p).queue.map (fun x => x.visit.bus)).Nodup)
    (hother : ∀ x ∈ (s.point p.other).queue, x.visit.bus ≠ e.visit.bus) (hlane : ∀ x ∈ s.laneEntries, x.visit.bus ≠ e.visit.bus)
    (hitem : s.item? (.bus e.visit.bus) = none) (hbids : s.bidTagsOf e.visit.bus = [])
    (hmarks : ∀ l ∈ s.lanes, ∀ x ∈ l.entries.drop 1, x.mark = none)
    (hheads : ∀ b ∈ s.hand.bids, ∀ h, b.head = some h → s.isParkedHead b.resource h.bus = true) :
    (s.onStray source e.visit.bus).lanes = s.lanes ∧ (s.onStray source e.visit.bus).point p.other = s.point p.other ∧
      (s.onStray source e.visit.bus).loader.reports = s.loader.reports ∧
      (s.canPlace .normal = true → ∃ x ∈ (s.onStray source e.visit.bus).line.transmit,
        x.body = .record (s.handedRecord p e) ∧ x.destination = source ∧ x.cls = .normal) ∧
      ∃ w : State, w.point p = s.point p ∧ w.takenLeft p = s.takenLeft p ∧
        (s.onStray source e.visit.bus).point p = (w.takeFromQueue p e.visit.bus).point p := by
  have hfront : e.isFront = true := by simp [QueueEntry.isFront, hs]
  have honly : ∀ q, ∀ x ∈ (s.point q).queue, x.visit.bus = e.visit.bus → q = p ∧ x = e := by
    intro q x hx hb
    by_cases hq : q = p
    · subst hq
      exact ⟨rfl, List.inj_on_of_nodup_map hn hx he hb⟩
    · have : q = p.other := by cases q <;> cases p <;> simp_all [PointId.other]
      subst this
      exact absurd hb (hother x hx)
  have hunclaimed : s.unclaimed e.visit.bus = s.setLanes s.lanes := by
    rw [State.unclaimed, State.dropBidsOf_of_none hbids, State.dropExpectedOf_of_none]
    · exact fun x hx hb => absurd hb (hlane x hx)
    · intro q x hx hb
      rw [(honly q x hx hb).2, hs]
      simp
  generalize hb : e.visit.bus = b at *
  obtain rfl := hb
  have hpoint : ∀ q, (s.setLanes s.lanes).point q = s.point q := fun q => by cases q <;> rfl
  have hown : (s.setLanes s.lanes).ownRecord? e.visit.bus (.lane 6) = some (s.handedRecord p e) := by
    refine (State.ownRecord?_of_queued (p := p) (e := e) (by exact hitem) (by rw [hpoint]; exact he) rfl hfront (by simp)
      (fun q x hx hb _ => ?_)).trans ?_
    · rw [hpoint] at hx
      exact honly q x hx hb
    · simp only [State.handedRecord, hpoint]
      rfl
  have hanswer : (s.unclaimed e.visit.bus).answerStray e.visit.bus source (.lane 6) =
      ((s.setLanes s.lanes).place (.record (s.handedRecord p e)) source).giveUpRecord e.visit.bus (.lane 6) := by
    rw [hunclaimed, State.answerStray, hown]
  have hplaced := State.place_sansOffers (.record (s.handedRecord p e)) source (s.setLanes s.lanes)
  have hends := s.onStray_ends source e.visit.bus
  have hcancel := State.cancelOffer_sansOffers (.bus e.visit.bus) ((s.unclaimed e.visit.bus).answerStray e.visit.bus source (.lane 6))
  have hanswered : ∀ q, (s.answered e.visit.bus source).point q =
      ((((s.setLanes s.lanes).place (.record (s.handedRecord p e)) source).offerGivenUp e.visit.bus).takeFromQueue p
        e.visit.bus).point q := by
    intro q
    rw [State.answered, State.point_of_offers hcancel, hanswer, State.giveUpRecord_point, State.queuesGivenUp_of_queue (p := p) (by simp)]
    intro x hx hb
    rw [State.point_of_offers hplaced, hpoint] at hx
    exact absurd hb (hother x hx)
  have hsource : ∀ q, (((s.setLanes s.lanes).place (.record (s.handedRecord p e)) source).offerGivenUp e.visit.bus).point q
      = s.point q := fun q => by rw [State.offerGivenUp_point, State.point_of_offers hplaced, hpoint]
  have hlanes : (s.answered e.visit.bus source).lanes = s.lanes := by
    rw [State.answered, State.lanes_of_offers hcancel, hanswer, State.giveUpRecord_lanes, State.lanesGivenUp,
      State.removeLaneEntries_of_none]
    · have hsame := State.lanes_of_offers hplaced
      exact hsame
    · intro n l hl x hx
      rw [State.lanes_of_offers hplaced] at hl
      have := hlane x (List.mem_flatMap.2 ⟨l, List.mem_of_getElem? hl, hx⟩)
      simp [this]
  have hbids' : (s.answered e.visit.bus source).hand.bids = s.hand.bids := by
    rw [State.answered, State.bids_of_offers hcancel, hanswer, (State.giveUpRecord_rest _ _ _).2.2.2, State.bids_of_offers hplaced]
    rfl
  refine ⟨?_, ?_, ?_, fun hroom => ?_, _, hsource p, ?_, (hends.point p).trans (hanswered p)⟩
  · have htest := State.testIfClosed_sansOffers ((s.unclaimed e.visit.bus).answerStray e.visit.bus source (.lane 6))
      (s.answered e.visit.bus source)
    rw [State.onStray_eq]
    refine State.settle_lanes ((State.lanes_of_offers htest).trans hlanes) ((State.bids_of_offers htest).trans hbids') hmarks hheads
      (fun o r ho hk hp => State.testIfClosed_waiting hp _ ?_)
    have hne : o.key ≠ .bus e.visit.bus := by simp [hk]
    have hgiven := State.giveUpRecord_waiting hp (here := .lane 6)
      (s := (s.setLanes s.lanes).place (.record (s.handedRecord p e)) source) (by rw [State.place_eq]; exact ho) hne
    rw [State.answered, hanswer, State.cancelOffer_of_ne hgiven hne]
    exact hgiven
  · rw [hends.point, hanswered, State.other_of_point (State.takeFromQueue_sansPoint p _ _), hsource]
  · rw [hends.reports, State.answered, State.reports_of_offers hcancel, (State.answerStray_rest _ _ _ _).2.1, hunclaimed]
    rfl
  · exact State.onStray_sends_record (by rw [hunclaimed]; exact hown) hroom
  · have hfield := State.field_of_offers (State.offerGivenUp_sansOffers e.visit.bus
      ((s.setLanes s.lanes).place (.record (s.handedRecord p e)) source))
    have hfield' := State.field_of_offers hplaced
    have himage : (((s.setLanes s.lanes).place (.record (s.handedRecord p e)) source).offerGivenUp e.visit.bus).loader.image
        = s.loader.image := by
      refine (congrArg (fun u : State => u.loader.image) (State.offerGivenUp_sansOffers e.visit.bus _) :).trans ?_
      exact (congrArg (fun u : State => u.loader.image) hplaced :)
    have hkind : (((s.setLanes s.lanes).place (.record (s.handedRecord p e)) source).offerGivenUp e.visit.bus).pointImage p
        = s.pointImage p := by
      simp only [State.pointImage, himage]
    have hclear : (((s.setLanes s.lanes).place (.record (s.handedRecord p e)) source).offerGivenUp e.visit.bus).pointClear p
        = s.pointClear p := by
      simp only [State.pointClear, State.level, State.detector, hfield, hfield']
      rfl
    rw [State.takenLeft, State.takenLeft, hkind, hclear, hsource]

end Sys2Proof.Machine

namespace Sys2Proof

open Sys2Proof.Machine

/-- Settles O57: hanging the nozzle up ends a service as in O33, the point-occupied input is the test for the end of CLEARING,
and a STRAY takes the entry in service from its queue with that test alone. -/
theorem servicesEndByHangingUpAndBeingLeft : Obligations.ServicesEndByHangingUpAndBeingLeft := by
  refine ⟨fun s p ha hk hl hd ht => ?_, fun s p ha hk hl hd ht => ?_,
    fun s f source p e hacc he hs hb hn hother hlane hitem hbids hmarks hheads => ?_⟩
  · have hexec : exec (.debounceComplete (.machineA p)) s = .next
        ((s.setDetector (.machineA p) { live := false, debounced := false, timer := false }).nozzleHung p) := by
      refine congrArg Host.Outcome.next ((State.debounced_of_change ha (by simp [State.isPresent, hk]) hl hd ht).trans ?_)
      have hkind : ((s.setDetector (.machineA p) { live := false, debounced := false, timer := false }).pointImage p).kind
          = .fuel := hk
      simp [State.raiseChange, hkind]
    rw [hexec]
    generalize hm : s.setDetector (.machineA p) { live := false, debounced := false, timer := false } = moved
    have hpoint : ∀ q, moved.point q = s.point q := fun q => by rw [← hm, State.setDetector_point]
    have hlevel : moved.level (.occupied p) = s.level (.occupied p) := by
      rw [← hm, State.setDetector_level_of_ne _ (by cases p <;> decide)]
    refine ⟨fun h => ?_, fun sv e hs hv hlift he hn hocc hroom => ?_⟩
    · rw [State.nozzleHung_of_not (by rw [hpoint]; exact h), State.modPoint_eq_setPoint, hpoint]
    · obtain ⟨hother, hlanes, hended, hitem⟩ := State.nozzleHung_stands (s := moved) (p := p) (sv := sv) (e := e)
        (by rw [hpoint]; exact hs) (by rw [hpoint]; exact hv) hlift (by rw [hpoint]; exact he) (by rw [hpoint]; exact hn)
        (by rw [hlevel]; exact hocc) (by rw [← hm]; exact hroom)
      rw [hpoint] at hother hended hitem
      refine ⟨_, rfl, hother, by rw [hlanes, ← hm]; rfl, hended, ?_⟩
      rw [← hm] at hitem ⊢
      exact hitem
  · have hexec : exec (.debounceComplete (.occupied p)) s = .next
        ((s.setDetector (.occupied p) { live := false, debounced := false, timer := false }).pointCleared p) :=
      congrArg Host.Outcome.next (State.debounced_of_change ha (by simp [State.isPresent, hk]) hl hd ht)
    have hkind : ((s.setDetector (.occupied p) { live := false, debounced := false, timer := false }).pointImage p).kind
        = (s.pointImage p).kind := rfl
    rw [hexec]
    have hpoint : (s.setDetector (.occupied p) { live := false, debounced := false, timer := false }).point p = s.point p :=
      State.setDetector_point ..
    generalize s.setDetector (.occupied p) { live := false, debounced := false, timer := false } = moved at *
    rw [← hpoint, ← hkind]
    refine ⟨fun hs ho hj => ?_, fun hs h => ?_, fun hs hw => ?_, fun h => ?_⟩
    · rw [State.pointCleared_over hs ho hj]
    · rw [State.pointCleared_stays hs h]
    · rw [State.pointCleared_washing hs hw]
    · rw [State.pointCleared_of_none h]
  · have hexec : exec (.stray f) s = .next (s.heard.onStray source e.visit.bus) := by
      rw [hb]
      exact congrArg _ (State.receive_of_accepts hacc (fun source => State.onStray source (pairAt f.payload 0)))
    obtain ⟨hlanes, hpoint, hreports, hsent, w, hwp, hwl, hended⟩ := State.onStray_serving (s := s.heard) (p := p) (source := source)
      (by rw [State.heard_point]; exact he) hs (by rw [State.heard_point]; exact hn) (by rw [State.heard_point]; exact hother) hlane
      hitem hbids hmarks hheads
    rw [State.heard_point] at hpoint hwp
    rw [← hwp] at he hn
    have hleft : w.takenLeft p = ((decide ((s.pointImage p).kind = .wash) && (s.point p).left) || !s.level (.occupied p)) := by
      rw [hwl, State.takenLeft, State.heard_point]
      rfl
    have hrecord : s.heard.handedRecord p e = s.handedRecord p e := by
      simp only [State.handedRecord, State.heard_point]
      rfl
    rw [hrecord] at hsent
    rw [hexec]
    refine ⟨fun hk => ⟨_, rfl, hlanes, hpoint, hreports, ?_, fun hocc => ?_, fun hocc hout hj hw => ?_⟩,
      fun hk hout => ⟨_, rfl, hlanes, hpoint, hreports, ?_, ?_⟩⟩
    · have hhanded : s.handedRecord p e = { e.visit with litres := (s.point p).delivered, fuelOutcome := none } := by
        simp [State.handedRecord, hs, hk]
      rw [← hhanded]
      exact hsent
    · have hstays : w.takenLeft p = false := by rw [hleft]; simp [hk, hocc]
      rw [hended, State.takeFromQueue_point_stays he hs hn (.inl hstays), hstays, hwp]
      rfl
    · have hover : w.takenLeft p = true := by rw [hleft]; simp [hocc]
      rw [← hwp] at hout hj hw ⊢
      rw [hended, State.takeFromQueue_point_over he hs hn hover hout hj hw]
      rfl
    · have hhanded : s.handedRecord p e = { e.visit with washOutcome := none } := by
        simp [State.handedRecord, hs, hk]
      rw [← hhanded]
      exact hsent
    · rw [← hwp] at hout
      rw [hended, State.takeFromQueue_point_stays he hs hn (.inr hout), hleft, hwp]
      simp [hk, Point.taken]

end Sys2Proof

namespace Sys2Proof.Machine

open Sys2Proof

/-! ## What an event does to the transmit queue (R170, R172) -/

section
variable {P : State → Prop} (hsame : ∀ {s t : State}, P s → t.line = s.line → t.loader = s.loader → P t)
  (hdrop : ∀ {s : State} (p : FrameBody → Bool), P s → P (s.dropFrames p))
  (hplace : ∀ {s : State} (b : FrameBody) (d : Nat), P s → P (s.place b d))
include hsame hplace

/-- What holds of line and loader, and is kept where frames are placed, is kept by the test of R23. -/
theorem State.placeReoffer_frames (o : OpenOffer) {s : State} (h : P s) : P (s.placeReoffer o) := by
  unfold State.placeReoffer
  split
  · exact hsame h rfl rfl
  · dsimp only
    split
    · exact hplace _ _ (hsame h rfl rfl)
    · exact hsame h rfl rfl

theorem State.offerTest_frames {s : State} (h : P s) : P s.offerTest := by
  rcases State.offerTest_cases s with e | ⟨-, o, -, -, -, e⟩ | ⟨-, -, it, -, -, -, e⟩ <;> rw [e]
  · exact h
  · exact State.placeReoffer_frames hsame hplace o h
  · rcases State.startOffer_cases it s with ⟨-, e⟩ | ⟨-, e⟩ <;> rw [e]
    · exact hplace _ _ (hsame h rfl rfl)
    · exact hsame h rfl rfl

include hdrop

omit hplace in
theorem State.cancelOffer_frames (k : ItemKey) {s : State} (h : P s) : P (s.cancelOffer k) := by
  unfold State.cancelOffer
  split
  · split
    · exact hdrop _ (hsame h rfl rfl)
    · exact h
  · exact h

theorem State.withdrawSwaps_frames {s : State} (h : P s) : P s.withdrawSwaps := by
  have hruns : ∀ (runs : List Nat) (u : State), P u → P (u.dropRuns runs) := by
    intro runs
    induction runs with
    | nil => exact fun _ hu => hu
    | cons r runs ih => exact fun u hu => ih _ (hsame (State.cancelOffer_frames hsame hdrop (.swapRun r) hu) rfl rfl)
  rcases State.withdrawSwaps_cases s with ⟨-, e⟩ | ⟨-, e⟩ <;> rw [e]
  · exact h
  · exact State.offerTest_frames hsame hplace (hruns _ _ h)

omit hplace in
theorem State.removeBids_frames (l : List BidEntry) : ∀ {s : State}, P s → P (s.removeBids l) := by
  induction l with
  | nil => exact fun h => h
  | cons e l ih =>
    intro s h
    have hbids : P { s with hand := { s.hand with bids := s.hand.bids.filter (fun x => decide (x.tag ≠ e.tag)) } } :=
      hsame h rfl rfl
    exact ih (hdrop _ hbids)

/-- And by the end of an event. -/
theorem State.settle_frames (before : State) {s : State} (h : P s) : P (State.settle before s) := by
  have hlost : P s.dropLostHeads := by
    have hb := State.removeBids_frames hsame hdrop s.lostBids h
    rcases State.dropLostHeads_cases s with ⟨-, e⟩ | e <;> rw [e]
    · exact hb
    · exact hsame hb rfl rfl
  refine State.settle_induction (P := P) (State.withdrawSwaps_frames hsame hdrop hplace hlost) (fun t n ht => ?_)
  rcases State.headTest_cases n t with e | ⟨-, -, e, -, -, eq⟩
  · rw [e]; exact ht
  · rw [eq]
    exact State.withdrawSwaps_frames hsame hdrop hplace (hplace _ _ (hsame ht rfl rfl))

end

/-- Whether the order of a frame is past, and no frame in the transmit queue has it. -/
def State.Past (k : Nat) (s : State) : Prop := (∀ g ∈ s.line.transmit, g.order ≠ k) ∧ k < s.line.nextOrder

theorem State.Past.of_line {k : Nat} {s t : State} (h : s.Past k) (ht : t.line = s.line) : t.Past k := by
  rwa [State.Past, ht]

theorem State.Past.dropFrames {k : Nat} {s : State} (h : s.Past k) (p : FrameBody → Bool) : (s.dropFrames p).Past k :=
  ⟨fun g hg => h.1 g (State.mem_dropFrames.1 hg).1, h.2⟩

theorem State.Past.place {k : Nat} {s : State} (h : s.Past k) (b : FrameBody) (d : Nat) : (s.place b d).Past k := by
  obtain ⟨hno, hlt⟩ := h
  refine ⟨fun g hg => ?_, ?_⟩
  · rcases State.mem_of_mem_place hg with rfl | hg
    · exact Nat.ne_of_gt hlt
    · exact hno g hg
  · rcases State.place_cases b d s with ⟨-, e⟩ | ⟨-, -, -, e⟩ | ⟨-, e⟩ <;> rw [e]
    · exact Nat.lt_succ_of_lt hlt
    · exact Nat.lt_succ_of_lt hlt
    · exact hlt

theorem State.Past.settle {k : Nat} {s : State} (h : s.Past k) (before : State) : (State.settle before s).Past k :=
  State.settle_frames (P := State.Past k) (fun h hl _ => h.of_line hl) (fun p h => h.dropFrames p) (fun b d h => h.place b d)
    before h

theorem State.Past.offerTest {k : Nat} {s : State} (h : s.Past k) : s.offerTest.Past k :=
  State.offerTest_frames (P := State.Past k) (fun h hl _ => h.of_line hl) (fun b d h => h.place b d) h

theorem State.Past.report {k : Nat} {s : State} (h : s.Past k) (b : ReportBody) : (s.report b).Past k := by
  have hhead : ∀ u : State, u.Past k → u.placeHeadReport.Past k := by
    intro u hu
    unfold State.placeHeadReport
    repeat' split
    · exact hu.of_line rfl
    · exact hu
    · exact State.Past.place (hu.of_line (by rfl)) _ _
  have hset : ∀ l, (s.countReport.setReports l).Past k := fun l => h.of_line rfl
  unfold State.report
  dsimp only
  split
  · exact h
  · split
    · split
      · exact hhead _ (hset _)
      · exact hset _
    · split
      · exact hset _
      · exact hhead _ ((hset _).dropFrames _)

/-! ## The node's own frame (R173) -/

/-- With no re-offer owed, nothing is tried again when a frame leaves the transmit queue. -/
theorem State.retryReoffer_idle {s : State} (h : s.owesReoffer = false) : s.retryReoffer = s := by
  unfold State.retryReoffer
  split
  · next ho => exact State.offerTest_idle h (.inr (.inl ho))
  · rfl

theorem exec_frameHeard {s : State} (ha : s.active = true) : exec .frameHeard s = .next s.frameHeard :=
  congrArg Host.Outcome.next (State.whenActive_of_active ha _)

theorem exec_mismatch {s : State} (ha : s.active = true) : exec .readbackMismatch s = .next s.mismatch :=
  congrArg Host.Outcome.next (State.whenActive_of_active ha _)

theorem State.sendingFrame_eq_none {s : State} (h : ∀ x ∈ s.line.transmit, x.sending = false) : s.sendingFrame = none :=
  List.find?_eq_none.2 (fun x hx => by simp [h x hx])

theorem State.frameHeard_of_sending {s : State} {f : TxFrame} (h : s.line.transmit.find? (fun x => x.sending) = some f) :
    s.frameHeard = ((s.frameOut f).hearOwn f.body).retryReoffer := by
  have hf : s.sendingFrame = some f := h
  simp [State.frameHeard, hf]

/-- A frame that no block takes further. -/
theorem State.hearOwn_of_sent {b : FrameBody} (h : b.kind = .arrive ∨ b.kind = .stray ∨ b.kind = .record ∨ b.kind = .call ∨
    b.kind = .gone) (s : State) : s.hearOwn b = s := by
  cases b <;> simp [FrameBody.kind] at h <;> rfl

theorem State.popReport_rest (s : State) : s.popReport.loader.reports = s.loader.reports.drop 1 ∧ s.popReport.hand = s.hand ∧
    s.popReport.lanes = s.lanes ∧ (∀ p, s.popReport.point p = s.point p) ∧ s.popReport.field = s.field := by
  have hplace : ∀ (u : State) (b : FrameBody) (d : Nat), (u.place b d).loader.reports = u.loader.reports ∧
      (u.place b d).hand = u.hand ∧ (u.place b d).lanes = u.lanes ∧ (∀ p, (u.place b d).point p = u.point p) ∧
      (u.place b d).field = u.field := by
    intro u b d
    have hoff := State.place_sansOffers b d u
    exact ⟨State.reports_of_offers hoff, by rw [State.place_eq], State.lanes_of_offers hoff, State.point_of_offers hoff,
      State.field_of_offers hoff⟩
  have hsame : ∀ (v : Bool) (l : List Report), (∀ p, (s.setReports l |>.setRetry v).point p = s.point p) := fun v l p => by
    cases p <;> rfl
  unfold State.popReport State.placeHeadReport
  split
  · exact ⟨rfl, rfl, rfl, fun p => by cases p <;> rfl, rfl⟩
  · split
    · exact ⟨rfl, rfl, rfl, fun p => by cases p <;> rfl, rfl⟩
    · obtain ⟨h1, h2, h3, h4, h5⟩ := hplace (((s.setReports (s.loader.reports.drop 1)).setRetry false).setRetry
        (!((s.setReports (s.loader.reports.drop 1)).setRetry false).canPlace .low)) _ Config.officeStation
      exact ⟨h1, h2, h3, fun p => (h4 p).trans (by cases p <;> rfl), h5⟩

end Sys2Proof.Machine

namespace Sys2Proof.Machine

open Sys2Proof

/-! ## The node's own OFFER, heard (R25, R28, R31, R35) -/

theorem State.clearTag_yielded (tag : Tag) (s : State) : s.Yielded (s.clearTag tag) := by
  have hclear : ∀ e : LaneEntry, (e.clearTag tag).visit = e.visit ∧ (e.clearTag tag).state = e.state ∧ (e.clearTag tag).ask = e.ask := by
    intro e
    unfold LaneEntry.clearTag
    split <;> exact ⟨rfl, rfl, rfl⟩
  refine ⟨rfl, .refl _, guide_eq_of_outputs rfl rfl rfl, fun run hr => ?_, fun hn l hl => ?_⟩
  · obtain ⟨x, hx, ha⟩ := List.any_eq_true.1 hr
    refine List.any_eq_true.2 ⟨x.clearTag tag, by rw [State.clearTag_laneEntries]; exact List.mem_map_of_mem hx, ?_⟩
    obtain ⟨hv, hs, hask⟩ := hclear x
    simpa [LaneEntry.asksFor, hv, hs, hask] using ha
  · obtain ⟨l0, hl0, rfl⟩ := List.mem_map.1 hl
    have hbuses : (l0.entries.map (LaneEntry.clearTag tag)).map (fun e => e.visit.bus) = l0.entries.map (fun e => e.visit.bus) := by
      rw [List.map_map]
      exact List.map_congr_left (fun x _ => congrArg VisitRecord.bus (hclear x).1)
    exact hbuses ▸ hn l0 hl0

theorem State.dropClaims_yielded (tags : List Tag) : ∀ s : State, s.Yielded (s.dropClaims tags) := by
  induction tags with
  | nil => exact .refl
  | cons tag tags ih => exact fun s => (State.dropClaim_yielded tag s).trans (ih _)

/-- What an OFFER supersedes is given up before the end of its event. -/
theorem State.supersede_settles (h : Nat) (f : OfferFields) (s : State) : ∃ w, s.Yielded w ∧ s.supersede h f = State.settle s w := by
  have hold : s.Yielded (s.oldClosed h f) := by
    unfold State.oldClosed
    split
    · exact .refl s
    · exact (State.dropClaim_yielded _ s).trans (State.clearMark_yielded _ _)
  rw [State.supersede_eq]
  exact ⟨_, ((hold.trans (State.dropClaims_yielded _ _)).trans (State.clearTag_yielded _ _)).trans (State.clearMark_yielded _ _), rfl⟩

theorem State.makeBid_hand (b : BidEntry) (s : State) :
    (s.makeBid b).hand = { s.hand with bids := (s.makeBid b).hand.bids } := by
  unfold State.makeBid
  split
  · rw [State.send_hand, State.placeTentative_hand]
  · rfl

/-- A bid made on an OFFER changes the bids of the hand alone. -/
theorem State.offerHeard_hand (h : Nat) (f : OfferFields) (s : State) :
    (s.offerHeard h f).hand = { (s.supersede h f).hand with bids := (s.offerHeard h f).hand.bids } := by
  unfold State.offerHeard
  generalize s.supersede h f = t
  dsimp only
  split
  · cases t.decideBid h f with
    | none => rfl
    | some b => exact State.makeBid_hand b t
  · rfl

/-- The open offer once its OFFER has been heard whole. -/
def OpenOffer.heard (n : Nat) (o : OpenOffer) : OpenOffer := { o with number := n, reNumber := 0, phase := .bidding, takes := [] }

section
variable {s : State} {o : OpenOffer} {n : Nat}

theorem State.ownOfferHeard_of_open (ho : s.hand.offer = some o) (hn : n ≠ 0)
    (hp : (o.phase = .queued ∧ o.number = n) ∨ (o.phase = .reofferQueued ∧ o.reNumber = n)) :
    s.ownOfferHeard n = (s.setOffer (some (o.heard n))).modItem o.key (fun i => { i with lastNumber := n }) := by
  have hcond : (o.phase = .queued ∧ o.number = n) ∨ (o.phase = .reofferQueued ∧ o.reNumber = n ∧ n ≠ 0) := by tauto
  simp only [State.ownOfferHeard, ho, if_pos hcond]
  rfl

/-- The event of the own OFFER, where the end of it leaves the open offer. -/
theorem State.ownOffer_frameHeard {f : TxFrame} {sup : Nat} {cargo : Cargo}
    (hf : s.line.transmit.find? (fun x => x.sending) = some f) (hb : f.body = .offer n sup cargo) (ho : s.hand.offer = some o)
    (hn : n ≠ 0) (hp : (o.phase = .queued ∧ o.number = n) ∨ (o.phase = .reofferQueued ∧ o.reNumber = n))
    (hstays : ∀ u w : State, u.lanes = s.lanes → u.hand.offer = some (o.heard n) → u.hand.counter = s.hand.counter → u.Yielded w →
      (State.settle u w).hand.offer = some (o.heard n) ∧ (State.settle u w).hand.counter = s.hand.counter) :
    s.frameHeard.hand.offer = some (o.heard n) ∧ (∀ i ∈ s.frameHeard.hand.outbound, i.key = o.key → i.lastNumber = n) ∧
      s.frameHeard.hand.counter = s.hand.counter := by
  have hwaits : (o.heard n).phase = .bidding ∨ (o.heard n).phase = .takeWait := .inl rfl
  rw [State.frameHeard_of_sending hf, hb]
  simp only [State.hearOwn]
  rw [State.ownOfferHeard_of_open (s := s.frameOut f) ho hn hp]
  generalize hu : (((s.frameOut f).setOffer (some (o.heard n))).modItem o.key (fun i => { i with lastNumber := n })) = u
  have hitems : ∀ i ∈ u.hand.outbound, i.key = o.key → i.lastNumber = n := by
    rw [← hu]
    intro i hi hk
    obtain ⟨j, -, rfl⟩ := State.mem_modItem.1 hi
    split
    · rfl
    · next hne => rw [if_neg hne] at hk; exact absurd hk hne
  have hoffer : u.hand.offer = some (o.heard n) := by rw [← hu]; rfl
  obtain ⟨w, hy, hw⟩ := State.supersede_settles (s.frameOut f).loader.address { number := n, supersedes := sup, cargo := cargo } u
  obtain ⟨hoff, hcount⟩ := hstays u w (by rw [← hu]; rfl) hoffer (by rw [← hu]; rfl) hy
  have hhand := State.offerHeard_hand (s.frameOut f).loader.address { number := n, supersedes := sup, cargo := cargo } u
  rw [hw] at hhand
  generalize u.offerHeard (s.frameOut f).loader.address { number := n, supersedes := sup, cargo := cargo } = t at hhand
  have htoffer : t.hand.offer = some (o.heard n) := by rw [hhand]; exact hoff
  rw [State.retryReoffer_idle (State.owesReoffer_of_phase htoffer hwaits)]
  have hwoffer : w.hand.offer = some (o.heard n) := by rw [hy.hand]; exact hoffer
  refine ⟨htoffer, fun i hi hk => ?_, by rw [hhand]; exact hcount⟩
  rw [hhand] at hi
  obtain ⟨j, hj, hji⟩ := (State.settle_tests u (State.owesReoffer_of_phase hwoffer hwaits)).from_ i hi
  rw [hy.hand] at hj
  have hlast := hitems j hj (by rw [← hji.key]; exact hk)
  rcases hji with rfl | rfl <;> exact hlast

end

/-! ## The node's own TAKE, heard (R34, R146) -/

/-- What a mark, with its binding perhaps, leaves of a node. -/
structure State.Marked (s t : State) : Prop where
  offer : t.hand.offer = s.hand.offer
  bids : ∀ b ∈ t.hand.bids, ∃ b' ∈ s.hand.bids, b'.tag = b.tag
  guide : ∀ place, t.guide place = s.guide place
  closed : ∀ q k, s.Closed q k → t.Closed q k

theorem State.Marked.refl (s : State) : s.Marked s := ⟨rfl, fun b hb => ⟨b, hb, rfl⟩, fun _ => rfl, fun _ _ h => h⟩

theorem State.Marked.trans {s t u : State} (h : s.Marked t) (h' : t.Marked u) : s.Marked u where
  offer := h'.offer.trans h.offer
  bids := fun b hb => by
    obtain ⟨c, hc, hcb⟩ := h'.bids b hb
    obtain ⟨d, hd, hdc⟩ := h.bids c hc
    exact ⟨d, hd, hdc.trans hcb⟩
  guide := fun p => (h'.guide p).trans (h.guide p)
  closed := fun q k hk => h'.closed q k (h.closed q k hk)

theorem State.setLanes_marked (lanes : List Lane) (s : State) : s.Marked (s.setLanes lanes) :=
  ⟨rfl, fun b hb => ⟨b, hb, rfl⟩, guide_eq_of_outputs rfl rfl rfl, fun _ _ h => h.of_same rfl rfl rfl⟩

theorem State.removeBids_marked (l : List BidEntry) (s : State) : s.Marked (s.removeBids l) := by
  have hone : ∀ (l : List BidEntry) (u : State), ∀ place, (u.removeBids l).guide place = u.guide place := by
    intro l
    induction l with
    | nil => exact fun _ _ => rfl
    | cons e l ih => exact fun u place => (ih _ place).trans (guide_eq_of_outputs rfl rfl rfl place)
  refine ⟨by rw [State.removeBids_hand], fun b hb => ?_, hone l s, fun _ _ h => h.removeBids l⟩
  rw [State.removeBids_bids] at hb
  exact ⟨b, (List.mem_filter.1 hb).1, rfl⟩

theorem State.dropChangedHeads_marked (before s : State) : s.Marked (State.dropChangedHeads before s) := by
  rcases State.dropChangedHeads_cases before s with e | e <;> rw [e]
  · exact State.removeBids_marked _ s
  · exact (State.removeBids_marked _ s).trans (State.setLanes_marked _ _)

theorem State.mapVisits_marked {f : VisitRecord → VisitRecord} (hf : ∀ r, (f r).bus = r.bus) (s : State) : s.Marked (s.mapVisits f) := by
  refine ⟨rfl, fun b hb => ?_, guide_eq_of_outputs rfl rfl rfl, fun _ _ h => h.mapVisits hf⟩
  obtain ⟨c, hc, rfl⟩ := List.mem_map.1 hb
  exact ⟨c, hc, rfl⟩

theorem State.report_marked (b : ReportBody) (s : State) : s.Marked (s.report b) := by
  have heq := State.report_eq b s
  refine ⟨by rw [heq], fun c hc => ⟨c, by rw [heq] at hc; exact hc, rfl⟩,
    guide_eq_of_outputs (by rw [heq]) (by rw [heq]) (by rw [heq]), fun _ _ h => h.report b⟩

theorem State.bindBus_marked (bus run wall : Nat) (pinned substituted : Bool) (s : State) :
    s.Marked (s.bindBus bus run wall pinned substituted) := by
  have hbound := (State.mapVisits_marked (bindVisit_bus bus run (Duty.bindTo s.clock run wall pinned substituted)) s).trans
    (State.dropChangedHeads_marked s _)
  unfold State.bindBus State.reportAdjusted
  dsimp only
  split
  · split
    · exact hbound.trans (State.report_marked _ _)
    · exact hbound
  · exact hbound

theorem State.bindMark_marked (tag : Tag) (s : State) : s.Marked (s.bindMark tag) := by
  have htaken : ∀ (b : Nat) (k : TakeMark), s.Marked (s.bindTaken b k) := by
    intro b k
    have hclear : s.Marked (s.modLaneBus b (fun x => { x with mark := none })) := State.setLanes_marked _ s
    unfold State.bindTaken
    dsimp only
    split
    · exact hclear
    · exact (hclear.trans (State.bindBus_marked ..)).trans (State.setLanes_marked _ _)
  unfold State.bindMark
  split
  · exact .refl s
  · split
    · exact .refl s
    · exact htaken _ _

theorem State.setMark_marked (e : BidEntry) (s : State) : s.Marked (s.setMark e) := by
  unfold State.setMark
  repeat' split
  · exact .refl s
  · exact State.setLanes_marked _ s
  · exact .refl s

theorem State.removeBid_marked (tag : Tag) (s : State) : s.Marked (s.removeBid tag) :=
  ⟨rfl, fun b hb => ⟨b, (List.mem_filter.1 hb).1, rfl⟩, guide_eq_of_outputs rfl rfl rfl,
    fun _ _ h => h.of_loses (State.removeBid_loses tag s)⟩

end Sys2Proof.Machine

namespace Sys2Proof.Machine

open Sys2Proof

/-- The TAKEN bid of the node's own TAKE leaves, and a SWAP head takes its mark. -/
def State.takeLeft (tag : Tag) (e : BidEntry) (s : State) : State :=
  if e.waitOver then ((s.removeBid tag).setMark e).bindMark tag else (s.removeBid tag).setMark e

theorem State.setMark_hand (e : BidEntry) (s : State) : (s.setMark e).hand = s.hand := by
  unfold State.setMark
  repeat' split
  all_goals rfl

theorem State.takeLeft_marked (tag : Tag) (e : BidEntry) (s : State) : s.Marked (s.takeLeft tag e) := by
  have hmark := (State.removeBid_marked tag s).trans (State.setMark_marked e _)
  unfold State.takeLeft
  split
  · exact hmark.trans (State.bindMark_marked tag _)
  · exact hmark

theorem State.takeLeft_bids (tag : Tag) (e : BidEntry) (s : State) : ∀ b ∈ (s.takeLeft tag e).hand.bids, b.tag ≠ tag := by
  have hmark : ∀ b ∈ ((s.removeBid tag).setMark e).hand.bids, b.tag ≠ tag := by
    intro b hb
    rw [State.setMark_hand] at hb
    simpa using (List.mem_filter.1 hb).2
  unfold State.takeLeft
  split
  · intro b hb
    obtain ⟨c, hc, hcb⟩ := (State.bindMark_marked tag _).bids b hb
    rw [← hcb]
    exact hmark c hc
  · exact hmark

/-- The node's own TAKE: what the holder makes of it, then the loss of its bid, where there is one. -/
theorem State.ownTakeHeard_settles (g : TakeFields) (s : State) : ∃ w, (s.holderTake s.loader.address g).Marked w ∧
    s.ownTakeHeard g = State.settle s w ∧
    ((∃ e ∈ (s.holderTake s.loader.address g).hand.bids, e.tag = g.tag ∧ e.state = .taken) → ∀ b ∈ w.hand.bids, b.tag ≠ g.tag) := by
  cases hfind : (s.holderTake s.loader.address g).hand.bids.find?
      (fun e => decide (e.tag = g.tag) && decide (e.state = .taken)) with
  | none =>
    refine ⟨_, .refl _, by simp [State.ownTakeHeard, hfind], ?_⟩
    rintro ⟨e, he, htag, hs⟩
    simpa [htag, hs] using List.find?_eq_none.1 hfind e he
  | some e =>
    refine ⟨_, State.takeLeft_marked g.tag e _, ?_, fun _ => State.takeLeft_bids g.tag e _⟩
    simp only [State.ownTakeHeard, hfind]
    rfl

/-- A TAKE that names no head leaves the holder's bids. -/
theorem State.holderTake_bids {g : TakeFields} (hg : g.head = none) (source : Nat) (s : State) :
    (s.holderTake source g).hand.bids = s.hand.bids := by
  have hcommit : ∀ (o : OpenOffer) (x : HeardTake), x.head = none → (s.commit o x).hand.bids = s.hand.bids := by
    intro o x hx
    unfold State.commit
    split
    · rfl
    · next it _ =>
      have hshown : ((s.closeOffer o.key).showTaker it x).hand.bids = s.hand.bids := by
        rw [(State.showTaker_codes it x _).1]; rfl
      simp only [hx]
      rw [State.offerTest_bids]
      cases it.cargo with
      | visit r => exact hshown
      | swap r => exact hshown
  unfold State.holderTake
  split
  · rfl
  · dsimp only
    split
    · rfl
    · split
      · exact hcommit _ _ hg
      · rfl

section
variable {s : State} {f : TxFrame} {tag : Tag} {bus v : Nat} {res : Resource}
  (hf : s.line.transmit.find? (fun x => x.sending) = some f) (hb : f.body = .take tag bus v res none)
include hf hb

/-- The event of the own TAKE. -/
theorem State.ownTake_frameHeard : ∃ t w : State,
    ((s.frameOut f).holderTake s.loader.address { tag := tag, bus := bus, value := v, resource := res, head := none }) = t ∧
    t.Marked w ∧ s.frameHeard = (State.settle (s.frameOut f) w).retryReoffer ∧
    ((∃ e ∈ s.hand.bids, e.tag = tag ∧ e.state = .taken) → ∀ e ∈ s.frameHeard.hand.bids, e.tag ≠ tag) := by
  obtain ⟨w, hmarked, hw, hbids⟩ := State.ownTakeHeard_settles
    { tag := tag, bus := bus, value := v, resource := res, head := none } (s.frameOut f)
  have heq : s.frameHeard = (State.settle (s.frameOut f) w).retryReoffer := by
    rw [State.frameHeard_of_sending hf, hb]
    simp only [State.hearOwn]
    rw [hw]
  refine ⟨_, w, rfl, hmarked, heq, fun ⟨e, he, htag, hs⟩ b hmem => ?_⟩
  rw [State.holderTake_bids rfl] at hbids
  have hretry : ∀ u : State, u.retryReoffer.hand.bids = u.hand.bids := by
    intro u
    unfold State.retryReoffer
    split
    · exact State.offerTest_bids u
    · rfl
  rw [heq, hretry] at hmem
  exact hbids ⟨e, he, htag, hs⟩ b ((State.settle_sends _ w).bids.subset hmem)

/-- The own TAKE for the node's own open offer of a bus is kept. -/
theorem State.ownTake_offer {o' : OpenOffer} {b : Nat} (ho : ((s.frameOut f).holderTake s.loader.address
      { tag := tag, bus := bus, value := v, resource := res, head := none }).hand.offer = some o')
    (hk : o'.key = .bus b) (hp : o'.phase = .bidding ∨ o'.phase = .takeWait) : s.frameHeard.hand.offer = some o' := by
  obtain ⟨t, w, ht, hmarked, heq, -⟩ := State.ownTake_frameHeard hf hb
  have hw : w.hand.offer = some o' := by rw [hmarked.offer, ← ht]; exact ho
  have hsettled := ((State.settle_tests (s.frameOut f) (State.owesReoffer_of_phase hw hp)).offer o' b hw hk).1
  rw [heq, State.retryReoffer_idle (State.owesReoffer_of_phase hsettled hp)]
  exact hsettled

/-- The own TAKE for the old number while a re-offer waits is committed at once. -/
theorem State.ownTake_commit {o : OpenOffer} {i : OutItem} {x : HeardTake} (hi : s.item? o.key = some i)
    (ht : (s.frameOut f).holderTake s.loader.address { tag := tag, bus := bus, value := v, resource := res, head := none }
      = (s.frameOut f).commit o x) :
    s.frameHeard.Closed True o.key ∧ ∀ place r, i.place = some place → i.cargo = .visit r →
      s.frameHeard.guide place = { code := .destination x.source x.resource, bus := some r.bus } := by
  obtain ⟨t, w, ht', hmarked, heq, -⟩ := State.ownTake_frameHeard hf hb
  rw [ht] at ht'
  subst ht'
  have hi' : (s.frameOut f).item? o.key = some i := hi
  have hclosed := (hmarked.closed _ _ (State.commit_closed hi' x)).settle (s.frameOut f)
  rw [heq]
  refine ⟨?_, fun place r hp hc => ?_⟩
  · unfold State.retryReoffer
    split
    · exact hclosed.offerTest
    · exact hclosed
  · have hguide : ∀ u : State, u.retryReoffer.guide place = u.guide place := by
      intro u
      unfold State.retryReoffer
      split
      · exact (State.offerTest_ends u).guide place
      · rfl
    rw [hguide, (State.settle_ends _ w).guide, hmarked.guide]
    exact State.commit_guide hi' hp hc x

end

end Sys2Proof.Machine

namespace Sys2Proof.Machine

open Sys2Proof

/-! ## A frame discarded at its second mismatch (R174) -/

theorem State.line_of_still {s t : State} (h : t.still = s.still) :
    t.line.conflict = s.line.conflict ∧ t.line.muted = s.line.muted ∧ t.line.sent = s.line.sent := by
  simp only [State.still, Prod.mk.injEq] at h
  obtain ⟨-, -, -, -, -, -, -, -, -, hc, hm, hs⟩ := h
  exact ⟨hc, hm, hs⟩

theorem State.flagConflict_eq (k d : Nat) (c : ConflictCause) (s : State) :
    s.flagConflict k d c = State.report (.lineConflict k d c) { s with line := { s.line with conflict := true } } := rfl

@[simp] theorem State.retryReoffer_sansOffers (s : State) : s.retryReoffer.sansOffers = s.sansOffers := by
  unfold State.retryReoffer
  split
  · exact State.offerTest_sansOffers s
  · rfl

/-- What the loss of the frame on the line leaves besides what its owner is told. -/
theorem State.discardSent_line (f : TxFrame) (s : State) : (s.discardSent f).line.conflict = true ∧
    (s.discardSent f).line.muted = s.line.muted ∧ (s.discardSent f).line.sent = s.line.sent := by
  obtain ⟨-, hmuted, hsent⟩ := State.line_of_still (State.tellDiscard_still f.body s)
  have hreport := State.report_eq (.lineConflict f.body.kind.code f.destination .readback)
    { s.tellDiscard f.body with line := { (s.tellDiscard f.body).line with conflict := true } }
  obtain ⟨hconf', hmuted', hsent'⟩ := State.line_of_still (State.retryReoffer_still
    (State.flagConflict f.body.kind.code f.destination .readback (s.tellDiscard f.body)))
  rw [State.discardSent, hconf', hmuted', hsent', State.flagConflict_eq, hreport]
  exact ⟨rfl, hmuted, hsent⟩

theorem State.active_of_steady {s t : State} (h : t.steady = s.steady) : t.active = s.active := by
  simp only [State.steady, Prod.mk.injEq] at h
  obtain ⟨-, -, hn, hr, -⟩ := h
  simp [State.active, hn, hr]

theorem State.discardSent_report (f : TxFrame) {s : State} (ha : s.active = true) :
    ∃ r ∈ (s.discardSent f).loader.reports, r.body = .lineConflict f.body.kind.code f.destination .readback := by
  have hactive : (s.tellDiscard f.body).active = true := (State.active_of_steady (State.tellDiscard_steady f.body s)).trans ha
  rw [State.discardSent, State.reports_of_offers (State.retryReoffer_sansOffers _), State.flagConflict_eq]
  exact ⟨_, State.mem_report _ _ hactive, rfl⟩

/-- Bids, entries and the hand stay as the owner left them. -/
theorem State.discardSent_rest (f : TxFrame) (s : State) :
    (s.discardSent f).hand.bids = (s.tellDiscard f.body).hand.bids ∧ (s.discardSent f).lanes = (s.tellDiscard f.body).lanes ∧
      ∀ p, (s.discardSent f).point p = (s.tellDiscard f.body).point p := by
  have hreport := State.report_eq (.lineConflict f.body.kind.code f.destination .readback)
    { s.tellDiscard f.body with line := { (s.tellDiscard f.body).line with conflict := true } }
  have hoff := State.retryReoffer_sansOffers (State.flagConflict f.body.kind.code f.destination .readback (s.tellDiscard f.body))
  refine ⟨?_, ?_, fun p => ?_⟩
  · rw [State.discardSent, State.bids_of_offers hoff, State.flagConflict_eq, hreport]
  · rw [State.discardSent, State.lanes_of_offers hoff, State.flagConflict_eq, hreport]
  · rw [State.discardSent, State.point_of_offers hoff, State.flagConflict_eq, hreport]
    cases p <;> rfl

/-- A BID discarded gives the bid up, a TAKE the claim (R32, R34). -/
theorem State.discardSent_claims (f : TxFrame) (s : State) :
    (∀ tag bus v head, f.body = .bid tag bus v head → ∀ e ∈ (s.discardSent f).hand.bids, e.tag ≠ tag) ∧
      (∀ tag bus v res head, f.body = .take tag bus v res head → (∀ e ∈ (s.discardSent f).hand.bids, e.tag ≠ tag) ∧
        (∀ e ∈ (s.discardSent f).laneEntries, e.state = .expected → e.tag ≠ some tag) ∧
        (∀ p, ∀ e ∈ ((s.discardSent f).point p).queue, e.state = .expected → e.tag ≠ some tag)) := by
  obtain ⟨hbids, hlanes, hpoint⟩ := s.discardSent_rest f
  refine ⟨fun tag bus v head hb e he => ?_, fun tag bus v res head hb => ?_⟩
  · rw [hbids, hb] at he
    exact (State.dropBid_settled tag s).2.1 e he
  · have hno : (s.tellDiscard f.body).NoClaim tag := by
      rw [hb]
      exact (State.dropClaim_noClaim tag s).of_yields (State.settle_yields s _)
    refine ⟨fun e he => hno.bids e (hbids ▸ he), fun e he hs => hno.lanes e ?_ (.inr hs),
      fun p e he hs => hno.queue p e (hpoint p ▸ he) (.inr hs)⟩
    rwa [State.laneEntries, hlanes] at he

theorem State.Past.of_loses {k : Nat} {s t : State} (h : s.Past k) (hl : s.Loses t) : t.Past k :=
  ⟨fun g hg => h.1 g (hl.frames.subset hg), by rw [hl.order]; exact h.2⟩

theorem State.Past.ownOfferDiscarded {k : Nat} {s : State} (h : s.Past k) (n : Nat) : (s.ownOfferDiscarded n).Past k := by
  unfold State.ownOfferDiscarded
  repeat' split
  · exact h
  · exact State.Past.offerTest (h.of_line rfl)
  · exact State.placeReoffer_frames (P := State.Past k) (fun h hl _ => h.of_line hl) (fun b d h => h.place b d) _ h
  · exact h

theorem State.Past.tellDiscard {k : Nat} {s : State} (h : s.Past k) (b : FrameBody) : (s.tellDiscard b).Past k := by
  cases b with
  | offer n _ _ => exact (h.ownOfferDiscarded n).settle s
  | bid tag _ _ _ => exact (h.of_loses (State.dropBid_loses tag s)).settle s
  | take tag _ _ _ _ => exact (h.of_loses (State.dropClaim_loses tag s)).settle s
  | report _ => exact h.of_line rfl
  | arrive _ _ _ _ _ => exact h
  | stray _ _ => exact h
  | record _ => exact h
  | call _ _ _ _ _ => exact h
  | gone _ _ _ _ _ _ => exact h

theorem State.Past.retryReoffer {k : Nat} {s : State} (h : s.Past k) : s.retryReoffer.Past k := by
  unfold State.retryReoffer
  split
  · exact h.offerTest
  · exact h

theorem State.Past.flagConflict {k : Nat} {s : State} (h : s.Past k) (kind d : Nat) (c : ConflictCause) :
    (s.flagConflict kind d c).Past k := by
  have hflag : State.Past k { s with line := { s.line with conflict := true } } := h
  exact hflag.report _

theorem State.Past.discardSent {k : Nat} {s : State} (h : s.Past k) (f : TxFrame) : (s.discardSent f).Past k :=
  State.Past.retryReoffer (State.Past.flagConflict (h.tellDiscard f.body) _ _ _)

/-- The frame out of the queue at its discard. -/
def State.mismatched (f : TxFrame) (s : State) : State :=
  { s with line := { s.line with transmit := s.line.transmit.filter (fun g => decide (g.order ≠ f.order)), sent := [] } }

theorem State.mismatch_of_second {s : State} {f : TxFrame} (hf : s.line.transmit.find? (fun x => x.sending) = some f)
    (hm : f.mismatches ≠ 0) : s.mismatch = (s.mismatched f).discardSent f := by
  have hs : s.sendingFrame = some f := hf
  simp only [State.mismatch, hs]
  rw [if_neg hm]
  rfl

theorem State.mismatched_past {s : State} {f : TxFrame} (h : f.order < s.line.nextOrder) : (s.mismatched f).Past f.order :=
  ⟨fun g hg => by simpa using (List.mem_filter.1 hg).2, h⟩

/-! ### A REPORT waits for the next quiet (R188) -/

theorem State.retryReoffer_retry {s : State} (h : s.loader.retryAtQuiet = true) : s.retryReoffer.loader.retryAtQuiet = true := by
  unfold State.retryReoffer
  split
  · refine State.offerTest_frames (P := fun u : State => u.loader.retryAtQuiet = true) (fun h _ hl => by rw [hl]; exact h)
      (fun {u} b d h => ?_) h
    rcases State.place_cases b d u with ⟨-, e⟩ | ⟨-, -, -, e⟩ | ⟨-, e⟩ <;> rw [e]
    · exact h
    · rfl
    · exact h
  · exact h

/-- A report placed behind others changes the report queue and the counts of it alone. -/
theorem State.report_behind {s : State} {r : Report} {rest : List Report} (ha : s.active = true) (hr : s.loader.reports = r :: rest)
    (hroom : s.loader.reports.length < Config.reportCapacity) (b : ReportBody) :
    s.report b = s.countReport.setReports (s.loader.reports ++ [s.newReport b]) := by
  have hne : s.loader.reports.isEmpty = false := by rw [hr]; rfl
  simp only [State.report, ha, State.newReport, if_pos hroom, hne]
  simp

theorem State.discardSent_of_report {s : State} {f : TxFrame} {r₀ r : Report} {rest : List Report} (ha : s.active = true)
    (hb : f.body = .report r₀) (hr : s.loader.reports = r :: rest) (hroom : s.loader.reports.length < Config.reportCapacity) :
    (s.discardSent f).loader.reports.head? = some r ∧ (s.discardSent f).loader.retryAtQuiet = true := by
  have htold : s.tellDiscard f.body = { s with loader := { s.loader with retryAtQuiet := true } } := by rw [hb]; rfl
  have hreport := State.report_behind (s := { s with line := { s.line with conflict := true }, loader := { s.loader with retryAtQuiet := true } })
    (r := r) (rest := rest) ha hr hroom (.lineConflict f.body.kind.code f.destination .readback)
  rw [State.discardSent, htold, State.flagConflict_eq, hreport]
  refine ⟨?_, State.retryReoffer_retry rfl⟩
  rw [State.reports_of_offers (State.retryReoffer_sansOffers _)]
  simp [State.setReports, hr]

end Sys2Proof.Machine

namespace Sys2Proof.Machine

open Sys2Proof

/-! ### A queued OFFER is closed, a waiting re-offer placed again (R25, R28, R174) -/

/-- A frame that no other displaces outlives a report. -/
theorem State.report_keeps_frame {x : TxFrame} (hx : x.displaceable = false) (b : ReportBody) {s : State}
    (h : x ∈ s.line.transmit) : x ∈ (s.report b).line.transmit := by
  have hhead : ∀ u : State, x ∈ u.line.transmit → x ∈ u.placeHeadReport.line.transmit := by
    intro u hu
    unfold State.placeHeadReport
    repeat' split
    · exact hu
    · exact hu
    · exact State.place_keeps (s := u.setRetry (!u.canPlace .low)) hu hx
  unfold State.report
  dsimp only
  split
  · exact h
  · split
    · split
      · exact hhead _ h
      · exact h
    · split
      · exact h
      · refine hhead _ (State.mem_dropFrames.2 ⟨h, ?_⟩)
        by_contra hnot
        obtain ⟨hs, hr⟩ := not_or.1 hnot
        cases hb : x.body <;> simp [hb, FrameBody.isReport] at hr
        simp [TxFrame.displaceable, TxFrame.cls, hb, FrameBody.kind, FrameKind.cls, hs] at hx

/-- With no re-offer owed, the hand and the OFFERs stay as the owner of the frame left them. -/
theorem State.discardSent_hand {f : TxFrame} {s : State} (h : (s.tellDiscard f.body).owesReoffer = false) :
    (s.discardSent f).hand = (s.tellDiscard f.body).hand ∧
      ∀ x ∈ (s.tellDiscard f.body).line.transmit, x.body.isOffer = true → x ∈ (s.discardSent f).line.transmit := by
  have hhand : (State.flagConflict f.body.kind.code f.destination .readback (s.tellDiscard f.body)).hand
      = (s.tellDiscard f.body).hand := by
    rw [State.flagConflict_eq, State.report_eq]
  rw [State.discardSent, State.retryReoffer_idle (by rw [State.owesReoffer, hhand]; exact h)]
  refine ⟨hhand, fun x hx ho => ?_⟩
  rw [State.flagConflict_eq]
  exact State.report_keeps_frame (TxFrame.displaceable_of_offer ho) _ hx

/-- The node whose queued OFFER is discarded, before the test of R23: no offer open, the item as it was before it. -/
def State.unoffered (o : OpenOffer) (s : State) : State :=
  (s.setOffer none).modItem o.key (fun i => { i with offerCount := o.countBefore })

theorem State.canPlace_mismatched {s : State} {f : TxFrame} (hf : s.line.transmit.find? (fun x => x.sending) = some f)
    (hroom : s.line.transmit.length + s.line.muted.toList.length ≤ Config.transmitCapacity) :
    (s.mismatched f).canPlace .normal = true := by
  have hmem := List.mem_of_find?_eq_some hf
  have hlt : (s.line.transmit.filter (fun g => decide (g.order ≠ f.order))).length < s.line.transmit.length := by
    refine List.length_filter_lt_length_iff_exists.2 ⟨f, hmem, by simp⟩
  have hless : ¬ Config.transmitCapacity ≤ (s.line.transmit.filter (fun g => decide (g.order ≠ f.order))).length
      + s.line.muted.toList.length := by omega
  have hnot : (s.mismatched f).transmitFull = false := decide_eq_false hless
  simp [State.canPlace, hnot]

/-- Whether a node is out of service, with no offer open and its counter at `c`. -/
def State.Unready (c : Nat) (s : State) : Prop := s.inService = false ∧ s.hand.offer = none ∧ s.hand.counter = c

theorem State.dropRuns_no_offer (runs : List Nat) : ∀ {s : State}, s.hand.offer = none → (s.dropRuns runs).hand.offer = none := by
  induction runs with
  | nil => exact fun h => h
  | cons r runs ih => exact fun h => ih (by simp [State.removeItem, State.cancelOffer, h])

theorem State.Unready.withdrawSwaps {c : Nat} {s : State} (h : s.Unready c) : s.withdrawSwaps.Unready c := by
  obtain ⟨hs, ho, hc⟩ := h
  have hservice := (State.withdrawSwaps_ends s).inService.trans hs
  rcases State.withdrawSwaps_cases s with ⟨-, e⟩ | ⟨-, e⟩
  · rw [e]; exact ⟨hs, ho, hc⟩
  · have hnone := State.dropRuns_no_offer s.deadSwaps ho
    have hdropped : (s.dropRuns s.deadSwaps).inService = false :=
      (State.offerTest_ends (s.dropRuns s.deadSwaps)).inService.symm.trans (by rw [← e]; exact hservice)
    rw [e, State.offerTest_idle (by simp [State.owesReoffer, hnone]) (.inl hdropped)]
    exact ⟨hdropped, hnone, (State.dropRuns_counter _ _).trans hc⟩

/-- At a node out of service no offer is started at the end of an event. -/
theorem State.Unready.settle {c : Nat} {s : State} (h : s.Unready c) (before : State) : (State.settle before s).Unready c := by
  have hlost : s.dropLostHeads.Unready c :=
    ⟨(State.dropLostHeads_ends s).inService.trans h.1, by rw [State.dropLostHeads_hand]; exact h.2⟩
  refine State.settle_induction (P := State.Unready c) hlost.withdrawSwaps (fun t n ht => ?_)
  have hsame : t.headTest n = t := by simp [State.headTest, ht.1]
  rw [hsame]; exact ht

/-! ### The outbound list in its order (R21, R22) -/

theorem insertItem_of_after {i : OutItem} {l : List OutItem} (h : ∀ x ∈ l, x.before i = true) : insertItem i l = l ++ [i] := by
  induction l with
  | nil => rfl
  | cons x xs ih =>
    rw [insertItem, if_pos (h x (by simp)), ih (fun y hy => h y (by simp [hy]))]
    rfl

/-- A list in its order stays as it is. -/
theorem sortItems_of_pairwise {l : List OutItem} (h : l.Pairwise (fun x y => x.before y = true)) : sortItems l = l := by
  have hfold : ∀ (rest acc : List OutItem), (acc ++ rest).Pairwise (fun x y => x.before y = true) →
      rest.foldl (fun acc i => insertItem i acc) acc = acc ++ rest := by
    intro rest
    induction rest with
    | nil => simp
    | cons x xs ih =>
      intro acc hp
      rw [List.foldl_cons, insertItem_of_after (fun y hy => (List.pairwise_append.1 hp).2.2 y hy x (by simp)),
        ih _ (by simpa using hp)]
      simp
  exact hfold l [] h

/-- Changing offer counts leaves the order of the list. -/
theorem State.modItem_outbound_of_pairwise {s : State} {k : ItemKey} {f : OutItem → OutItem}
    (hf : ∀ i, (f i).ready = i.ready ∧ (f i).joinOrder = i.joinOrder)
    (h : s.hand.outbound.Pairwise (fun x y => x.before y = true)) :
    (s.modItem k f).hand.outbound = s.hand.outbound.map (fun i => if i.key = k then f i else i) := by
  have hg : ∀ i : OutItem, (if i.key = k then f i else i).ready = i.ready ∧ (if i.key = k then f i else i).joinOrder = i.joinOrder := by
    intro i
    split
    · exact hf i
    · exact ⟨rfl, rfl⟩
  refine sortItems_of_pairwise (List.pairwise_map.2 (h.imp (fun {x y} hxy => ?_)))
  rw [OutItem.before, (hg x).1, (hg x).2, (hg y).1, (hg y).2]
  exact hxy

end Sys2Proof.Machine

namespace Sys2Proof.Machine

open Sys2Proof

theorem State.deadSwaps_eq_nil_iff (s : State) :
    s.deadSwaps = [] ↔ ∀ i ∈ s.hand.outbound, ∀ r, i.swapRun? = some r → s.asksFor r = true := by
  simp only [State.deadSwaps, List.filter_eq_nil_iff, List.mem_filterMap, Bool.not_eq_true', Bool.not_eq_false, forall_exists_index,
    and_imp]
  exact ⟨fun h i hi r hr => h r i hi hr, fun h r i hi hr => h i hi r hr⟩

/-- An event ends with nothing done where it has changed no lane and no bid, each head stands where its bid names it, and every
swap request is asked for. -/
theorem State.settle_nothing {before s : State} (hl : s.lanes = before.lanes) (hb : s.hand.bids = before.hand.bids)
    (hheads : ∀ b ∈ before.hand.bids, ∀ h, b.head = some h → before.isParkedHead b.resource h.bus = true)
    (ho : ∀ o r, before.hand.offer = some o → o.key ≠ .swapRun r) (hd : s.deadSwaps = []) :
    (State.settle before s).hand = s.hand ∧ (State.settle before s).line = s.line := by
  have hkept : before.HeadsKept s := .of_lanes hl
  have hlost : s.lostBids = [] := State.lostBids_eq_nil (fun b hb' x hx => hkept.isParkedHead (hheads b (hb ▸ hb') x hx))
  have hnone : s.removeBids s.lostBids = s := by rw [hlost]; rfl
  have hdrop : s.dropLostHeads.hand = s.hand ∧ s.dropLostHeads.line = s.line := by
    rcases State.dropLostHeads_cases s with ⟨-, e⟩ | e <;> rw [e, hnone]
    · exact ⟨rfl, rfl⟩
    · exact ⟨rfl, rfl⟩
  have hdead : s.dropLostHeads.deadSwaps = [] := by
    rw [State.deadSwaps_eq_nil_iff] at hd ⊢
    intro i hi r hr
    rw [hdrop.1] at hi
    obtain ⟨e, he, ha⟩ := List.any_eq_true.1 (hd i hi r hr)
    obtain ⟨y, hy, heq⟩ := State.dropLostHeads_laneEntries_mem he
    exact List.any_eq_true.2 ⟨y, hy, by rw [heq]; exact ha⟩
  rw [State.settle_of_kept (fun n => State.lostEntry_eq_false (fun l l' h h' e he => ?_)) hkept
    (fun b hb' h hh => ⟨b, hb ▸ hb', hh⟩) hlost (fun o r h hk _ => absurd hk (ho o r h))]
  · rcases State.withdrawSwaps_cases s.dropLostHeads with ⟨-, e⟩ | ⟨h, -⟩
    · rw [e]; exact hdrop
    · exact absurd hdead h
  · rw [hl, h] at h'
    cases h'
    exact ⟨e, he, rfl⟩

/-- The head that is ready is offered, where the transmit queue has room (R23). -/
theorem State.offerTest_head {s : State} {it : OutItem} {rest : List OutItem} (hs : s.inService = true)
    (ho : s.hand.offer = none) (hl : s.hand.outbound = it :: rest) (hr : it.ready ≤ s.clock.m) (hroom : s.canPlace .normal = true) :
    s.offerTest.hand.offer = some { number := s.hand.counter, phase := .queued, key := it.key, countBefore := it.offerCount
                                    reNumber := 0, takes := [] } ∧
      s.offerTest.hand.counter = nextOfferNumber s.hand.counter ∧
      ∃ x ∈ s.offerTest.line.transmit, x.body = .offer s.hand.counter it.lastNumber it.cargo ∧ x.destination = 15 := by
  rw [State.offerTest_of_ready hs ho hl hr, State.startOffer_of_room hroom, State.send_hand]
  exact ⟨rfl, rfl, _, State.mem_place _ _ _ hroom, rfl, rfl⟩

/-- The head of the list once the item of a discarded OFFER is as it was before it. -/
theorem State.unoffered_head {s : State} {o : OpenOffer} {it : OutItem} {rest : List OutItem}
    (hsort : s.hand.outbound.Pairwise (fun x y => x.before y = true)) (hl : s.hand.outbound = it :: rest) :
    ∃ it' rest', (s.unoffered o).hand.outbound = it' :: rest' ∧ it'.key = it.key ∧ it'.ready = it.ready ∧
      it'.lastNumber = it.lastNumber ∧ it'.cargo = it.cargo ∧
      it'.offerCount = if it.key = o.key then o.countBefore else it.offerCount := by
  have hlist : (s.unoffered o).hand.outbound = s.hand.outbound.map (fun i =>
      if i.key = o.key then { i with offerCount := o.countBefore } else i) :=
    State.modItem_outbound_of_pairwise (s := s.setOffer none) (f := fun i => { i with offerCount := o.countBefore })
      (fun _ => ⟨rfl, rfl⟩) hsort
  rw [hl, List.map_cons] at hlist
  refine ⟨_, _, hlist, ?_⟩
  split <;> exact ⟨rfl, rfl, rfl, rfl, rfl⟩

section
variable {s : State} {f : TxFrame} {n sup b : Nat} {cargo : Cargo} {o : OpenOffer}
  (hb : f.body = .offer n sup cargo) (ho : s.hand.offer = some o)

section
variable (hp : o.phase = .queued) (hn : o.number = n)
include hb ho hp hn

theorem State.tellDiscard_queued :
    (s.mismatched f).tellDiscard f.body = State.settle (s.mismatched f) ((s.mismatched f).unoffered o).offerTest := by
  have ho' : (s.mismatched f).hand.offer = some o := ho
  rw [hb]
  simp only [State.tellDiscard, State.ownOfferDiscarded, ho']
  rw [if_pos ⟨hp, hn⟩]
  rfl

theorem State.discardSent_queued :
    ((s.mismatched f).unoffered o).Tests ((s.mismatched f).tellDiscard f.body) ∧
      ((s.mismatched f).discardSent f).hand = ((s.mismatched f).tellDiscard f.body).hand ∧
      ∀ x ∈ ((s.mismatched f).tellDiscard f.body).line.transmit, x.body.isOffer = true →
        x ∈ ((s.mismatched f).discardSent f).line.transmit := by
  have htests : ((s.mismatched f).unoffered o).Tests ((s.mismatched f).tellDiscard f.body) := by
    rw [State.tellDiscard_queued hb ho hp hn]
    exact State.settled_tests _ rfl
  exact ⟨htests, State.discardSent_hand htests.owes⟩

/-- The item is in the list as it was before its OFFER, or is offered anew. -/
theorem State.discardSent_queued_item {i : OutItem} (hk : o.key = .bus b) (hi : s.item? o.key = some i) :
    ∃ j ∈ ((s.mismatched f).discardSent f).hand.outbound, j.key = o.key ∧ j.cargo = i.cargo ∧ j.ready = i.ready ∧
      j.joinOrder = i.joinOrder ∧ j.place = i.place ∧ j.lastNumber = i.lastNumber ∧ (j.offerCount = o.countBefore ∨
        (j.offerCount = 1 ∧ ∃ o', ((s.mismatched f).discardSent f).hand.offer = some o' ∧ o'.key = o.key)) := by
  obtain ⟨htests, hhand, -⟩ := State.discardSent_queued hb ho hp hn
  obtain ⟨hmem, hkey⟩ := State.item?_spec hi
  obtain ⟨r, hr⟩ := State.item?_bus_visit (hk ▸ hi)
  have hbefore : { i with offerCount := o.countBefore } ∈ ((s.mismatched f).unoffered o).hand.outbound :=
    State.mem_modItem.2 ⟨i, hmem, by rw [if_pos hkey]⟩
  rw [hhand]
  rcases htests.opened _ hbefore r hr with h | ⟨h, o', ho', hk'⟩
  · exact ⟨_, h, hkey, rfl, rfl, rfl, rfl, rfl, .inl rfl⟩
  · exact ⟨_, h, hkey, rfl, rfl, rfl, rfl, rfl, .inr ⟨rfl, o', ho', hk'.trans hkey⟩⟩

/-- Out of service no offer follows. -/
theorem State.discardSent_queued_out (hs : s.inService = false) : ((s.mismatched f).discardSent f).hand.offer = none ∧
    ((s.mismatched f).discardSent f).hand.counter = s.hand.counter := by
  obtain ⟨-, hhand, -⟩ := State.discardSent_queued hb ho hp hn
  have hunready : ((s.mismatched f).unoffered o).Unready s.hand.counter := ⟨hs, rfl, rfl⟩
  rw [hhand, State.tellDiscard_queued hb ho hp hn, State.offerTest_idle (by rfl) (.inl hunready.1)]
  exact (hunready.settle _).2

/-- In service the end of the event adds nothing to the test of R23. -/
theorem State.discardSent_queued_in (hk : o.key = .bus b) (hd : s.deadSwaps = [])
    (hheads : ∀ x ∈ s.hand.bids, ∀ h, x.head = some h → s.isParkedHead x.resource h.bus = true) :
    ((s.mismatched f).discardSent f).hand = ((s.mismatched f).unoffered o).offerTest.hand ∧
      ∀ x ∈ ((s.mismatched f).unoffered o).offerTest.line.transmit, x.body.isOffer = true →
        x ∈ ((s.mismatched f).discardSent f).line.transmit := by
  obtain ⟨-, hhand, hframes⟩ := State.discardSent_queued hb ho hp hn
  have hlanes := State.lanes_of_offers (State.offerTest_sansOffers ((s.mismatched f).unoffered o))
  obtain ⟨hsettled, hline⟩ := State.settle_nothing (before := s.mismatched f) (s := ((s.mismatched f).unoffered o).offerTest)
    hlanes (State.offerTest_bids _) hheads (fun o' r h hk' => by
      obtain rfl := Option.some.inj (ho.symm.trans h)
      rw [hk] at hk'; cases hk') (by
      rw [State.deadSwaps_eq_nil_iff] at hd ⊢
      intro i hi r hr
      obtain ⟨j, hj, hji⟩ := (State.offerTest_tests (s := (s.mismatched f).unoffered o) rfl).from_ i hi
      obtain ⟨x, hx, rfl⟩ := State.mem_modItem.1 hj
      have hcargo : i.cargo = x.cargo := by
        have hx' : (if x.key = o.key then { x with offerCount := o.countBefore } else x).cargo = x.cargo := by split <;> rfl
        rcases hji with rfl | rfl <;> exact hx'
      have hasks := hd x hx r (by rw [← hr, OutItem.swapRun?, OutItem.swapRun?, hcargo])
      rw [State.asksFor, State.laneEntries, hlanes]
      exact hasks)
  rw [hhand, State.tellDiscard_queued hb ho hp hn]
  refine ⟨hsettled, fun x hx hoff => hframes x ?_ hoff⟩
  rw [State.tellDiscard_queued hb ho hp hn, hline]
  exact hx

/-- The head that is ready is offered under the next number (R23, R25). -/
theorem State.discardSent_queued_next {it : OutItem} {rest : List OutItem} (hk : o.key = .bus b) (hd : s.deadSwaps = [])
    (hheads : ∀ x ∈ s.hand.bids, ∀ h, x.head = some h → s.isParkedHead x.resource h.bus = true) (hs : s.inService = true)
    (hsort : s.hand.outbound.Pairwise (fun x y => x.before y = true)) (hl : s.hand.outbound = it :: rest)
    (hroom : (s.mismatched f).canPlace .normal = true) :
    (it.ready ≤ s.clock.m →
      ((s.mismatched f).discardSent f).hand.offer = some { number := s.hand.counter, phase := .queued, key := it.key
                                                           countBefore := if it.key = o.key then o.countBefore else it.offerCount
                                                           reNumber := 0, takes := [] } ∧
      ((s.mismatched f).discardSent f).hand.counter = nextOfferNumber s.hand.counter ∧
      ∃ x ∈ ((s.mismatched f).discardSent f).line.transmit, x.body = .offer s.hand.counter it.lastNumber it.cargo ∧
        x.destination = 15) ∧
      (s.clock.m < it.ready → ((s.mismatched f).discardSent f).hand.offer = none ∧
        ((s.mismatched f).discardSent f).hand.counter = s.hand.counter) := by
  obtain ⟨hhand, hframes⟩ := State.discardSent_queued_in hb ho hp hn hk hd hheads
  obtain ⟨it', rest', hlist, hit⟩ := State.unoffered_head (s := s.mismatched f) (o := o) hsort hl
  obtain ⟨hkey, hready, hlast, hcargo, hcount⟩ := hit
  refine ⟨fun hr => ?_, fun hr => ?_⟩
  · obtain ⟨hoffer, hcounter, x, hx, hbody, hdest⟩ := State.offerTest_head (s := (s.mismatched f).unoffered o) hs rfl hlist
      (by rw [hready]; exact hr) hroom
    rw [hkey, hcount] at hoffer
    rw [hlast, hcargo] at hbody
    rw [hhand]
    exact ⟨hoffer, hcounter, x, hframes x hx (by rw [hbody]; rfl), hbody, hdest⟩
  · have hidle : ((s.mismatched f).unoffered o).offerTest = (s.mismatched f).unoffered o :=
      State.offerTest_idle rfl (.inr (.inr (.inr ⟨it', rest', hlist, by rw [hready]; exact hr⟩)))
    rw [hhand, hidle]
    exact ⟨rfl, rfl⟩

end

/-- A re-offer that waits is placed again under the next number (R28). -/
theorem State.discardSent_reoffer {i : OutItem} (hb : f.body = .offer n sup cargo) (ho : s.hand.offer = some o)
    (hp : o.phase = .reofferQueued) (hn : o.reNumber = n)
    (hk : o.key = .bus b) (hi : s.item? o.key = some i) (hroom : (s.mismatched f).canPlace .normal = true)
    (hc : 1 ≤ s.hand.counter) :
    ((s.mismatched f).discardSent f).hand.offer = some { o with reNumber := s.hand.counter } ∧
      ((s.mismatched f).discardSent f).hand.counter = nextOfferNumber s.hand.counter ∧
      (∃ j ∈ ((s.mismatched f).discardSent f).hand.outbound, j.key = o.key ∧ j.cargo = i.cargo ∧ j.offerCount = 2) ∧
      ∃ x ∈ ((s.mismatched f).discardSent f).line.transmit, x.body = .offer s.hand.counter o.number i.cargo ∧ x.destination = 15 := by
  have ho' : (s.mismatched f).hand.offer = some o := ho
  have hi' : (s.mismatched f).item? o.key = some i := hi
  have htold : (s.mismatched f).tellDiscard f.body = State.settle (s.mismatched f) ((s.mismatched f).placeReoffer o) := by
    rw [hb]
    simp only [State.tellDiscard, State.ownOfferDiscarded, ho']
    rw [if_neg (by simp [hp]), if_pos ⟨hp, hn⟩]
  have hplaced := State.placeReoffer_of_room hi' hroom
  obtain ⟨hmem, hkey⟩ := State.item?_spec hi
  obtain ⟨r, hr⟩ := State.item?_bus_visit (hk ▸ hi)
  have hoffer : ((s.mismatched f).placeReoffer o).hand.offer = some { o with reNumber := s.hand.counter } := by
    rw [hplaced, State.send_hand, ← hp]
    rfl
  have howes : ((s.mismatched f).placeReoffer o).owesReoffer = false := by
    rw [State.owesReoffer, hoffer]
    simp only [Option.any_some, Bool.and_eq_false_iff, decide_eq_false_iff_not]
    exact .inr (by omega)
  have hitem : { i with offerCount := 2 } ∈ ((s.mismatched f).placeReoffer o).hand.outbound := by
    rw [hplaced, State.send_hand]
    exact State.mem_modItem.2 ⟨i, hmem, by rw [if_pos hkey]⟩
  have htests := State.settle_tests (s.mismatched f) howes
  obtain ⟨hoff, hcount⟩ := htests.offer _ b hoffer hk
  have hheld := htests.held _ b hoffer hk _ hitem r hr
  have hframe := htests.frames _ b hoffer hk _ (by rw [hplaced]; exact State.mem_place _ _ _ hroom) rfl
  rw [← htold] at hoff hcount hheld hframe
  obtain ⟨hhand, hframes⟩ := State.discardSent_hand (f := f) (s := s.mismatched f) (by rw [htold]; exact htests.owes)
  rw [hhand]
  refine ⟨hoff, ?_, ⟨_, hheld, hkey, rfl, rfl⟩, _, hframes _ hframe rfl, rfl, rfl⟩
  rw [hcount, hplaced, State.send_hand]
  rfl

end

end Sys2Proof.Machine

namespace Sys2Proof.Machine

open Sys2Proof

/-! ## The cases of the node's own frame -/

theorem State.frameHeard_of_muted {s : State} {f : TxFrame} (hx : ∀ x ∈ s.line.transmit, x.sending = false)
    (hm : s.line.muted = some f) (hs : f.sending = true) (hr : s.owesReoffer = false) :
    s.frameHeard = { s with line := { s.line with muted := none, sent := [], receiver := .ignoring } } := by
  simp only [State.frameHeard, State.sendingFrame_eq_none hx, hm, if_pos hs]
  exact State.retryReoffer_idle hr

theorem State.frameHeard_of_none {s : State} (hx : ∀ x ∈ s.line.transmit, x.sending = false) (hm : s.line.muted = none) :
    s.frameHeard = s := by
  simp only [State.frameHeard, State.sendingFrame_eq_none hx, hm]

theorem State.mismatch_of_none {s : State} (hx : ∀ x ∈ s.line.transmit, x.sending = false) (hm : s.line.muted = none) :
    s.mismatch = s := by
  simp only [State.mismatch, State.sendingFrame_eq_none hx, hm]

/-- The own BID heard. -/
theorem State.frameHeard_of_bid {s : State} {f : TxFrame} {tag : Tag} {bus v : Nat} {head : Option HeadFields}
    (hf : s.line.transmit.find? (fun x => x.sending) = some f) (hr : s.owesReoffer = false) (hb : f.body = .bid tag bus v head) :
    s.frameHeard = { s.frameOut f with hand := { s.hand with
      bids := s.hand.bids.map (fun e => if e.tag = tag ∧ e.state = .computed then
        { e with state := .sent, heard := e.heard ++ [(v, s.loader.address)] } else e) } } := by
  rw [State.frameHeard_of_sending hf, hb]
  exact State.retryReoffer_idle hr

theorem State.frameHeard_of_report {s : State} {f : TxFrame} {r : Report} (hf : s.line.transmit.find? (fun x => x.sending) = some f)
    (hr : s.owesReoffer = false) (hb : f.body = .report r) : s.frameHeard = (s.frameOut f).popReport := by
  rw [State.frameHeard_of_sending hf, hb]
  have hhand := (State.popReport_rest (s.frameOut f)).2.1
  refine State.retryReoffer_idle ?_
  show (s.frameOut f).popReport.owesReoffer = false
  rw [State.owesReoffer, hhand]
  exact hr

/-- The own TAKE, with an open offer of a bus. -/
theorem State.frameHeard_of_take {s : State} {f : TxFrame} {tag : Tag} {bus v b : Nat} {res : Resource} {o : OpenOffer}
    (hf : s.line.transmit.find? (fun x => x.sending) = some f) (hb : f.body = .take tag bus v res none)
    (ho : s.hand.offer = some o) (hk : o.key = .bus b) (hp : o.phase = .bidding ∨ o.phase = .takeWait) :
    (tag = { holder := s.loader.address, number := o.number } → bus = b → s.frameHeard.hand.offer =
      some { o with takes := o.takes ++ [{ source := s.loader.address, value := v, bus := bus, resource := res, head := none }] }) ∧
    (tag ≠ { holder := s.loader.address, number := o.number } ∨ bus ≠ b → s.frameHeard.hand.offer = some o) := by
  have ho' : (s.frameOut f).hand.offer = some o := ho
  have hnot : o.phase ≠ .queued ∧ o.phase ≠ .reofferQueued := by
    rcases hp with h | h <;> simp [h]
  refine ⟨fun htag hbus => ?_, fun hne => ?_⟩
  · have htake := State.holderTake_of_fits (source := s.loader.address)
      (g := { tag := tag, bus := bus, value := v, resource := res, head := none }) ho' htag hnot.1 hnot.2
      (by simp [TakeFields.fitsKey, hk, hbus])
    exact State.ownTake_offer hf hb (by rw [htake]; rfl) hk hp
  · have htake := State.holderTake_of_not (source := s.loader.address)
      (g := { tag := tag, bus := bus, value := v, resource := res, head := none }) ho' (by
        rcases hne with h | h
        · exact .inl h
        · exact .inr (by simp [TakeFields.fitsKey, hk, h]))
    exact State.ownTake_offer hf hb (by rw [htake]; exact ho') hk hp

/-- The own OFFER of a bus, and of a swap request while its entry asks, opens its bid window. -/
theorem State.ownOffer_of_bus {s : State} {f : TxFrame} {n sup b : Nat} {cargo : Cargo} {o : OpenOffer}
    (hf : s.line.transmit.find? (fun x => x.sending) = some f) (hb : f.body = .offer n sup cargo) (ho : s.hand.offer = some o)
    (hk : o.key = .bus b) (hn : n ≠ 0) (hp : (o.phase = .queued ∧ o.number = n) ∨ (o.phase = .reofferQueued ∧ o.reNumber = n)) :
    s.frameHeard.hand.offer = some (o.heard n) ∧ (∀ i ∈ s.frameHeard.hand.outbound, i.key = o.key → i.lastNumber = n) ∧
      s.frameHeard.hand.counter = s.hand.counter := by
  refine State.ownOffer_frameHeard hf hb ho hn hp (fun u w _ hoff hcount hy => ?_)
  have hw : w.hand.offer = some (o.heard n) := by rw [hy.hand]; exact hoff
  obtain ⟨h, hc⟩ := (State.settle_tests u (State.owesReoffer_of_phase hw (.inl rfl))).offer (o.heard n) b hw hk
  exact ⟨h, by rw [hc, hy.hand]; exact hcount⟩

theorem State.ownOffer_of_swap {s : State} {f : TxFrame} {n sup run : Nat} {cargo : Cargo} {o : OpenOffer}
    (hf : s.line.transmit.find? (fun x => x.sending) = some f) (hb : f.body = .offer n sup cargo) (ho : s.hand.offer = some o)
    (hk : o.key = .swapRun run) (ha : s.asksFor run = true)
    (hbuses : ∀ l ∈ s.lanes, (l.entries.map (fun e => e.visit.bus)).Nodup) (hn : n ≠ 0)
    (hp : (o.phase = .queued ∧ o.number = n) ∨ (o.phase = .reofferQueued ∧ o.reNumber = n)) :
    s.frameHeard.hand.offer = some (o.heard n) ∧ (∀ i ∈ s.frameHeard.hand.outbound, i.key = o.key → i.lastNumber = n) ∧
      s.frameHeard.hand.counter = s.hand.counter := by
  refine State.ownOffer_frameHeard hf hb ho hn hp (fun u w hlanes hoff hcount hy => ?_)
  have hu : u.Asking (o.heard n) s.hand.counter run :=
    ⟨hoff, hcount, by rw [State.asksFor, State.laneEntries, hlanes]; exact ha, by rw [hlanes]; exact hbuses⟩
  have hend := State.Asking.settle (o := o.heard n) (.inl rfl) hk (hu.yielded hy) u
  exact ⟨hend.offer, hend.counter⟩

end Sys2Proof.Machine

namespace Sys2Proof

open Sys2Proof.Machine

/-- Settles O60: each kind of frame by what its block makes of it heard or discarded; the report of the conflict and a
re-offer tried again touch neither. -/
theorem ownFramesAreHeardOrRetried : Obligations.OwnFramesAreHeardOrRetried := by
  refine ⟨fun s ha => ?_, fun s ha => ⟨fun hx hm => ?_, fun f hx hm hs => ⟨fun h0 => ?_, fun h1 _ => ?_⟩,
    fun f hf => ⟨fun h0 => ?_, fun h1 hord hroom => ?_⟩⟩⟩
  · dsimp only
    rw [exec_frameHeard ha]
    refine ⟨fun hx hm => by rw [State.frameHeard_of_none hx hm],
      fun f hx hm hs hr => by rw [State.frameHeard_of_muted hx hm hs hr],
      fun f hf hr => ⟨fun hk => ?_, fun tag bus v head hb => by rw [State.frameHeard_of_bid hf hr hb]; rfl, fun r hb => ?_⟩,
      fun f n sup cargo o b hf hb ho hk hn hp => ⟨_, rfl, by simp, State.ownOffer_of_bus hf hb ho hk hn hp⟩,
      fun f n sup cargo o run hf hb ho hk hask hn hbuses hp =>
        ⟨_, rfl, by simp, State.ownOffer_of_swap hf hb ho hk hask hbuses hn hp⟩,
      fun f tag bus v res hf hb _ => ?_, fun f tag bus v res o b hf hb ho hk => ?_⟩
    · rw [State.frameHeard_of_sending hf, State.hearOwn_of_sent hk]
      exact congrArg _ (State.retryReoffer_idle hr)
    · rw [State.frameHeard_of_report hf hr hb]
      obtain ⟨h1, h2, h3, h4, h5⟩ := State.popReport_rest (s.frameOut f)
      exact ⟨_, rfl, h1, h2, h3, fun p => (h4 p).trans (by cases p <;> rfl), h5⟩
    · obtain ⟨t, w, -, -, -, hbids⟩ := State.ownTake_frameHeard hf hb
      exact ⟨_, rfl, by simp, hbids⟩
    · obtain ⟨t, w, -, -, -, hbids⟩ := State.ownTake_frameHeard hf hb
      refine ⟨_, rfl, by simp, hbids, fun hp => State.frameHeard_of_take hf hb ho hk hp, fun i hp htag hbus hi => ?_⟩
      have htake := State.holderTake_of_reoffer (source := s.loader.address) (s := s.frameOut f)
        (g := { tag := tag, bus := bus, value := v, resource := res, head := none }) ho htag hp
        (by simp [TakeFields.fitsKey, hk, hbus])
      obtain ⟨hclosed, hguide⟩ := State.ownTake_commit hf hb hi htake
      refine ⟨hclosed.items, hclosed.offer, fun y hy n sup hbody => hclosed.frames trivial y hy n sup i.cargo hbody ?_, hguide⟩
      rw [← OutItem.key_eq]
      exact (State.item?_spec hi).2
  · rw [exec_mismatch ha, State.mismatch_of_none hx hm]
  · rw [exec_mismatch ha]
    simp only [State.mismatch, State.sendingFrame_eq_none hx, hm, hs, h0]
    simp [hs]
  · have hdiscard : s.mismatch = State.discardSent f { s with line := { s.line with muted := none, sent := [] } } := by
      simp only [State.mismatch, State.sendingFrame_eq_none hx, hm, hs]
      simp [h1]
    obtain ⟨hconf, hmuted, hsent⟩ := State.discardSent_line f { s with line := { s.line with muted := none, sent := [] } }
    obtain ⟨hbid, htake⟩ := State.discardSent_claims f { s with line := { s.line with muted := none, sent := [] } }
    have hsteady : (State.discardSent f { s with line := { s.line with muted := none, sent := [] } }).steady = s.steady := by
      simp [State.discardSent]; rfl
    rw [exec_mismatch ha, hdiscard]
    exact ⟨_, rfl, hsteady, hconf, hmuted, hsent, State.discardSent_report f ha, hbid, htake⟩
  · have hs : s.sendingFrame = some f := hf
    rw [exec_mismatch ha]
    simp only [State.mismatch, hs, if_pos h0]
  · have hactive : (s.mismatched f).active = true := ha
    obtain ⟨hconf, -, hsent⟩ := State.discardSent_line f (s.mismatched f)
    obtain ⟨hbid, htake⟩ := State.discardSent_claims f (s.mismatched f)
    have hsteady : ((s.mismatched f).discardSent f).steady = s.steady := by simp [State.discardSent]; rfl
    rw [exec_mismatch ha, State.mismatch_of_second hf h1]
    refine ⟨_, rfl, hsteady, hconf, hsent, ((State.mismatched_past hord).discardSent f).1, State.discardSent_report f hactive, hbid, htake,
      fun r rest hb hrep => State.discardSent_of_report hactive hb hrep hroom, fun n sup cargo o b i hb ho hk hi hcap => ?_⟩
    have hplace := State.canPlace_mismatched hf hcap
    refine ⟨fun hp hn => ⟨State.discardSent_queued_item hb ho hp hn hk hi, State.discardSent_queued_out hb ho hp hn,
      fun it rest hserv hd hheads hsort hl => State.discardSent_queued_next hb ho hp hn hk hd hheads hserv hsort hl hplace⟩,
      fun hp hn hc => State.discardSent_reoffer hb ho hp hn hk hi hplace hc⟩

end Sys2Proof

namespace Sys2Proof.Machine

open Sys2Proof

/-! ## A lane with two entries of one bus (R47, R134)

The clause of O50 on a bus expected elsewhere asks no more of the lane than room. Nothing keeps the lane from holding two entries
of one bus then, which R47 excludes: the due head and a pending copy of it. The read drops the node's bid for the bus read, and
with it a TENTATIVE entry that stands in the lane under the bid's tag; for the entry lost the head of the lane is tested (R134) and
called, and its call reaches the pending copy as well, which so comes into the front part of the list. -/

/-- A record of class 2 with this duty. -/
def visitOf (bus : Nat) (duty : Duty) : VisitRecord :=
  { bus := bus, cls := 2, fuelLevel := 40, washRequest := .none, gateMinute := 590, next := .berth, duty := duty,
    fuelOutcome := none, litres := 0, washOutcome := some .notWanted, stray := false }

/-- The record of the due head: run 305 departs at minute 605. -/
def dueVisit : VisitRecord :=
  visitOf 2502 { state := .bound, run := 305, wall := some 545, departure := 605, pinned := false, substituted := false }

/-- A lane entry of a record, with the tag of its bid. -/
def laneEntryOf (r : VisitRecord) (st : LaneEntryState) (tag : Option Tag) : LaneEntry :=
  { visit := r, state := st, tag := tag, value := none, deadline := none, unconfirmed := false, recordAwaited := none,
    ask := .none, mark := none }

/-- The lane: the due head, an entry under the tag of the bid for bus 4118, and a pending copy of the head. -/
def twiceListed : Lane :=
  { state := .opened
    entries := [laneEntryOf dueVisit .parked none, laneEntryOf (visitOf 7 Duty.unbound) .tentative (some ⟨5, 9⟩),
      laneEntryOf (visitOf 2502 Duty.unbound) .tentative (some ⟨5, 2⟩)]
    overfull := false }

/-- The entry of bus 4118 at point 0, where it is expected. -/
def expected4118 : QueueEntry :=
  { visit := visitOf 4118 Duty.unbound, state := .expected, tag := some ⟨5, 3⟩, value := none, deadline := none,
    recordAwaited := none, justServed := false, passedOn := false }

/-- A node in service at minute 600 with that lane, that entry, and a bid for bus 4118. -/
def twiceListedNode : State :=
  { State.reset with
    loader := { State.reset.loader with node := .inService, address := 3, image := { Image.supplied with laneCount := 1 } }
    clock := { m := 600, shift := .none, change := 840, isSet := true, running := true }
    lanes := [twiceListed]
    point0 := { Point.powerOn PointImage.supplied with queue := [expected4118] }
    hand := { State.reset.hand with bids := [
      { tag := ⟨5, 9⟩, bus := 4118, stage := .berth, copy := none, resource := .lane 0, value := 40, head := none, asked := none,
        state := .sent, heard := [], waitOver := false, noBinding := false }] } }

/-- The report of bus 4118 at the entry of lane 0. -/
def report4118 : TagOctets :=
  { reader := 5, busHigh := 16, busLow := 22, busClass := 2, fuel := 40, wash := 0, check := crc8 [5, 16, 22, 2, 40, 0] }

/-- The fields of that report. -/
def fields4118 : TagFields := { reader := 5, bus := 4118, cls := 2, fuel := 40, wash := .none }

/-- After the read three buses stand in the front part of the lane: the head, the bus read, and the copy of the head. -/
theorem twiceListed_after :
    ((twiceListedNode.whenActive (State.tagReport report4118 50)).lanes[0]?).map
      (fun l => (l.entries.filter LaneEntry.isFront).map (fun e => e.visit.bus)) = some [2502, 4118, 2502] := by
  decide +kernel

/-- The node holds no record of bus 4118, whose one entry is expected. -/
theorem twiceListedNode_holds_none (r : VisitRecord) : ¬ twiceListedNode.holdsElsewhere r (.lane 0) := by
  rintro (⟨i, hi, -⟩ | ⟨p, -, x, hx, hf, -⟩ | ⟨n, l, hn, hl, -⟩)
  · cases hi
  · cases p
    · obtain rfl := List.mem_singleton.1 hx
      cases hf
    · cases hx
  · cases n with
    | zero => exact hn rfl
    | succ n => cases hl

theorem twiceListedNode_expects {r : VisitRecord} :
    twiceListedNode.expectsElsewhere r (.lane 0) ↔ r = visitOf 4118 Duty.unbound := by
  refine ⟨?_, fun h => .inl ⟨.p0, by simp, expected4118, List.mem_singleton.2 rfl, rfl, h.symm⟩⟩
  rintro (⟨p, -, x, hx, -, hr⟩ | ⟨n, l, hn, hl, -⟩)
  · cases p
    · obtain rfl := List.mem_singleton.1 hx
      exact hr.symm
    · cases hx
  · cases n with
    | zero => exact absurd rfl hn
    | succ n => cases hl

end Sys2Proof.Machine

namespace Sys2Proof

open Sys2Proof.Machine

/-- Refutes O50: the clause on a bus expected elsewhere does not ask that a lane holds each bus once (R47), and fails for a lane
that holds a pending copy of its due head. -/
theorem not_unknownBusIsParkedAsAStray : ¬ Obligations.UnknownBusIsParkedAsAStray := by
  rintro ⟨-, -, -, h⟩
  obtain ⟨u, hu, -, -, ⟨l, hl, -, hfront, -⟩, -⟩ := h twiceListedNode report4118 50 0 fields4118 twiceListed
    (visitOf 4118 Duty.unbound) (by decide +kernel) (by decide +kernel) (by decide +kernel) (by decide +kernel) (by decide +kernel)
    rfl (by decide) (by decide) (by decide) (fun r _ => twiceListedNode_holds_none r) rfl (twiceListedNode_expects.2 rfl)
    (fun r _ hr => twiceListedNode_expects.1 hr)
  have hafter := twiceListed_after
  rw [show twiceListedNode.whenActive (State.tagReport report4118 50) = u from Host.Outcome.next.inj hu, hl] at hafter
  have hbuses : (l.entries.filter LaneEntry.isFront).map (fun e => e.visit.bus) = [2502, 4118, 2502] := Option.some.inj hafter
  have hlength := congrArg List.length hfront
  rw [List.length_map] at hlength
  rw [← List.length_map (f := fun e : LaneEntry => e.visit.bus), hbuses] at hlength
  revert hlength
  decide

end Sys2Proof

namespace Sys2Proof.Machine

open Sys2Proof

/-! ## A tag report handed to its reader's owner (R154, R155) -/

/-- The node with an accepted tag report in its repeat filter. -/
def State.tagTaken (g : TagFields) (now : Nat) (s : State) : State :=
  { s with field := { s.field with
      loopPartial := [], filter := s.field.filter.set g.reader (some { bus := g.bus, time := now }) } }

theorem exec_tagReport_accepted {s : State} {t : TagOctets} {now : Nat} {g : TagFields} (ha : s.active = true)
    (hg : tagFields t = some g) (hc : s.isConfigured (readerRole g.reader) = true)
    (hr : isRepeat s.field.filter[g.reader] g.bus now = false) :
    exec (.tagReport t now) s = .next (State.handRead (readerRole g.reader) g (s.tagTaken g now)) := by
  refine congrArg Host.Outcome.next ((State.whenActive_of_active ha _).trans ?_)
  have hnot : ¬ (s.isConfigured (readerRole g.reader) = false ∨ isRepeat s.field.filter[g.reader] g.bus now = true) := by
    rw [hc, hr]; decide
  simp only [State.tagReport, hg]
  exact if_neg hnot

theorem exec_laneEntryTag {s : State} {t : TagOctets} {now n : Nat} {g : TagFields} (ha : s.active = true)
    (hg : tagFields t = some g) (hrole : readerRole g.reader = .laneEntry n) (hn : n < s.image.laneCount)
    (hr : isRepeat s.field.filter[g.reader] g.bus now = false) :
    exec (.tagReport t now) s = .next ((s.tagTaken g now).laneEntryRead n g) := by
  rw [exec_tagReport_accepted ha hg (by rw [hrole]; exact decide_eq_true hn) hr, hrole]
  rfl

theorem exec_laneExitTag {s : State} {t : TagOctets} {now n : Nat} {g : TagFields} (ha : s.active = true)
    (hg : tagFields t = some g) (hrole : readerRole g.reader = .laneExit n) (hn : n < s.image.laneCount)
    (hr : isRepeat s.field.filter[g.reader] g.bus now = false) :
    exec (.tagReport t now) s = .next ((s.tagTaken g now).laneExitRead n g) := by
  rw [exec_tagReport_accepted ha hg (by rw [hrole]; exact decide_eq_true hn) hr, hrole]
  rfl

/-! ## What announces a bus (R38, R49) -/

/-- Reports, frames sent and OVERFULL marks (R38, R49): the hand, the points, the yard and the entries of each lane stay. -/
structure State.Tells (s t : State) : Prop where
  hand : t.hand = s.hand
  point : ∀ p, t.point p = s.point p
  clock : t.clock = s.clock
  image : t.image = s.image
  active : t.active = s.active
  muted : t.line.muted = s.line.muted
  lanes : List.Forall₂ (fun l l' => l'.entries = l.entries ∧ l'.state = l.state) s.lanes t.lanes
  frames : ∀ x ∈ s.line.transmit, x.displaceable = false → x ∈ t.line.transmit
  from_ : ∀ x ∈ t.line.transmit, x ∈ s.line.transmit ∨ (x.body.isOffer = false ∧ ∀ tag, x.body.isClaimOf tag = false)

theorem forall₂_sameEntries (lanes : List Lane) :
    List.Forall₂ (fun l l' : Lane => l'.entries = l.entries ∧ l'.state = l.state) lanes lanes :=
  List.forall₂_same.2 (fun _ _ => ⟨rfl, rfl⟩)

theorem State.Tells.refl (s : State) : s.Tells s :=
  ⟨rfl, fun _ => rfl, rfl, rfl, rfl, rfl, forall₂_sameEntries _, fun _ h _ => h, fun _ h => .inl h⟩

theorem State.Tells.trans {s t u : State} (h : s.Tells t) (h' : t.Tells u) : s.Tells u where
  hand := h'.hand.trans h.hand
  point := fun p => (h'.point p).trans (h.point p)
  clock := h'.clock.trans h.clock
  image := h'.image.trans h.image
  active := h'.active.trans h.active
  muted := h'.muted.trans h.muted
  lanes := forall₂_trans (fun _ _ _ h h' => ⟨h'.1.trans h.1, h'.2.trans h.2⟩) h.lanes h'.lanes
  frames := fun x hx hd => h'.frames x (h.frames x hx hd) hd
  from_ := fun x hx => (h'.from_ x hx).elim (h.from_ x) .inr

/-- A report places no frame but a REPORT. -/
theorem State.mem_report_frames {b : ReportBody} {s : State} {x : TxFrame} (h : x ∈ (s.report b).line.transmit) :
    x ∈ s.line.transmit ∨ ∃ r, x.body = .report r := by
  have hhead : ∀ u : State, x ∈ u.placeHeadReport.line.transmit → x ∈ u.line.transmit ∨ ∃ r, x.body = .report r := by
    intro u hu
    unfold State.placeHeadReport at hu
    split at hu
    · exact .inl hu
    · split at hu
      · exact .inl hu
      · next r _ _ _ =>
        rcases State.mem_of_mem_place hu with rfl | hu
        · exact .inr ⟨r, rfl⟩
        · exact .inl hu
  unfold State.report at h
  dsimp only at h
  split at h
  · exact .inl h
  · split at h
    · split at h
      · exact hhead (s.countReport.setReports _) h
      · exact .inl h
    · split at h
      · exact .inl h
      · exact (hhead (State.dropFrames _ _) h).imp_left (fun hx => (State.mem_dropFrames.1 hx).1)

theorem State.report_tells (b : ReportBody) (s : State) : s.Tells (s.report b) := by
  have heq := State.report_eq b s
  refine ⟨by rw [heq], fun p => State.report_point b s p, by rw [heq], by rw [heq]; rfl, by rw [heq]; rfl, by rw [heq], ?_,
    fun x hx hd => State.report_keeps_frame hd b hx, fun x hx => (State.mem_report_frames hx).imp_right (fun ⟨r, hr⟩ => ?_)⟩
  · rw [State.report_lanes]
    exact forall₂_sameEntries _
  · rw [hr]
    exact ⟨rfl, fun _ => rfl⟩

theorem State.send_tells {b : FrameBody} (ho : b.isOffer = false) (hc : ∀ tag, b.isClaimOf tag = false) (s : State) :
    s.Tells (s.send b) := by
  have heq : s.send b = _ := State.place_eq b Config.broadcast s
  refine ⟨by rw [heq], fun p => State.send_point b s p, by rw [heq], by rw [heq]; rfl, by rw [heq]; rfl, by rw [heq], ?_,
    fun x hx hd => State.place_keeps hx hd, fun x hx => (State.mem_of_mem_place hx).symm.imp_right (fun h => ?_)⟩
  · rw [heq]
    exact forall₂_sameEntries _
  · rw [h]
    exact ⟨ho, hc⟩

theorem State.report_of_inactive {b : ReportBody} {s : State} (h : s.active = false) : s.report b = s := by
  simp [State.report, h]

theorem State.report_keeps_report {b : ReportBody} {s : State} {r : Report} (hr : r ∈ s.loader.reports)
    (hroom : s.active = true → s.loader.reports.length < Config.reportCapacity) : r ∈ (s.report b).loader.reports := by
  cases ha : s.active with
  | false => rw [State.report_of_inactive ha]; exact hr
  | true =>
    rw [State.report_reports b s ha (hroom ha)]
    exact List.mem_append_left _ hr

/-- The report queue gives up its oldest report for a new one, so that the last one stays. -/
theorem State.report_keeps_last {b : ReportBody} {s : State} {l : List Report} {r : Report} (hr : s.loader.reports = l ++ [r]) :
    r ∈ (s.report b).loader.reports := by
  by_cases hroom : s.loader.reports.length < Config.reportCapacity
  · exact State.report_keeps_report (by rw [hr]; simp) (fun _ => hroom)
  · have hlen : 2 ≤ l.length := by
      rw [hr, List.length_append] at hroom
      simp only [Config.reportCapacity, List.length_singleton] at hroom
      omega
    obtain ⟨x, y, m, rfl⟩ : ∃ x y m, l = x :: y :: m := by
      match l, hlen with
      | x :: y :: m, _ => exact ⟨x, y, m, rfl⟩
    simp only [State.report, hroom, if_false]
    repeat' split
    all_goals simp [State.setReports, State.dropFrames, hr]

theorem State.send_reports (b : FrameBody) (s : State) : (s.send b).loader.reports = s.loader.reports := by
  have heq : s.send b = _ := State.place_eq b Config.broadcast s
  rw [heq]

/-- A mark on a lane alone, as OVERFULL is (R49). -/
theorem State.modLane_tells {f : Lane → Lane} (hf : ∀ l, (f l).entries = l.entries ∧ (f l).state = l.state) (n : Nat) (s : State) :
    s.Tells (s.modLane n f) where
  hand := rfl
  point := fun p => by cases p <;> rfl
  clock := rfl
  image := rfl
  active := rfl
  muted := rfl
  lanes := (forall₂_modify_lane (R := fun l' l : Lane => l'.entries = l.entries ∧ l'.state = l.state) (fun _ => ⟨rfl, rfl⟩)
    (fun l _ => hf l)).flip
  frames := fun _ h _ => h
  from_ := fun _ h => .inl h

theorem State.overfullTest_tells (n b : Nat) (s : State) : s.Tells (s.overfullTest n b) := by
  have hmark : ∀ v : Bool, s.Tells (s.modLane n (fun l => { l with overfull := v })) := fun v =>
    State.modLane_tells (f := fun l => { l with overfull := v }) (fun _ => ⟨rfl, rfl⟩) n s
  unfold State.overfullTest
  split
  · exact .refl s
  · dsimp only
    split
    · exact (hmark true).trans (State.report_tells _ _)
    · exact hmark false

theorem State.announceStray_tells (b : Nat) (here : Resource) (awaited : Bool) (s : State) :
    s.Tells (s.announceStray b here awaited) :=
  (State.send_tells rfl (fun _ => rfl) s).trans (State.report_tells _ _)

/-- The reports of an OVERFULL test are those before it and at most the one of the mark. -/
theorem State.overfullTest_reports (n b : Nat) (s : State) :
    (s.overfullTest n b).loader.reports = s.loader.reports ∨
      ∃ k o len, (s.overfullTest n b).loader.reports = ((s.modLane n (fun l => { l with overfull := true })).report
        (.overfull k b o len false)).loader.reports := by
  unfold State.overfullTest
  split
  · exact .inl rfl
  · dsimp only
    split
    · exact .inr ⟨_, _, _, rfl⟩
    · exact .inl rfl

section
variable {s : State} {b : Nat} {here : Resource} {awaited : Bool}

/-- The STRAY stands in the transmit queue where it has room. -/
theorem State.announceStray_frame (h : s.canPlace .urgent = true) :
    ∃ x ∈ (s.announceStray b here awaited).line.transmit, x.body = .stray b here ∧ x.destination = 15 ∧ x.cls = .urgent ∧
      x.displaceable = false :=
  ⟨_, (State.report_tells _ _).frames _ (State.mem_place (.stray b here) Config.broadcast s h) rfl, rfl, rfl, rfl, rfl⟩

/-- The report of a STRAY outlives the OVERFULL report behind it. -/
theorem State.announceStray_classTest_report {n k old : Nat} (ha : s.active = true)
    (hroom : s.loader.reports.length < Config.reportCapacity) :
    ∃ x ∈ ((s.announceStray b here awaited).classTest n k old).loader.reports,
      x.body = .stray b here (if awaited then .awaited else .notAwaited) := by
  have hsend := State.send_reports (.stray b here) s
  have ha' : (s.send (.stray b here)).active = true := by rw [(State.send_tells rfl (fun _ => rfl) s).active]; exact ha
  have hlist := State.report_reports (.stray b here (if awaited then .awaited else .notAwaited)) _ ha' (by rw [hsend]; exact hroom)
  refine ⟨State.newReport (.stray b here (if awaited then .awaited else .notAwaited)) (s.send (.stray b here)), ?_, rfl⟩
  unfold State.classTest
  split
  · exact State.mem_report _ _ ha'
  · rcases State.overfullTest_reports n k (s.announceStray b here awaited) with e | ⟨k', o, len, e⟩ <;> rw [e]
    · exact State.mem_report _ _ ha'
    · exact State.report_keeps_last hlist

end

end Sys2Proof.Machine

namespace Sys2Proof.Machine

open Sys2Proof

/-! ## What an event calls (R134, R142) -/

/-- What holds once heads and swap requests are tested, and stays through each head test an event makes, holds at its end. -/
theorem State.settle_freed {P : State → Prop} {before s : State} (h : P s.dropLostHeads.withdrawSwaps)
    (hstep : ∀ u n, P u → before.lostEntry s n = true ∨ before.headFreed u n = true → P (u.headTest n)) :
    P (State.settle before s) := by
  have hfold : ∀ (l : List Nat) (u : State), P u →
      P (l.foldl (fun u n => if before.lostEntry s n || before.headFreed u n then u.headTest n else u) u) := by
    intro l
    induction l with
    | nil => exact fun _ hu => hu
    | cons n l ih =>
      refine fun u hu => ih _ ?_
      dsimp only
      split
      · next hc => exact hstep u n hu (Bool.or_eq_true_iff.1 hc)
      · exact hu
  exact hfold _ _ h

/-- The entries of lane `n` as they were, but for take marks and for the call of buses that satisfy `q`. -/
def State.CallsOnly (q : Nat → Prop) (n : Nat) (s t : State) : Prop :=
  List.Forall₂ (fun x y : LaneEntry => x.Ends y ∧ (¬ q x.visit.bus → y.state = x.state)) (entriesAt s.lanes n) (entriesAt t.lanes n)

theorem State.head?_eq (s : State) (n : Nat) : s.head? n = (entriesAt s.lanes n).head? := by
  unfold State.head? entriesAt
  cases s.lanes[n]? <;> rfl

theorem LaneEntry.Ends.visit {e e' : LaneEntry} (h : e.Ends e') : e'.visit = e.visit := by rw [h.rest]

theorem State.headTest_lane_of_ne {n k : Nat} (h : n ≠ k) (s : State) : (s.headTest k).lanes[n]? = s.lanes[n]? := by
  rcases State.headTest_cases k s with e | ⟨-, -, x, -, -, e⟩ <;> rw [e]
  rw [State.callEntry, State.lanes_of_offers (State.withdrawSwaps_sansOffers _), State.lanes_of_offers (State.send_sansOffers _ _)]
  exact State.modLane_lane_of_ne _ h

section
variable {q : Nat → Prop} {s t u : State} {n : Nat}

theorem State.CallsOnly.refl (q : Nat → Prop) (n : Nat) (s : State) : s.CallsOnly q n s :=
  List.forall₂_same.2 (fun x _ => ⟨.refl x, fun _ => rfl⟩)

theorem State.CallsOnly.trans (h : s.CallsOnly q n t) (h' : t.CallsOnly q n u) : s.CallsOnly q n u :=
  forall₂_trans (fun _ _ _ h h' => ⟨h.1.trans h'.1, fun hq => (h'.2 (by rw [h.1.visit]; exact hq)).trans (h.2 hq)⟩) h h'

theorem State.CallsOnly.of_lane (hl : t.lanes[n]? = s.lanes[n]?) : s.CallsOnly q n t := by
  have heq : entriesAt t.lanes n = entriesAt s.lanes n := by rw [entriesAt, entriesAt, hl]
  rw [State.CallsOnly, heq]
  exact State.CallsOnly.refl q n s

theorem State.CallsOnly.mem (h : s.CallsOnly q n t) {x : LaneEntry} (hx : x ∈ entriesAt s.lanes n) :
    ∃ y ∈ entriesAt t.lanes n, x.Ends y ∧ (¬ q x.visit.bus → y.state = x.state) := exists_of_forall₂_left h hx

theorem State.CallsOnly.head? (h : s.CallsOnly q n t) {y : LaneEntry} (hy : t.head? n = some y) :
    ∃ x, s.head? n = some x ∧ x.Ends y := by
  rw [State.head?_eq] at hy ⊢
  rw [State.CallsOnly] at h
  generalize entriesAt s.lanes n = l at h ⊢
  generalize entriesAt t.lanes n = m at h hy
  cases h with
  | nil => cases hy
  | cons hab _ => cases hy; exact ⟨_, rfl, hab.1⟩

/-- The states of the lane, where no bus may be called. -/
theorem State.CallsOnly.states (h : s.CallsOnly (fun _ => False) n t) :
    (entriesAt t.lanes n).map (fun x => x.state) = (entriesAt s.lanes n).map (fun x => x.state) :=
  (List.forall₂_eq_eq_eq.le _ _ (List.forall₂_map_left_iff.2 (List.forall₂_map_right_iff.2
    (h.imp (fun _ _ hxy => (hxy.2 id).symm))))).symm

/-- A change of every lane's entries that calls none. -/
theorem State.CallsOnly.mapLanes {f : Lane → Lane} {l : Lane} (hl : s.lanes[n]? = some l) (hl' : t.lanes[n]? = some (f l))
    (hf : List.Forall₂ (fun x y : LaneEntry => x.Ends y ∧ y.state = x.state) l.entries (f l).entries) : s.CallsOnly q n t := by
  rw [State.CallsOnly, entriesAt_of_getElem? hl, entriesAt_of_getElem? hl']
  exact hf.imp (fun _ _ h => ⟨h.1, fun _ => h.2⟩)

theorem Lane.markHeadOnly_states (l : Lane) :
    List.Forall₂ (fun x y : LaneEntry => x.Ends y ∧ y.state = x.state) l.entries l.markHeadOnly.entries := by
  obtain ⟨st, entries, o⟩ := l
  cases entries with
  | nil => exact .nil
  | cons e es => exact .cons ⟨.refl e, rfl⟩ (forall₂_map_right (fun x => ⟨⟨rfl, .inl rfl, .inr rfl⟩, rfl⟩) _)

theorem State.dropLostHeads_callsOnly (q : Nat → Prop) (n : Nat) (s : State) : s.CallsOnly q n s.dropLostHeads := by
  have hl : (s.removeBids s.lostBids).lanes = s.lanes := State.foldl_removeBid_lanes _ s
  rcases State.dropLostHeads_cases s with ⟨-, e⟩ | e <;> rw [e]
  · exact .of_lane (by rw [hl])
  · cases hn : s.lanes[n]? with
    | none => exact .of_lane (by rw [State.setLanes_lanes, List.getElem?_map, hn]; rfl)
    | some l =>
      exact .mapLanes hn (by rw [State.setLanes_lanes, List.getElem?_map, hn]; rfl) (Lane.markHeadOnly_states l)

theorem State.headTest_callsOnly (hq : ∀ e, s.head? n = some e → q e.visit.bus) : s.CallsOnly q n (s.headTest n) := by
  rcases State.headTest_cases n s with h | ⟨-, -, e, he, -, h⟩ <;> rw [h]
  · exact .refl q n s
  · cases hn : s.lanes[n]? with
    | none => rw [hn] at he; cases he
    | some l =>
      have hlane : (s.callEntry n e).lanes[n]? = some { l with entries := l.entries.map (fun x =>
          if x.visit.bus = e.visit.bus then { x with state := .called } else x) } := by
        rw [State.callEntry, State.lanes_of_offers (State.withdrawSwaps_sansOffers _), State.lanes_of_offers (State.send_sansOffers _ _)]
        exact State.modLane_lane_self _ hn
      rw [State.CallsOnly, entriesAt_of_getElem? hn, entriesAt_of_getElem? hlane]
      refine forall₂_map_right (fun x => ?_) l.entries
      split
      · next hx => exact ⟨⟨rfl, .inr rfl, .inl rfl⟩, fun hnot => absurd (hx ▸ hq e he) hnot⟩
      · exact ⟨.refl x, fun _ => rfl⟩

/-- An event calls no bus of a lane that lost no entry but the head that its lane's head test may call; `I` is what the tests of
the other lanes keep. -/
theorem State.settle_callsOnly {before : State} {I : State → Prop} (hlost : before.lostEntry s n = false)
    (h0 : I s.dropLostHeads.withdrawSwaps) (hstep : ∀ u k, I u → s.CallsOnly q n u → (k = n → ∀ e, s.head? n = some e → q e.visit.bus) → I (u.headTest k))
    (hq : ∀ u, I u → s.CallsOnly q n u → before.headFreed u n = true → ∀ e, s.head? n = some e → q e.visit.bus) :
    s.CallsOnly q n (State.settle before s) ∧ I (State.settle before s) := by
  refine State.settle_freed (P := fun u => s.CallsOnly q n u ∧ I u) ⟨?_, h0⟩ (fun u k ⟨hu, hi⟩ hk => ?_)
  · exact (State.dropLostHeads_callsOnly q n s).trans (.of_lane (by
      rw [State.lanes_of_offers (State.withdrawSwaps_sansOffers _)]))
  · have hfreed : k = n → ∀ e, s.head? n = some e → q e.visit.bus := by
      rintro rfl
      refine hq u hi hu (hk.resolve_left ?_)
      rw [hlost]
      exact Bool.false_ne_true
    refine ⟨hu.trans ?_, hstep u k hi hu hfreed⟩
    by_cases hkn : k = n
    · subst hkn
      refine State.headTest_callsOnly (fun e he => ?_)
      obtain ⟨x, hx, hends⟩ := hu.head? he
      rw [hends.visit]
      exact hfreed rfl x hx
    · exact .of_lane (State.headTest_lane_of_ne (Ne.symm hkn) u)

/-- The state of a bus that is not the waiting head of its lane stays, where the lane lost no entry. -/
theorem State.settle_keeps_state {before : State} {b : Nat} (hlost : before.lostEntry s n = false)
    (hhead : before.headWaits n = true → ∀ e, s.head? n = some e → e.visit.bus ≠ b) :
    s.CallsOnly (· ≠ b) n (State.settle before s) :=
  (State.settle_callsOnly (I := fun _ => True) hlost trivial (fun _ _ _ _ _ => trivial)
    (fun u _ _ hf => hhead (by simp [State.headFreed] at hf; exact hf.1.1))).1

end

end Sys2Proof.Machine

namespace Sys2Proof.Machine

open Sys2Proof

/-! ## How many frames a record given up can place (R23, R28, R37) -/

/-- The OFFERs the tests of R23 and R28 can still place before an offer opens or a re-offer waits: a re-offer placed under
number 0, which no reachable counter gives, is owed still. -/
def State.offersDue (s : State) : Nat :=
  match s.hand.offer with
  | none => 1
  | some o => if o.phase = .reofferQueued ∧ o.reNumber = 0 then (if s.hand.counter = 0 then 2 else 1) else 0

/-- The frames of the transmit queue, with the OFFERs that can still be placed. -/
def State.reach (s : State) : Nat := s.load .transmit + s.offersDue

theorem State.offersDue_le (s : State) : s.offersDue ≤ 2 := by
  unfold State.offersDue
  repeat' split
  all_goals omega

theorem State.reach_of_same {s t : State} (hl : t.line = s.line) (ho : t.hand.offer = s.hand.offer)
    (hc : t.hand.counter = s.hand.counter) : t.reach = s.reach := by
  simp only [State.reach, State.load, State.offersDue, hl, ho, hc]

theorem nextOfferNumber_ne_zero (n : Nat) : nextOfferNumber n ≠ 0 := by
  unfold nextOfferNumber
  split <;> omega

theorem State.send_load (b : FrameBody) (s : State) : (s.send b).load .transmit ≤ s.load .transmit + 1 := by
  rcases State.place_cases b Config.broadcast s with ⟨-, e⟩ | ⟨-, -, ha, e⟩ | ⟨-, e⟩ <;> rw [State.send, e]
  · simp only [State.load, State.enqueue, insertFrame_length]
    omega
  · obtain ⟨f, hf, hd⟩ := List.any_eq_true.1 ha
    have hlen := List.length_eraseP_of_mem hf hd
    have hpos := List.length_pos_of_mem hf
    simp only [State.load, State.enqueue, insertFrame_length, State.displace, State.setRetry]
    omega
  · omega

/-- A frame placed for an offer that now waits takes the place of one that was due. -/
theorem State.send_reach {s t : State} {b : FrameBody} (hl : t.line = s.line) (hd : t.offersDue + 1 ≤ s.offersDue) :
    (t.send b).reach ≤ s.reach := by
  have hload := State.send_load b t
  have hsame : t.load .transmit = s.load .transmit := by simp only [State.load, hl]
  have hdue : (t.send b).offersDue = t.offersDue := by simp only [State.offersDue, State.send_hand]
  unfold State.reach
  omega

theorem State.startOffer_reach {s : State} (it : OutItem) (ho : s.hand.offer = none) : (s.startOffer it).reach ≤ s.reach := by
  have hdue : s.offersDue = 1 := by rw [State.offersDue, ho]
  rcases State.startOffer_cases it s with ⟨-, e⟩ | ⟨-, e⟩ <;> rw [e]
  · refine State.send_reach rfl ?_
    rw [hdue]
    exact Nat.le_refl 1
  · have hnone : s.takeNumber.offersDue = 1 := by
      rw [State.offersDue]
      simp only [State.takeNumber, ho]
    simp only [State.reach, hdue, hnone]
    exact Nat.le_refl _

theorem State.placeReoffer_reach {s : State} {o : OpenOffer} (ho : s.hand.offer = some o) (hp : o.phase = .reofferQueued)
    (hn : o.reNumber = 0) : (s.placeReoffer o).reach ≤ s.reach := by
  have hdue : s.offersDue = if s.hand.counter = 0 then 2 else 1 := by
    rw [State.offersDue, ho]; exact if_pos ⟨hp, hn⟩
  have hnext := nextOfferNumber_ne_zero s.hand.counter
  have hpos : 1 ≤ s.offersDue := by rw [hdue]; split <;> omega
  simp only [State.placeReoffer]
  split
  · have hnone : (s.setOffer none).offersDue = 1 := rfl
    simp only [State.reach, hnone]
    exact Nat.add_le_add_left hpos _
  · split
    · refine State.send_reach rfl ?_
      rw [hdue]
      by_cases hc : s.hand.counter = 0 <;>
        simp [State.offersDue, State.setOffer, State.modItem, State.takeNumber, hc, nextOfferNumber]
    · have hone : ∀ k f, ((s.takeNumber.modItem k f).setOffer (some { o with phase := .reofferQueued, reNumber := 0 })).offersDue = 1 :=
        fun k f => by simp [State.offersDue, State.setOffer, State.modItem, State.takeNumber, hnext]
      simp only [State.reach, hone]
      exact Nat.add_le_add_left hpos _

theorem State.offerTest_reach (s : State) : s.offerTest.reach ≤ s.reach := by
  rcases State.offerTest_cases s with e | ⟨-, o, ho, hp, hn, e⟩ | ⟨-, ho, it, -, -, -, e⟩ <;> rw [e]
  · exact State.placeReoffer_reach ho hp hn
  · exact State.startOffer_reach it ho

theorem State.askJoin_reach (p : PointId) (b : Nat) (s : State) : (s.askJoin p b).reach ≤ s.reach := by
  rcases State.askJoin_cases p b s with ⟨e, -, -, -, -, h⟩ | ⟨-, h⟩ <;> rw [h]
  rcases State.join_cases (.visit e.visit) (some (.point p)) (s.modPoint p (Point.dropEntry b)) with ⟨-, h⟩ | ⟨-, h⟩ <;> rw [h]
  · exact (State.reach_of_same (State.modPoint_line ..) (by rw [State.modPoint_hand]) (by rw [State.modPoint_hand])).le
  · refine (State.offerTest_reach _).trans (State.reach_of_same ?_ ?_ ?_).le
    · exact State.modPoint_line ..
    · show (s.modPoint p (Point.dropEntry b)).hand.offer = _
      rw [State.modPoint_hand]
    · show (s.modPoint p (Point.dropEntry b)).hand.counter = _
      rw [State.modPoint_hand]

theorem State.takeFromQueue_reach (p : PointId) (b : Nat) (s : State) : (s.takeFromQueue p b).reach ≤ s.reach :=
  State.takeFromQueue_keeps (P := fun t => t.reach ≤ s.reach)
    (fun t f h => (State.reach_of_same (State.modPoint_line ..) (by rw [State.modPoint_hand]) (by rw [State.modPoint_hand])).le.trans h)
    (fun t b h => (State.askJoin_reach p b t).trans h) b (Nat.le_refl _)

theorem State.cancelOffer_load (k : ItemKey) (s : State) : (s.cancelOffer k).load .transmit ≤ s.load .transmit := by
  unfold State.cancelOffer
  repeat' split
  · exact Nat.add_le_add_right (List.length_filter_le _ s.line.transmit) _
  · exact Nat.le_refl _
  · exact Nat.le_refl _

/-- A record given up adds at most two frames to the transmit queue. -/
theorem State.giveUpRecord_load (b : Nat) (here : Resource) (s : State) :
    (s.giveUpRecord b here).load .transmit ≤ s.load .transmit + 2 := by
  have hqueue : ∀ p (u : State), (u.queueGivenUp p b here).reach ≤ u.reach := by
    intro p u
    unfold State.queueGivenUp
    split
    · exact Nat.le_refl _
    · exact State.takeFromQueue_reach p b u
  have hoffer : (s.offerGivenUp b).reach ≤ s.load .transmit + 2 :=
    Nat.add_le_add (State.cancelOffer_load (.bus b) s) (State.offersDue_le _)
  have hgiven : ((s.queuesGivenUp b here).lanesGivenUp b here).reach ≤ s.load .transmit + 2 :=
    ((hqueue .p1 _).trans (hqueue .p0 _)).trans hoffer
  have hend : (s.giveUpRecord b here).reach ≤ s.load .transmit + 2 := by
    rw [State.giveUpRecord_eq', State.testIfClosed]
    split
    · exact (State.offerTest_reach _).trans hgiven
    · exact hgiven
  exact (Nat.le_add_right _ _).trans hend

theorem State.canPlace_of_load {s : State} (h : s.load .transmit < Config.transmitCapacity) (c : FrameClass) : s.canPlace c = true := by
  have hnot : s.transmitFull = false := decide_eq_false (Nat.not_le.2 h)
  simp [State.canPlace, hnot]

/-- A frame finds a place after a record given up, where three places were free. -/
theorem State.giveUpRecord_canPlace {s : State} (b : Nat) (here : Resource)
    (h : s.load .transmit + 3 ≤ Config.transmitCapacity) (c : FrameClass) : (s.giveUpRecord b here).canPlace c = true :=
  State.canPlace_of_load (by have := State.giveUpRecord_load b here s; omega) c

end Sys2Proof.Machine

namespace Sys2Proof.Machine

open Sys2Proof

/-! ## A bus that parks in a lane (R57 to R60) -/

theorem exists_lane_of_forall₂ {R : Lane → Lane → Prop} {l l' : List Lane} (h : List.Forall₂ R l l') :
    ∀ {n : Nat} {x : Lane}, l[n]? = some x → ∃ y, l'[n]? = some y ∧ R x y := by
  induction h with
  | nil => exact fun h => by simp at h
  | @cons a b l l' hab _ ih =>
    intro n x hx
    cases n with
    | zero =>
      obtain rfl : a = x := by simpa using hx
      exact ⟨b, rfl, hab⟩
    | succ n => exact ih (by simpa using hx)

theorem parkBehind_head {e h : LaneEntry} {l : List LaneEntry} (hl : l.head? = some h) (hh : h.isFront = true) :
    (parkBehind e l).head? = some h := by
  cases l with
  | nil => cases hl
  | cons x xs =>
    obtain rfl : x = h := by simpa using hl
    simp [parkBehind, hh]

theorem mem_parkBehind {e x : LaneEntry} {l : List LaneEntry} : x ∈ parkBehind e l ↔ x = e ∨ x ∈ l := by
  rw [(parkBehind_perm e l).mem_iff, List.mem_cons]

/-- The lane with bus `b` behind the other buses that stand there, as entry `e`. -/
def Lane.moved (b : Nat) (e : LaneEntry) (l : Lane) : List LaneEntry :=
  parkBehind e (l.entries.filter (fun x => decide (x.visit.bus ≠ b)))

section
variable {α : Type} (f : LaneEntry → α) (b : Nat) (e : LaneEntry) (l : Lane)

theorem Lane.moved_map : (l.moved b e).map f =
    (l.entries.filter (fun x => decide (x.visit.bus ≠ b) && x.isFront)).map f ++ [f e] ++
      (l.entries.filter (fun x => decide (x.visit.bus ≠ b) && !x.isFront)).map f := by
  simp only [Lane.moved, parkBehind, List.map_append, List.filter_filter, Bool.and_comm, List.map_cons, List.map_nil]

end

theorem Lane.moved_bus {b : Nat} {e : LaneEntry} {l : Lane} (he : e.visit.bus = b) {x : LaneEntry} (hx : x ∈ l.entries) :
    ∃ y ∈ l.moved b e, y.visit.bus = x.visit.bus := by
  by_cases hb : x.visit.bus = b
  · exact ⟨e, mem_parkBehind.2 (.inl rfl), by rw [he, hb]⟩
  · exact ⟨x, mem_parkBehind.2 (.inr (List.mem_filter.2 ⟨hx, by simpa using hb⟩)), rfl⟩

theorem Lane.moved_head {b : Nat} {e h : LaneEntry} {l : Lane} (hl : l.entries.head? = some h) (hh : h.isFront = true)
    (hb : h.visit.bus ≠ b) : (l.moved b e).head? = some h := by
  refine parkBehind_head ?_ hh
  cases hx : l.entries with
  | nil => rw [hx] at hl; cases hl
  | cons x xs =>
    rw [hx] at hl
    obtain rfl : x = h := by simpa using hl
    simp [hb]

theorem State.Tells.lane {s t : State} (h : s.Tells t) {n : Nat} {l : Lane} (hl : s.lanes[n]? = some l) :
    ∃ l', t.lanes[n]? = some l' ∧ l'.entries = l.entries ∧ l'.state = l.state := exists_lane_of_forall₂ h.lanes hl

theorem State.Ends.lane {s t : State} (h : s.Ends t) {n : Nat} {l : Lane} (hl : s.lanes[n]? = some l) :
    ∃ l', t.lanes[n]? = some l' ∧ l.Ends l' := exists_lane_of_forall₂ h.lanes hl

/-- What the end of an event leaves of the entries as they were. -/
theorem map_eq_of_ends {α : Type} {f : LaneEntry → α} (hf : ∀ x y : LaneEntry, x.Ends y → f y = f x) {l l' : List LaneEntry}
    (h : List.Forall₂ LaneEntry.Ends l l') : l'.map f = l.map f :=
  (List.forall₂_eq_eq_eq.le _ _ (List.forall₂_map_left_iff.2 (List.forall₂_map_right_iff.2
    (h.imp (fun x y hxy => (hf x y hxy).symm))))).symm

section
variable {s c t : State} {n b : Nat} {l : Lane} {e : LaneEntry}

/-- A lane whose head waited keeps it as its head, where another bus parks behind it. -/
theorem State.headWaits_head (hl : s.lanes[n]? = some l) (hw : s.headWaits n = true) :
    ∃ h, l.entries.head? = some h ∧ h.state = .parked := by
  obtain ⟨h, hh, hp, -⟩ := (State.headWaits_iff s n).1 hw
  rw [State.head?, hl] at hh
  exact ⟨h, hh, hp⟩

/-- The end of the read of a bus that parks in a lane: no entry is lost, and the head that may be called is another bus's. -/
theorem State.settle_parked (hl : s.lanes[n]? = some l) (hc : c.lanes[n]? = some l) {g : Lane → Lane}
    (hg : (g l).entries = l.moved b e) (hst : (g l).state = l.state) (he : e.visit.bus = b)
    (hb : ∀ h, l.entries.head? = some h → h.state = .parked → h.visit.bus ≠ b) (ht : (c.modLane n g).Tells t) :
    ∃ l', (State.settle s t).lanes[n]? = some l' ∧ l'.state = l.state ∧
      l'.entries.map (fun x => x.visit) = (l.moved b e).map (fun x => x.visit) ∧
      ∃ x ∈ l'.entries, e.Ends x ∧ x.state = e.state := by
  obtain ⟨lt, hlt, hentries, hstate⟩ := ht.lane (State.modLane_lane_self g hc)
  obtain ⟨lu, hlu, hends⟩ := (State.settle_ends s t).lane hlt
  have hlost : s.lostEntry t n = false := State.lostEntry_eq_false (fun k k' hk hk' x hx => by
    rw [hl] at hk; cases hk
    rw [hlt] at hk'; cases hk'
    rw [hentries, hg]
    exact Lane.moved_bus he hx)
  have hcalls := State.settle_keeps_state (s := t) (before := s) (b := b) hlost (fun hw x hx => by
    obtain ⟨h, hh, hp⟩ := State.headWaits_head hl hw
    rw [State.head?, hlt] at hx
    have hhead : lt.entries.head? = some h := by
      rw [hentries, hg]
      exact Lane.moved_head hh (by simp [LaneEntry.isFront, hp]) (hb h hh hp)
    obtain rfl := Option.some.inj (hx.symm.trans hhead)
    exact hb x hh hp)
  refine ⟨lu, hlu, ?_, ?_, ?_⟩
  · rw [hends.rest, hstate, hst]
  · rw [map_eq_of_ends (fun _ _ h => h.visit) hends.entries, hentries, hg]
  · obtain ⟨y, hy, hxy, hsame⟩ := hcalls.mem (x := e) (by
      rw [entriesAt_of_getElem? hlt, hentries, hg]
      exact mem_parkBehind.2 (.inl rfl))
    rw [entriesAt_of_getElem? hlu] at hy
    exact ⟨y, hy, hxy, hsame (fun hne => hne he)⟩

/-- A pending bus is not the waiting head of its lane. -/
theorem Lane.head_ne_of_pending (hf : l.entries.find? (fun x => decide (x.visit.bus = b)) = some e) (hp : e.state ≠ .parked) :
    ∀ h, l.entries.head? = some h → h.state = .parked → h.visit.bus ≠ b := by
  intro h hh hs hb
  cases hx : l.entries with
  | nil => rw [hx] at hh; cases hh
  | cons x xs =>
    rw [hx] at hh hf
    obtain rfl : x = h := by simpa using hh
    rw [List.find?_cons_of_pos (by simpa using hb)] at hf
    exact hp (Option.some.inj hf ▸ hs)

end

end Sys2Proof.Machine

namespace Sys2Proof.Machine

open Sys2Proof

/-! ### A pending bus parks (R58, R60) -/

@[simp] theorem State.freeTag_ownRecord? (tag : Option Tag) (s : State) (b : Nat) (here : Resource) :
    (s.freeTag tag).ownRecord? b here = s.ownRecord? b here := by cases tag <;> rfl

@[simp] theorem State.freeTag_offer (tag : Option Tag) (s : State) : (s.freeTag tag).hand.offer = s.hand.offer := by
  cases tag <;> rfl

theorem State.freeTag_loses (tag : Option Tag) (s : State) : s.Loses (s.freeTag tag) := by
  cases tag with
  | none => exact .refl s
  | some tag => exact State.removeBid_loses tag s

/-- The claim of a pending entry, once it is settled (R60, R95). -/
theorem State.freeTag_settled {tag : Tag} {s : State} :
    (∀ b ∈ (s.freeTag (some tag)).hand.bids, b.tag ≠ tag) ∧
      ∀ x ∈ (s.freeTag (some tag)).line.transmit, x.body.isClaimOf tag = true → x.sending = true := by
  refine ⟨fun b hb => by simpa using (List.mem_filter.1 hb).2, fun x hx hc => ?_⟩
  obtain ⟨-, h⟩ := State.mem_dropFrames.1 hx
  exact h.resolve_right (by rw [hc]; exact Bool.noConfusion)

theorem State.removeItem_of_none {s : State} {k : ItemKey} (h : ∀ i ∈ s.hand.outbound, i.key ≠ k) : s.removeItem k = s := by
  have hlist : s.hand.outbound.filter (fun i => decide (i.key ≠ k)) = s.hand.outbound :=
    List.filter_eq_self.2 (fun i hi => by simpa using h i hi)
  show { s with hand := { s.hand with outbound := s.hand.outbound.filter (fun i => decide (i.key ≠ k)) } } = s
  rw [hlist]

/-- A node that has no record of a bus and no open offer of it has nothing to give up. -/
theorem State.giveUpRecord_of_none {s : State} {b : Nat} {here : Resource} (h : s.ownRecord? b here = none)
    (ho : ∀ o, s.hand.offer = some o → o.key ≠ .bus b) : s.giveUpRecord b here = s.setLanes s.lanes := by
  obtain ⟨hitems, hqueues, hlanes⟩ := State.nowhere_of_ownRecord? h
  have hoffer : s.offerGivenUp b = s := by
    have hcancel : s.cancelOffer (.bus b) = s := by
      cases hoff : s.hand.offer with
      | none => simp [State.cancelOffer, hoff]
      | some o => exact State.cancelOffer_of_ne hoff (ho o hoff)
    rw [State.offerGivenUp, hcancel, State.removeItem_of_none hitems]
  have hqueue : ∀ p, s.queueGivenUp p b here = s := fun p => by
    by_cases hp : here = .point p
    · exact if_pos hp
    · exact State.queueGivenUp_of_none (hqueues p hp)
  rw [State.giveUpRecord_eq', State.queuesGivenUp, hoffer, hqueue, hqueue, State.lanesGivenUp,
    State.removeLaneEntries_of_none (fun n l hl e he => ?_)]
  · cases hoff : s.hand.offer <;> simp [State.testIfClosed, hoff]
  · by_cases hn : here = .lane n
    · simp [hn]
    · by_cases hb : e.visit.bus = b
      · simp [hlanes n l hn hl e he hb]
      · simp [hb]

theorem State.giveUpRecord_lane_here (s : State) (b n : Nat) : (s.giveUpRecord b (.lane n)).lanes[n]? = s.lanes[n]? := by
  rw [State.giveUpRecord_lane]
  cases hl : s.lanes[n]? with
  | none => rfl
  | some l => exact congrArg some (Lane.without_of_none (fun e _ => by simp))

theorem State.classTest_tells (n b old : Nat) (s : State) : s.Tells (s.classTest n b old) := by
  unfold State.classTest
  split
  · exact .refl s
  · exact State.overfullTest_tells n b s

theorem State.holdsBid_iff {s : State} {tag : Option Tag} : s.holdsBid tag = true ↔ ∃ b ∈ s.hand.bids, tag = some b.tag := by
  refine ⟨fun h => ?_, fun ⟨b, hb, h⟩ => List.any_eq_true.2 ⟨b, hb, decide_eq_true h.symm⟩⟩
  obtain ⟨b, hb, h⟩ := List.any_eq_true.1 h
  exact ⟨b, hb, (of_decide_eq_true h).symm⟩

/-- Lane `n` with bus `b` parked in it behind the other buses that stood in `l`, with record `v`, which awaits a RECORD by `a`. -/
def State.ParkedIn (n : Nat) (l : Lane) (b : Nat) (v : VisitRecord) (a : Option Nat) (u : State) : Prop :=
  ∃ l', u.lanes[n]? = some l' ∧ l'.state = l.state ∧
    l'.entries.map (fun x => x.visit)
      = ((l.entries.filter (fun x => decide (x.visit.bus ≠ b) && x.isFront)).map (fun x => x.visit)) ++ [v] ++
        ((l.entries.filter (fun x => decide (x.visit.bus ≠ b) && !x.isFront)).map (fun x => x.visit)) ∧
    ∃ x ∈ l'.entries, x.visit = v ∧ x.state = .parked ∧ x.tag = none ∧ x.value = none ∧ x.deadline = none ∧ x.recordAwaited = a

section
variable {s c t : State} {n : Nat} {g : TagFields} {l : Lane} {e : LaneEntry} (hl : s.lanes[n]? = some l) (hu : l.state ≠ .unknown)
  (hf : l.entries.find? (fun x => decide (x.visit.bus = g.bus)) = some e)
include hl hu hf

theorem State.laneEntryRead_of_front (hp : e.isFront = true) :
    s.laneEntryRead n g = State.settle s (s.modLane n (Lane.reenter g.bus)) := by
  simp only [State.laneEntryRead, hl, if_neg hu, hf]
  cases hs : e.state <;> simp [LaneEntry.isFront, hs] at hp <;> rfl

theorem State.laneEntryRead_of_claimed (h : e.state = .tentative ∨ (e.state = .expected ∧ ∃ b ∈ s.hand.bids, e.tag = some b.tag)) :
    s.laneEntryRead n g = State.settle s (s.parkClaimed n g e) := by
  simp only [State.laneEntryRead, hl, if_neg hu, hf]
  rcases h with hs | ⟨hs, hb⟩ <;> simp only [hs]
  rw [if_pos (State.holdsBid_iff.2 hb)]

theorem State.laneEntryRead_of_expected (hs : e.state = .expected) (hb : ∀ b ∈ s.hand.bids, e.tag ≠ some b.tag) :
    s.laneEntryRead n g = State.settle s (s.parkExpected n e) := by
  simp only [State.laneEntryRead, hl, if_neg hu, hf, hs]
  rw [if_neg (fun h => ?_)]
  obtain ⟨b, hmem, htag⟩ := State.holdsBid_iff.1 h
  exact hb b hmem htag

omit hu in
/-- The lane once a pending bus has parked. -/
theorem State.settle_arrived {v : VisitRecord} {a : Option Nat} (hc : c.lanes[n]? = s.lanes[n]?) (hp : e.isFront = false)
    (hv : v.bus = g.bus) (ht : (c.modLane n (Lane.parkEntry g.bus v a)).Tells t) :
    (State.settle s t).ParkedIn n l g.bus v a := by
  have hentry := Lane.parkEntry_of_entry hf v a
  obtain ⟨l', hl', hstate, hvisits, x, hx, hends, hsame⟩ := State.settle_parked (e := e.arrived v a) hl (hc.trans hl)
    (g := Lane.parkEntry g.bus v a) (by rw [hentry]; rfl) (by rw [hentry]) hv
    (Lane.head_ne_of_pending hf (fun h => by simp [LaneEntry.isFront, h] at hp)) ht
  refine ⟨l', hl', hstate, by rw [hvisits, Lane.moved_map]; rfl, x, hx, hends.visit, hsame, ?_⟩
  rw [hends.rest]
  exact ⟨rfl, rfl, rfl, rfl⟩

end

/-! ### The record given up at its old place (R20, R38) -/

theorem State.Gone.tells {q : Prop} {b : Nat} {R : Resource → Prop} {s t : State} (h : s.Gone q b R) (ht : s.Tells t) : t.Gone q b R where
  toClosed := h.toClosed.of_hand (by rw [ht.hand]) (by rw [ht.hand]) (fun _ y hy =>
    (ht.from_ y hy).imp_right (fun ⟨ho, _⟩ n sup c hb => by rw [hb] at ho; cases ho))
  queues := fun p hp x hx hb => h.queues p hp x (by rw [ht.point] at hx; exact hx) hb
  lanes := fun n l' hn hl' x hx hb => by
    obtain ⟨l, hl, hentries, -⟩ := exists_lane_of_forall₂ (R := fun l' l : Lane => l'.entries = l.entries ∧ l'.state = l.state)
      ht.lanes.flip hl'
    exact h.lanes n l hn hl x (hentries ▸ hx) hb

theorem State.Gone.modLane {q : Prop} {b n : Nat} {s : State} (h : s.Gone q b (fun r => r ≠ .lane n)) (f : Lane → Lane) :
    (s.modLane n f).Gone q b (fun r => r ≠ .lane n) := by
  refine State.Gone.setLanes (lanes := s.lanes.modify n f) h (fun k l' hk hl' x hx hb => ?_)
  have hne : k ≠ n := fun hkn => hk (congrArg Resource.lane hkn)
  rw [List.getElem?_modify_ne f s.lanes (Ne.symm hne)] at hl'
  exact h.lanes k l' hk hl' x hx hb

theorem State.gaveUp_of_gone {s u : State} {b : Nat} {here : Resource}
    (h : u.Gone (∃ o, s.hand.offer = some o ∧ o.key = .bus b) b (fun r => r ≠ here)) : s.gaveUp u b here := by
  refine ⟨h.items, h.offer, fun o ho hk y hy n sup r hb hr => h.frames ⟨o, ho, hk⟩ y hy n sup _ hb (by rw [Cargo.key, hr]),
    fun p hp x hx hf hb => ?_, fun n l hn hl x hx hf hb => ?_⟩
  · rw [h.queues p (Ne.symm hp) x hx hb] at hf; cases hf
  · rw [h.lanes n l (Ne.symm hn) hl x hx hb] at hf; cases hf

end Sys2Proof.Machine

namespace Sys2Proof.Machine

open Sys2Proof

/-! ### What the reads of pending buses tell -/

section
variable {s c : State} {n b : Nat} {l : Lane} {e : LaneEntry} (hl : c.lanes[n]? = some l)
  (hf : l.entries.find? (fun x => decide (x.visit.bus = b)) = some e)
include hl hf

/-- With the class it had before, a bus that parks makes no OVERFULL test (R49). -/
theorem State.classTest_of_parked {v : VisitRecord} {a : Option Nat} {old : Nat} (hv : v.bus = b) (hcls : v.cls = old) :
    (c.modLane n (Lane.parkEntry b v a)).classTest n b old = c.modLane n (Lane.parkEntry b v a) := by
  have hlane := State.modLane_lane_self (Lane.parkEntry b v a) hl
  have hfind : (l.parkEntry b v a).entries.find? (fun x => decide (x.visit.bus = b)) = some (e.arrived v a) := by
    rw [Lane.parkEntry_of_entry hf]
    refine find?_of_unique (mem_parkBehind.2 (.inl rfl)) (decide_eq_true hv) (fun y hy hb => ?_)
    rcases mem_parkBehind.1 hy with h | h
    · exact h
    · exact absurd (of_decide_eq_true hb) (of_decide_eq_true (List.mem_filter.1 h).2)
  refine if_pos ?_
  rw [State.classIn, State.laneEntry?, hlane]
  show (((l.parkEntry b v a).entries.find? (fun x => decide (x.visit.bus = b))).map (fun e => e.visit.cls)).getD 0 = old
  rw [hfind]
  exact hcls

end

section
variable {s : State} {n : Nat} {l : Lane} {e : LaneEntry} (hl : s.lanes[n]? = some l)
  (hf : l.entries.find? (fun x => decide (x.visit.bus = e.visit.bus)) = some e)
include hl hf

/-- The EXPECTED bus of a node that has no record of it elsewhere. -/
theorem State.parkExpected_reports (hcls : (s.claimOwn e.visit.bus (.lane n) .parked e.visit).cls = e.visit.cls) :
    (State.settle s (s.parkExpected n e)).loader.reports = s.loader.reports := by
  rw [(State.settle_ends s _).reports, State.parkExpected,
    State.classTest_of_parked ((State.giveUpRecord_lane_here s _ n).trans hl) hf (State.claimOwn_bus ..) hcls]
  exact (State.giveUpRecord_rest _ _ s).2.2.1

end

/-! ### The claim of a bus that parks, settled -/

section
variable {s : State} {n : Nat} {g : TagFields} {e : LaneEntry}

/-- The node in which the bus of an open claim stands in its lane, before it is announced. -/
def State.claimParked (n : Nat) (g : TagFields) (e : LaneEntry) (s : State) : State :=
  ((s.freeTag e.tag).giveUpRecord e.visit.bus (.lane n)).modLane n (Lane.parkEntry e.visit.bus
    (s.claimedRecord g (.lane n) .parked e.visit).1
    (s.recordDeadline (s.claimedRecord g (.lane n) .parked e.visit).2))

theorem State.parkClaimed_tells (n : Nat) (g : TagFields) (e : LaneEntry) (s : State) :
    (s.claimParked n g e).Tells (s.parkClaimed n g e) := by
  rw [State.parkClaimed_eq]
  exact (State.announceStray_tells _ _ _ _).trans (State.classTest_tells _ _ _ _)

/-- Bid entry, BID and TAKE of a settled claim go with the read. -/
theorem State.parkClaimed_settled (tag : Tag) (he : e.tag = some tag) :
    (∀ b ∈ (State.settle s (s.parkClaimed n g e)).hand.bids, b.tag ≠ tag) ∧
      ∀ x ∈ (State.settle s (s.parkClaimed n g e)).line.transmit, x.body.isClaimOf tag = true → x.sending = true := by
  have hsends := State.settle_sends s (s.parkClaimed n g e)
  have htells := State.parkClaimed_tells n g e s
  have hgiven := State.giveUpRecord_sends e.visit.bus (.lane n) (s.freeTag e.tag)
  obtain ⟨hbids, hframes⟩ := State.freeTag_settled (tag := tag) (s := s)
  refine ⟨fun b hb => hbids b ?_, fun x hx hc => hframes x ?_ hc⟩
  · have hb' := hsends.bids.subset hb
    rw [htells.hand] at hb'
    rw [← he]
    exact hgiven.bids.subset hb'
  · have hx' := (htells.from_ x (hsends.claim hx hc)).resolve_right (fun h => by rw [h.2] at hc; cases hc)
    rw [← he]
    exact hgiven.claim hx' hc

theorem State.parkClaimed_frame (hroom : ((s.freeTag e.tag).giveUpRecord e.visit.bus (.lane n)).canPlace .urgent = true) :
    ∃ x ∈ (State.settle s (s.parkClaimed n g e)).line.transmit, x.body = .stray e.visit.bus (.lane n) ∧ x.destination = 15 ∧
      x.cls = .urgent := by
  obtain ⟨x, hx, hbody, hdest, hcls, hd⟩ := State.announceStray_frame (s := s.claimParked n g e) (b := e.visit.bus)
    (here := .lane n) (awaited := (s.claimedRecord g (.lane n) .parked e.visit).2) hroom
  have hx' : x ∈ (s.parkClaimed n g e).line.transmit := by
    rw [State.parkClaimed_eq]
    exact (State.classTest_tells _ _ _ _).frames x hx hd
  exact ⟨x, (State.settle_sends s _).kept_frame hx' hd (by rw [hbody]; rfl) (fun tag => by rw [hbody]; rfl), hbody, hdest, hcls⟩

theorem State.parkClaimed_report (ha : s.active = true) (hroom : s.loader.reports.length < Config.reportCapacity) :
    ∃ x ∈ (State.settle s (s.parkClaimed n g e)).loader.reports, x.body = .stray e.visit.bus (.lane n)
      (if (s.claimedRecord g (.lane n) .parked e.visit).2 then .awaited else .notAwaited) := by
  have hreports : (s.claimParked n g e).loader.reports = s.loader.reports :=
    (State.giveUpRecord_rest _ _ _).2.2.1.trans (by rw [(State.freeTag_loses e.tag s).loader])
  have hactive : (s.claimParked n g e).active = true := by
    have hfreed : (s.freeTag e.tag).active = s.active := by rw [State.active, (State.freeTag_loses e.tag s).loader]; rfl
    exact (State.active_of_steady (State.giveUpRecord_steady e.visit.bus (.lane n) (s.freeTag e.tag))).trans (hfreed.trans ha)
  rw [(State.settle_ends s _).reports, State.parkClaimed_eq]
  exact State.announceStray_classTest_report hactive (lt_of_eq_of_lt (congrArg List.length hreports) hroom)

end

end Sys2Proof.Machine

namespace Sys2Proof.Machine

open Sys2Proof

/-! ### A bus read again in its lane (R59, R133) -/

section
variable {s : State} {n b : Nat} {l : Lane} {e : LaneEntry} (hl : s.lanes[n]? = some l)
  (hf : l.entries.find? (fun x => decide (x.visit.bus = b)) = some e)
include hl hf

theorem State.reentered_lane : ∃ l', (s.modLane n (Lane.reenter b)).lanes[n]? = some l' ∧
    l' = { l with entries := l.moved b { e with unconfirmed := false } } :=
  ⟨_, State.modLane_lane_self _ hl, Lane.reenter_of_entry hf⟩

theorem State.reentered_lost (n' : Nat) : s.lostEntry (s.modLane n (Lane.reenter b)) n' = false := by
  refine State.lostEntry_eq_false (fun k k' hk hk' x hx => ?_)
  by_cases hn : n' = n
  · subst hn
    obtain ⟨l', hl', heq⟩ := State.reentered_lane hl hf
    rw [hl] at hk; cases hk
    rw [hl'] at hk'; cases hk'
    rw [heq]
    exact Lane.moved_bus (e := { e with unconfirmed := false }) (Lane.entry?_spec hf).2 hx
  · rw [State.modLane_lane_of_ne _ hn, hk] at hk'
    cases hk'
    exact ⟨x, hx, rfl⟩

omit hl in
theorem Lane.head_of_bus {h : LaneEntry} (hh : l.entries.head? = some h) (hb : h.visit.bus = b) : h = e := by
  cases hx : l.entries with
  | nil => rw [hx] at hh; cases hh
  | cons x xs =>
    rw [hx] at hh hf
    obtain rfl : x = h := by simpa using hh
    rw [List.find?_cons_of_pos (by simpa using hb)] at hf
    exact Option.some.inj hf

omit hl in
/-- The head of a lane stands in the list still, asking as it did. -/
theorem Lane.moved_keeps_head {h : LaneEntry} (hh : l.entries.head? = some h) :
    ∃ x ∈ l.moved b { e with unconfirmed := false }, x.state = h.state ∧ x.ask = h.ask ∧ x.visit = h.visit := by
  by_cases hb : h.visit.bus = b
  · have hhe := Lane.head_of_bus hf hh hb
    subst hhe
    exact ⟨_, mem_parkBehind.2 (.inl rfl), rfl, rfl, rfl⟩
  · exact ⟨h, mem_parkBehind.2 (.inr (List.mem_filter.2 ⟨List.mem_of_mem_head? hh, by simpa using hb⟩)), rfl, rfl, rfl⟩

/-- Where the head is not held no entry of the lane is called: an ASKING head waits for the node's own offer still (R142). -/
theorem State.reentered_states (hheld : s.headHeld n = false) :
    (s.modLane n (Lane.reenter b)).CallsOnly (fun _ => False) n (State.settle s (s.modLane n (Lane.reenter b))) := by
  obtain ⟨l', hl', heq⟩ := State.reentered_lane hl hf
  have hlost := State.reentered_lost hl hf n
  by_cases hw : s.headWaits n = true
  · obtain ⟨h, hh, hp, hwait⟩ := (State.headWaits_iff s n).1 hw
    have hnot : s.isHeld h = false := by
      by_contra hc
      exact Bool.false_ne_true (hheld ▸ (State.headHeld_iff s n).2 ⟨h, hh, hp, by simpa using hc⟩)
    have hask := hwait.resolve_left (by rw [hnot]; exact Bool.false_ne_true)
    simp only [State.awaitsOwnOffer, Bool.and_eq_true, decide_eq_true_eq] at hask
    obtain ⟨hasking, hrun⟩ := hask
    obtain ⟨o, ho, hk, hphase⟩ := (State.swapRunWaiting_iff s h.visit.duty.run).1 hrun
    have hlane : l.entries.head? = some h := by rw [State.head?, hl] at hh; exact hh
    obtain ⟨x, hx, hxs, hxa, hxv⟩ := Lane.moved_keeps_head hf hlane
    have hentry : x ∈ entriesAt (s.modLane n (Lane.reenter b)).lanes n := by
      rw [entriesAt_of_getElem? hl', heq]; exact hx
    have hasks : ∀ u : State, (s.modLane n (Lane.reenter b)).CallsOnly (fun _ => False) n u → u.asksFor h.visit.duty.run = true := by
      intro u hu
      obtain ⟨y, hy, hends, hsame⟩ := hu.mem hentry
      obtain ⟨k, hk, hyk⟩ := mem_entriesAt.1 hy
      refine List.any_eq_true.2 ⟨y, List.mem_flatMap.2 ⟨k, List.mem_of_getElem? hk, hyk⟩, ?_⟩
      have hya : y.ask = x.ask := by rw [hends.rest]
      simp [LaneEntry.asksFor, hsame id, hxs, hp, hya, hxa, hasking, hends.visit, hxv]
    refine (State.settle_callsOnly (I := fun u => u.hand.offer = some o) hlost ?_ (fun u k hoff hu hfreed => ?_)
      (fun u hoff _ hfreed => ?_)).1
    · refine State.withdrawSwaps_offer (by rw [State.dropLostHeads_hand]; exact ho) hphase (fun r hr => ?_)
      rw [hk] at hr; cases hr
      exact hasks _ (State.dropLostHeads_callsOnly _ n _)
    · rcases State.headTest_cases k u with hid | ⟨-, -, x', hx', -, hcall⟩
      · rw [hid]; exact hoff
      · have hkn : n ≠ k := by
          rintro rfl
          obtain ⟨z, hz, -⟩ := hu.head? hx'
          exact hfreed rfl z hz
        rw [hcall, State.callEntry]
        refine State.withdrawSwaps_offer (by rw [State.send_hand]; exact hoff) hphase (fun r hr => ?_)
        rw [hk] at hr; cases hr
        refine hasks _ (hu.trans (.of_lane ?_))
        rw [State.lanes_of_offers (State.send_sansOffers _ _)]
        exact State.modLane_lane_of_ne _ hkn
    · have hsame : u.swapRunWaiting = s.swapRunWaiting := by
        rw [hrun]
        exact (State.swapRunWaiting_iff u _).2 ⟨o, hoff, hk, hphase⟩
      simp [State.headFreed, hheld, hsame] at hfreed
  · refine (State.settle_callsOnly (I := fun _ => True) hlost trivial (fun _ _ _ _ _ => trivial) (fun u _ _ hfreed => ?_)).1
    simp [State.headFreed, hw] at hfreed

/-- A bus with another in front of it is not the head. -/
theorem State.reentered_behind (hb : ∃ y ∈ l.entries, y.isFront = true ∧ y.visit.bus ≠ b) :
    (s.modLane n (Lane.reenter b)).CallsOnly (· ≠ b) n (State.settle s (s.modLane n (Lane.reenter b))) := by
  obtain ⟨l', hl', heq⟩ := State.reentered_lane hl hf
  refine State.settle_keeps_state (State.reentered_lost hl hf n) (fun _ h hh => ?_)
  obtain ⟨y, hy, hfront, hne⟩ := hb
  have hmem : y ∈ (l.entries.filter (fun x => decide (x.visit.bus ≠ b))).filter LaneEntry.isFront :=
    List.mem_filter.2 ⟨List.mem_filter.2 ⟨hy, decide_eq_true hne⟩, hfront⟩
  rw [State.head?, hl', heq] at hh
  cases hlist : (l.entries.filter (fun x => decide (x.visit.bus ≠ b))).filter LaneEntry.isFront with
  | nil => rw [hlist] at hmem; cases hmem
  | cons z zs =>
    have hz : z = h := by
      simp only [Option.bind_some, Lane.moved, parkBehind, hlist, List.cons_append, List.head?_cons, Option.some.injEq] at hh
      exact hh
    have hzmem : z ∈ (l.entries.filter (fun x => decide (x.visit.bus ≠ b))).filter LaneEntry.isFront := by rw [hlist]; simp
    rw [← hz]
    exact of_decide_eq_true (List.mem_filter.1 (List.mem_filter.1 hzmem).1).2

/-- A bus that is alone in the front part stays PARKED, where the lane's head is held and every SWAP bid names a PARKED head (R145). -/
theorem State.reentered_alone (hheld : s.headHeld n = true) (hone : ∀ y ∈ l.entries, y.isFront = true → y.visit.bus = b)
    (hheads : ∀ x ∈ s.hand.bids, ∀ h, x.head = some h → s.isParkedHead x.resource h.bus = true) (q : Nat → Prop) :
    (s.modLane n (Lane.reenter b)).CallsOnly q n (State.settle s (s.modLane n (Lane.reenter b))) := by
  obtain ⟨l', hl', heq⟩ := State.reentered_lane hl hf
  obtain ⟨h, hh, hp, -⟩ := (State.headHeld_iff s n).1 hheld
  have hlane : l.entries.head? = some h := by rw [State.head?, hl] at hh; exact hh
  have hhe : h = e := Lane.head_of_bus hf hlane
    (hone h (List.mem_of_mem_head? hlane) (by simp [LaneEntry.isFront, hp]))
  subst hhe
  have hfront : (l.entries.filter (fun x => decide (x.visit.bus ≠ b))).filter LaneEntry.isFront = [] :=
    List.filter_eq_nil_iff.2 (fun y hy hy' =>
      of_decide_eq_true (List.mem_filter.1 hy).2 (hone y (List.mem_filter.1 hy).1 hy'))
  have hkept : s.HeadsKept (s.modLane n (Lane.reenter b)) := fun k x hx hxp => by
    by_cases hk : k = n
    · subst hk
      obtain rfl := Option.some.inj (hh.symm.trans hx)
      refine ⟨{ h with unconfirmed := false }, ?_, hp, rfl, rfl, rfl⟩
      rw [State.head?, hl', heq]
      simp only [Option.bind_some, Lane.moved, parkBehind, hfront, List.nil_append, List.singleton_append, List.head?_cons]
    · exact ⟨x, by rw [State.head?, State.modLane_lane_of_ne _ hk]; exact hx, hxp, rfl, rfl, rfl⟩
  rw [State.settle_of_kept (State.reentered_lost hl hf) hkept (fun x hx y hy => ⟨x, hx, hy⟩)
    (State.lostBids_eq_nil (fun x hx y hy => hkept.isParkedHead (hheads x hx y hy))) (fun o r ho _ _ => ho)]
  exact (State.dropLostHeads_callsOnly q n _).trans (.of_lane (by rw [State.lanes_of_offers (State.withdrawSwaps_sansOffers _)]))

/-- The lane after the read: visits, and states where none is called. -/
theorem State.reentered_read : ∃ l', (State.settle s (s.modLane n (Lane.reenter b))).lanes[n]? = some l' ∧ l'.state = l.state ∧
    l'.overfull = l.overfull ∧
    l'.entries.map (fun x => x.visit) = (l.moved b { e with unconfirmed := false }).map (fun x => x.visit) ∧
    (s.headHeld n = false →
      l'.entries.map (fun x => x.state) = (l.moved b { e with unconfirmed := false }).map (fun x => x.state)) ∧
    ∃ x ∈ l'.entries, LaneEntry.Ends { e with unconfirmed := false } x ∧
      (s.headHeld n = false ∨ (∃ y ∈ l.entries, y.isFront = true ∧ y.visit.bus ≠ b) ∨
        (∀ a ∈ s.hand.bids, ∀ h, a.head = some h → s.isParkedHead a.resource h.bus = true) → x.state = e.state) := by
  obtain ⟨lt, hlt, heq⟩ := State.reentered_lane hl hf
  obtain ⟨lu, hlu, hends⟩ := (State.settle_ends s (s.modLane n (Lane.reenter b))).lane hlt
  have hentries : lt.entries = l.moved b { e with unconfirmed := false } := by rw [heq]
  have hmem : { e with unconfirmed := false } ∈ l.moved b { e with unconfirmed := false } := mem_parkBehind.2 (.inl rfl)
  refine ⟨lu, hlu, by rw [hends.rest, heq], by rw [hends.rest, heq], ?_, fun hheld => ?_, ?_⟩
  · rw [map_eq_of_ends (fun _ _ h => h.visit) hends.entries, hentries]
  · have hstates := (State.reentered_states hl hf hheld).states
    rw [entriesAt_of_getElem? hlu, entriesAt_of_getElem? hlt, hentries] at hstates
    exact hstates
  · have hfrom : ∀ {q : Nat → Prop}, ¬ q e.visit.bus →
        (s.modLane n (Lane.reenter b)).CallsOnly q n (State.settle s (s.modLane n (Lane.reenter b))) →
        ∃ x ∈ lu.entries, LaneEntry.Ends { e with unconfirmed := false } x ∧ x.state = e.state := by
      intro q hq hcalls
      obtain ⟨x, hx, hxe, hsame⟩ := hcalls.mem (by rw [entriesAt_of_getElem? hlt, hentries]; exact hmem)
      rw [entriesAt_of_getElem? hlu] at hx
      exact ⟨x, hx, hxe, hsame hq⟩
    have hbus : ¬ e.visit.bus ≠ b := fun h => h (Lane.entry?_spec hf).2
    by_cases hcond : s.headHeld n = false ∨ (∃ y ∈ l.entries, y.isFront = true ∧ y.visit.bus ≠ b) ∨
        (∀ a ∈ s.hand.bids, ∀ h, a.head = some h → s.isParkedHead a.resource h.bus = true)
    · suffices h : ∃ x ∈ lu.entries, LaneEntry.Ends { e with unconfirmed := false } x ∧ x.state = e.state by
        obtain ⟨x, hx, hxe, hsame⟩ := h
        exact ⟨x, hx, hxe, fun _ => hsame⟩
      by_cases hheld : s.headHeld n = false
      · exact hfrom id (State.reentered_states hl hf hheld)
      · by_cases hbehind : ∃ y ∈ l.entries, y.isFront = true ∧ y.visit.bus ≠ b
        · exact hfrom hbus (State.reentered_behind hl hf hbehind)
        · refine hfrom hbus (State.reentered_alone (q := (· ≠ b)) hl hf (by simpa using hheld) (fun y hy hyf => ?_)
            ((hcond.resolve_left hheld).resolve_left hbehind))
          by_contra hne
          exact hbehind ⟨y, hy, hyf, hne⟩
    · obtain ⟨x, hx, hxe⟩ := exists_of_forall₂_left hends.entries (hentries ▸ hmem)
      exact ⟨x, hx, hxe, fun h => absurd h hcond⟩

end

end Sys2Proof.Machine

namespace Sys2Proof.Machine

open Sys2Proof

/-! ### A bus that leaves its lane (R64 to R66, R137) -/

/-- The lane as the leaving bus is read: the buses in front of it marked, or its claim given up. -/
def State.leaving (n b : Nat) (e : LaneEntry) (s : State) : State :=
  if e.isFront then s.modLane n (fun l => { l with entries := markInFront b l.entries }) else s.freeTag e.tag

/-- The node without the bus that has left, before its GONE. -/
def State.departed (n b : Nat) (e : LaneEntry) (s : State) : State :=
  (s.leaving n b e).removeLaneEntries (fun k x => decide (k = n) && decide (x.visit.bus = b))

theorem markInFront_filter_visits (b : Nat) (l : List LaneEntry) :
    ((markInFront b l).filter (fun x => decide (x.visit.bus ≠ b))).map (fun x => x.visit)
      = (l.filter (fun x => decide (x.visit.bus ≠ b))).map (fun x => x.visit) := by
  induction l with
  | nil => rfl
  | cons x xs ih =>
    unfold markInFront
    split
    · rfl
    · next hb =>
      split <;> simpa [hb] using ih

theorem markInFront_append {b : Nat} {ahead back : List LaneEntry} {e : LaneEntry} (he : e.visit.bus = b)
    (ha : ∀ x ∈ ahead, x.visit.bus ≠ b) : markInFront b (ahead ++ e :: back) =
      ahead.map (fun x => if x.isFront then { x with unconfirmed := true } else x) ++ e :: back := by
  induction ahead with
  | nil => simp [markInFront, he]
  | cons x xs ih =>
    rw [List.cons_append, markInFront, if_neg (ha x List.mem_cons_self), ih (fun y hy => ha y (List.mem_cons_of_mem _ hy))]
    rfl

/-- The buses that stood in front of the one that left are marked, and no other (R65). -/
theorem markInFront_unconfirmed {b : Nat} {ahead back : List LaneEntry} {e : LaneEntry} (he : e.visit.bus = b)
    (hother : ∀ x ∈ ahead ++ back, x.visit.bus ≠ b) :
    ((markInFront b (ahead ++ e :: back)).filter (fun x => decide (x.visit.bus ≠ b))).map (fun x => x.unconfirmed)
      = ahead.map (fun x => x.isFront || x.unconfirmed) ++ back.map (fun x => x.unconfirmed) := by
  have hfirst : ∀ x ∈ ahead.map (fun x => if x.isFront then { x with unconfirmed := true } else x), x.visit.bus ≠ b := by
    intro x hx
    obtain ⟨y, hy, rfl⟩ := List.mem_map.1 hx
    have hb := hother y (List.mem_append_left _ hy)
    split <;> exact hb
  have hmark : ∀ x : LaneEntry, (if x.isFront then { x with unconfirmed := true } else x).unconfirmed
      = (x.isFront || x.unconfirmed) := fun x => by split <;> simp_all
  rw [markInFront_append he (fun x hx => hother x (List.mem_append_left _ hx)), List.filter_append,
    List.filter_eq_self.2 (fun x hx => decide_eq_true (hfirst x hx)), List.filter_cons, if_neg (by simp [he]),
    List.filter_eq_self.2 (fun x hx => decide_eq_true (hother x (List.mem_append_right _ hx))), List.map_append, List.map_map]
  congr 1
  exact List.map_congr_left (fun x _ => hmark x)

section
variable {s : State} {n : Nat} {g : TagFields} {l : Lane} {e : LaneEntry} (hl : s.lanes[n]? = some l)
include hl

theorem State.laneExitRead_of_entry (hf : l.entries.find? (fun x => decide (x.visit.bus = g.bus)) = some e) :
    s.laneExitRead n g = State.settle s ((s.departed n g.bus e).sendGone n e) := by
  simp only [State.laneExitRead, hl, hf]
  rfl

theorem State.laneExitRead_of_none (hf : ∀ x ∈ l.entries, x.visit.bus ≠ g.bus) :
    s.laneExitRead n g = s.send (.gone (unlistedRecord g s.clock.m) n s.clock.m false false true) := by
  have hnone : l.entries.find? (fun x => decide (x.visit.bus = g.bus)) = none :=
    List.find?_eq_none.2 (fun x hx h => hf x hx (of_decide_eq_true h))
  simp only [State.laneExitRead, hl, hnone]

/-- The lane of a bus that left. -/
theorem State.departed_lane (b : Nat) (e : LaneEntry) : ∃ l', (s.departed n b e).lanes[n]? = some l' ∧
    l'.entries = (if e.isFront then markInFront b l.entries else l.entries).filter (fun x => decide (x.visit.bus ≠ b)) := by
  have hleaving : ∃ l₀, (s.leaving n b e).lanes[n]? = some l₀ ∧
      l₀.entries = if e.isFront then markInFront b l.entries else l.entries := by
    unfold State.leaving
    split
    · exact ⟨_, State.modLane_lane_self _ hl, rfl⟩
    · exact ⟨l, by rw [State.freeTag_lanes]; exact hl, rfl⟩
  obtain ⟨l₀, hl₀, hentries⟩ := hleaving
  refine ⟨_, by rw [State.departed, State.removeLaneEntries_lane, hl₀]; rfl, ?_⟩
  rw [Lane.without_entries, hentries]
  simp

end

theorem State.departed_rest (n b : Nat) (e : LaneEntry) (s : State) : (s.departed n b e).loader = s.loader ∧
    (s.departed n b e).clock = s.clock ∧ (∀ p, (s.departed n b e).point p = s.point p) ∧
    (s.canPlace .normal = true → (s.departed n b e).canPlace .normal = true) := by
  have hleaving : (s.leaving n b e).loader = s.loader ∧ (s.leaving n b e).clock = s.clock ∧
      (∀ p, (s.leaving n b e).point p = s.point p) ∧
      (s.canPlace .normal = true → (s.leaving n b e).canPlace .normal = true) := by
    unfold State.leaving
    split
    · exact ⟨rfl, rfl, fun p => by cases p <;> rfl, id⟩
    · have hloses := State.freeTag_loses e.tag s
      exact ⟨hloses.loader, hloses.clock, State.freeTag_point e.tag s, hloses.canPlace⟩
  obtain ⟨hl, hc, hp, hr⟩ := hleaving
  exact ⟨hl, hc, fun p => (by cases p <;> rfl : _ = (s.leaving n b e).point p).trans (hp p), hr⟩

/-- A bus that leaves goes with a GONE alone: no report, and the points stay. -/
theorem State.departed_told (n b : Nat) (e : LaneEntry) (s : State) :
    (State.settle s ((s.departed n b e).sendGone n e)).loader.reports = s.loader.reports ∧
      (∀ p, (State.settle s ((s.departed n b e).sendGone n e)).point p = s.point p) ∧
      (s.canPlace .normal = true → ∃ x ∈ (State.settle s ((s.departed n b e).sendGone n e)).line.transmit, x.destination = 15 ∧
        x.body = .gone e.visit n s.clock.m (goneLate e.visit s.clock.m) (goneEarly e.visit e.state) false) := by
  obtain ⟨hloader, hclock, hpoint, hroom⟩ := State.departed_rest n b e s
  have hends := State.settle_ends s ((s.departed n b e).sendGone n e)
  refine ⟨?_, fun p => ?_, fun h => ?_⟩
  · rw [hends.reports, State.sendGone, State.send_reports, hloader]
  · rw [hends.point, State.sendGone, State.send_point, hpoint]
  · have hmem := State.mem_place (.gone e.visit n s.clock.m (goneLate e.visit s.clock.m) (goneEarly e.visit e.state) false)
      Config.broadcast (s.departed n b e) (hroom h)
    have hsent : (s.departed n b e).sendGone n e
        = (s.departed n b e).place (.gone e.visit n s.clock.m (goneLate e.visit s.clock.m) (goneEarly e.visit e.state) false)
          Config.broadcast := by rw [State.sendGone, hclock]; rfl
    rw [← hsent] at hmem
    exact ⟨_, (State.settle_sends s _).kept_frame hmem rfl rfl (fun _ => rfl), rfl, rfl⟩

/-- The claim of a pending bus that left is given up (R66). -/
theorem State.departed_settled {s : State} {n b : Nat} {e : LaneEntry} {tag : Tag} (hf : e.isFront = false) (he : e.tag = some tag) :
    (∀ x ∈ (State.settle s ((s.departed n b e).sendGone n e)).hand.bids, x.tag ≠ tag) ∧
      ∀ x ∈ (State.settle s ((s.departed n b e).sendGone n e)).line.transmit, x.body.isClaimOf tag = true → x.sending = true := by
  have hsends := State.settle_sends s ((s.departed n b e).sendGone n e)
  have htells : (s.departed n b e).Tells ((s.departed n b e).sendGone n e) := State.send_tells rfl (fun _ => rfl) _
  have hleaving : s.leaving n b e = s.freeTag (some tag) := by rw [State.leaving, hf, he]; rfl
  obtain ⟨hbids, hframes⟩ := State.freeTag_settled (tag := tag) (s := s)
  rw [← hleaving] at hbids hframes
  refine ⟨fun x hx => hbids x ?_, fun x hx hc => hframes x ?_ hc⟩
  · have hx' := hsends.bids.subset hx
    rw [htells.hand] at hx'
    exact hx'
  · exact (htells.from_ x (hsends.claim hx hc)).resolve_right (fun h => by rw [h.2] at hc; cases hc)

/-- The lane of a bus that left, once heads and swap requests are tested. -/
theorem State.departed_lists {s : State} {n : Nat} {l : Lane} (hl : s.lanes[n]? = some l) (b : Nat) (e : LaneEntry) :
    ∃ l', (State.settle s ((s.departed n b e).sendGone n e)).lanes[n]? = some l' ∧
      l'.entries.map (fun x => x.visit) = (l.entries.filter (fun x => decide (x.visit.bus ≠ b))).map (fun x => x.visit) ∧
      l'.entries.map (fun x => x.unconfirmed) = ((if e.isFront then markInFront b l.entries else l.entries).filter
        (fun x => decide (x.visit.bus ≠ b))).map (fun x => x.unconfirmed) := by
  obtain ⟨l₁, hl₁, hentries⟩ := State.departed_lane hl b e
  have htells : (s.departed n b e).Tells ((s.departed n b e).sendGone n e) := State.send_tells rfl (fun _ => rfl) _
  obtain ⟨l₂, hl₂, hsame, -⟩ := htells.lane hl₁
  obtain ⟨l₃, hl₃, hends⟩ := (State.settle_ends s _).lane hl₂
  refine ⟨l₃, hl₃, ?_, ?_⟩
  · rw [map_eq_of_ends (fun _ _ h => h.visit) hends.entries, hsame, hentries]
    split
    · exact markInFront_filter_visits b l.entries
    · rfl
  · rw [map_eq_of_ends (fun _ _ h => by rw [h.rest]) hends.entries, hsame, hentries]

end Sys2Proof.Machine

namespace Sys2Proof.Machine

open Sys2Proof

/-! ## The reads at a lane, by the entry they find (R57 to R66) -/

theorem State.clock_of_steady {s t : State} (h : t.steady = s.steady) : t.clock = s.clock := congrArg (fun x => x.2.1) h

theorem State.timeline_of_still {s t : State} (h : t.still = s.still) : t.timeline = s.timeline := congrArg (fun x => x.1) h

theorem State.lateRuns_of_still {s t : State} (h : t.still = s.still) : t.lateRuns = s.lateRuns := congrArg (fun x => x.2.1) h

section
variable {s : State} {n : Nat} {g : TagFields} {l : Lane} {e : LaneEntry} {r : VisitRecord}

theorem State.parkExpected_eq (hb : e.visit.bus = g.bus) : s.parkExpected n e =
    ((s.giveUpRecord g.bus (.lane n)).modLane n (Lane.parkEntry g.bus (s.claimOwn g.bus (.lane n) .parked e.visit)
      e.recordAwaited)).classTest n g.bus e.visit.cls := by
  rw [← hb]
  rfl

theorem State.claimParked_eq (hb : e.visit.bus = g.bus) : s.claimParked n g e =
    ((s.freeTag e.tag).giveUpRecord g.bus (.lane n)).modLane n (Lane.parkEntry g.bus
      (s.claimedRecord g (.lane n) .parked e.visit).1 (s.recordDeadline (s.claimedRecord g (.lane n) .parked e.visit).2)) := by
  rw [← hb]
  rfl

theorem State.claimOwn_of_none (h : s.ownRecord? g.bus (.lane n) = none) (copy : VisitRecord) :
    s.claimOwn g.bus (.lane n) .parked copy = copy := by rw [State.claimOwn, h]

theorem State.claimOwn_of_own (h : s.ownRecord? g.bus (.lane n) = some r) (copy : VisitRecord) :
    s.claimOwn g.bus (.lane n) .parked copy = { r with next := .parked } := by rw [State.claimOwn, h]

theorem State.claimedRecord_of_none {here : Resource} {copy : VisitRecord} (hb : copy.bus = g.bus)
    (h : s.ownRecord? g.bus here = none) (next : NextStage) : s.claimedRecord g here next copy =
    ({ copy with cls := g.cls, fuelLevel := g.fuel, washRequest := g.wash, next := next, stray := true }, true) := by
  have h' : s.ownRecord? copy.bus here = none := hb.symm ▸ h
  rw [State.claimedRecord, h']
  rfl

theorem State.claimedRecord_of_own {here : Resource} {copy : VisitRecord} (hb : copy.bus = g.bus)
    (h : s.ownRecord? g.bus here = some r) (next : NextStage) : s.claimedRecord g here next copy =
    ({ r with next := next, stray := true }, false) := by
  rw [State.claimedRecord, hb, h]

/-- A bus that parks under an open claim leaves the points as they are, where the node has no record of it to give up. -/
theorem State.parkClaimed_points (hb : e.visit.bus = g.bus) (hown : s.ownRecord? g.bus (.lane n) = none)
    (ho : ∀ o, s.hand.offer = some o → o.key ≠ .bus g.bus) (p : PointId) :
    (State.settle s (s.parkClaimed n g e)).point p = s.point p := by
  have hgiven : (s.freeTag e.tag).giveUpRecord g.bus (.lane n) = (s.freeTag e.tag).setLanes (s.freeTag e.tag).lanes :=
    State.giveUpRecord_of_none (by rw [State.freeTag_ownRecord?]; exact hown) (by rw [State.freeTag_offer]; exact ho)
  rw [(State.settle_ends s _).point, (State.parkClaimed_tells n g e s).point, State.claimParked_eq hb, hgiven]
  refine Eq.trans ?_ (State.freeTag_point e.tag s p)
  cases p <;> rfl

theorem State.parkClaimed_room_of_none (hb : e.visit.bus = g.bus) (hown : s.ownRecord? g.bus (.lane n) = none)
    (ho : ∀ o, s.hand.offer = some o → o.key ≠ .bus g.bus) (hroom : s.canPlace .urgent = true) :
    ((s.freeTag e.tag).giveUpRecord e.visit.bus (.lane n)).canPlace .urgent = true := by
  rw [hb, State.giveUpRecord_of_none (by rw [State.freeTag_ownRecord?]; exact hown) (by rw [State.freeTag_offer]; exact ho)]
  exact (State.freeTag_loses e.tag s).canPlace hroom

theorem State.parkClaimed_room (hroom : s.line.transmit.length + s.line.muted.toList.length + 3 ≤ Config.transmitCapacity) :
    ((s.freeTag e.tag).giveUpRecord e.visit.bus (.lane n)).canPlace .urgent = true := by
  refine State.giveUpRecord_canPlace _ _ ?_ _
  have hless := (State.freeTag_loses e.tag s).frames.length_le
  rw [State.load, (State.freeTag_loses e.tag s).muted]
  omega

/-- A record given up for a bus that parks under an open claim, or as expected. -/
theorem State.parkClaimed_gaveUp (hb : e.visit.bus = g.bus) : s.gaveUp (State.settle s (s.parkClaimed n g e)) g.bus (.lane n) := by
  have hgone := State.giveUpRecord_gone g.bus (.lane n) (s.freeTag e.tag)
  rw [State.freeTag_offer] at hgone
  refine State.gaveUp_of_gone (State.Gone.settle ?_ s)
  refine State.Gone.tells ?_ (State.parkClaimed_tells n g e s)
  rw [State.claimParked_eq hb]
  exact hgone.modLane _

theorem State.parkExpected_gaveUp (hb : e.visit.bus = g.bus) : s.gaveUp (State.settle s (s.parkExpected n e)) g.bus (.lane n) := by
  refine State.gaveUp_of_gone (State.Gone.settle ?_ s)
  rw [State.parkExpected_eq hb]
  exact ((State.giveUpRecord_gone g.bus (.lane n) s).modLane _).tells (State.classTest_tells _ _ _ _)

variable (hl : s.lanes[n]? = some l) (hf : l.entries.find? (fun x => decide (x.visit.bus = g.bus)) = some e)
include hl hf

theorem State.parkExpected_lane (hp : e.isFront = false) {v : VisitRecord} (hv : s.claimOwn g.bus (.lane n) .parked e.visit = v)
    (hvb : v.bus = g.bus) : (State.settle s (s.parkExpected n e)).ParkedIn n l g.bus v e.recordAwaited := by
  have hbus := (Lane.entry?_spec hf).2
  refine State.settle_arrived hl hf (State.giveUpRecord_lane_here s g.bus n) hp hvb ?_
  rw [State.parkExpected_eq hbus, hv]
  exact State.classTest_tells _ _ _ _

theorem State.parkClaimed_lane (hp : e.isFront = false) {v : VisitRecord} {awaited : Bool}
    (hv : s.claimedRecord g (.lane n) .parked e.visit = (v, awaited)) (hvb : v.bus = g.bus) :
    (State.settle s (s.parkClaimed n g e)).ParkedIn n l g.bus v (s.recordDeadline awaited) := by
  have hbus := (Lane.entry?_spec hf).2
  refine State.settle_arrived (c := (s.freeTag e.tag).giveUpRecord g.bus (.lane n)) hl hf ?_ hp hvb ?_
  · rw [State.giveUpRecord_lane_here, State.freeTag_lanes]
  · have htells := State.parkClaimed_tells n g e s
    rw [State.claimParked_eq hbus, hv] at htells
    exact htells

/-- An open claim read where the node holds the record elsewhere. -/
theorem State.laneEntryRead_own_claimed (hu : l.state ≠ .unknown)
    (hs : e.state = .tentative ∨ (e.state = .expected ∧ ∃ b ∈ s.hand.bids, e.tag = some b.tag))
    (hown : s.ownRecord? g.bus (.lane n) = some r) (hr : r.bus = g.bus) :
    s.gaveUp (s.laneEntryRead n g) g.bus (.lane n) ∧
      (s.laneEntryRead n g).ParkedIn n l g.bus { r with next := .parked, stray := true } none ∧
      (∀ tag, e.tag = some tag → (∀ b ∈ (s.laneEntryRead n g).hand.bids, b.tag ≠ tag) ∧
        ∀ x ∈ (s.laneEntryRead n g).line.transmit, x.body.isClaimOf tag = true → x.sending = true) ∧
      (s.line.transmit.length + s.line.muted.toList.length + 3 ≤ Config.transmitCapacity →
        ∃ x ∈ (s.laneEntryRead n g).line.transmit, x.body = .stray g.bus (.lane n) ∧ x.destination = 15 ∧ x.cls = .urgent) ∧
      (s.active = true → s.loader.reports.length < Config.reportCapacity →
        ∃ x ∈ (s.laneEntryRead n g).loader.reports, x.body = .stray g.bus (.lane n) .notAwaited) := by
  have hbus := (Lane.entry?_spec hf).2
  have hv := State.claimedRecord_of_own hbus hown .parked
  have hpend : e.isFront = false := by rcases hs with h | ⟨h, -⟩ <;> simp [LaneEntry.isFront, h]
  rw [State.laneEntryRead_of_claimed hl hu hf hs]
  refine ⟨State.parkClaimed_gaveUp hbus, State.parkClaimed_lane hl hf hpend hv hr, fun tag he => State.parkClaimed_settled tag he,
    fun hroom => ?_, fun ha hroom => ?_⟩
  · rw [← hbus]
    exact State.parkClaimed_frame (State.parkClaimed_room hroom)
  · have hreport := State.parkClaimed_report (n := n) (g := g) (e := e) ha hroom
    rw [hv, hbus] at hreport
    exact hreport

/-- An EXPECTED bus read where the node holds the record elsewhere. -/
theorem State.laneEntryRead_own_expected (hu : l.state ≠ .unknown) (hs : e.state = .expected)
    (hb : ∀ b ∈ s.hand.bids, e.tag ≠ some b.tag) (hown : s.ownRecord? g.bus (.lane n) = some r) (hr : r.bus = g.bus) :
    s.gaveUp (s.laneEntryRead n g) g.bus (.lane n) ∧
      (s.laneEntryRead n g).ParkedIn n l g.bus { r with next := .parked } e.recordAwaited ∧
      (r.cls = e.visit.cls → (s.laneEntryRead n g).loader.reports = s.loader.reports) := by
  have hbus := (Lane.entry?_spec hf).2
  have hv := State.claimOwn_of_own hown e.visit
  rw [State.laneEntryRead_of_expected hl hu hf hs hb]
  exact ⟨State.parkExpected_gaveUp hbus, State.parkExpected_lane hl hf (by simp [LaneEntry.isFront, hs]) hv hr,
    fun hcls => State.parkExpected_reports hl (by rw [hbus]; exact hf) (by rw [hbus, hv]; exact hcls)⟩

end

end Sys2Proof.Machine

namespace Sys2Proof

open Sys2Proof.Machine

/-- Settles O54: each read by the entry it finds; what the end of an event tests keeps the entries of a lane but for the call of a
head that waited before, which a bus that arrives is not. -/
theorem laneReadsFollowTheList : Obligations.LaneReadsFollowTheList := by
  intro s t now n g l ha hg hn hr hl
  have hl' : (s.tagTaken g now).lanes[n]? = some l := hl
  have hentry : ∀ _ : readerRole g.reader = .laneEntry n, _ := fun hrole => exec_laneEntryTag ha hg hrole hn hr
  have hexit : ∀ _ : readerRole g.reader = .laneExit n, _ := fun hrole => exec_laneExitTag ha hg hrole hn hr
  have hclock : ((s.tagTaken g now).laneEntryRead n g).clock = s.clock :=
    State.clock_of_steady (State.laneEntryRead_steady n g (s.tagTaken g now))
  have htime : ((s.tagTaken g now).laneEntryRead n g).timeline = s.timeline :=
    State.timeline_of_still (s := s.tagTaken g now) (State.laneEntryRead_still n g (s.tagTaken g now))
  refine ⟨fun hrole hu => ?_, fun e hrole hu hf hs hb hown => ?_, fun e hrole hu hf hp => ?_, fun e hrole hu hf hs hown ho => ?_,
    fun e r hrole hu hf hs hd hrb hheld => ?_, fun e hrole hf => ?_, fun hrole hnone => ?_⟩
  · rw [hentry hrole]
    simp only [State.laneEntryRead, hl', if_pos hu]
    rfl
  · have hbus := (Lane.entry?_spec hf).2
    have hread := State.laneEntryRead_of_expected hl' hu hf hs hb
    have hown' : (s.tagTaken g now).ownRecord? g.bus (.lane n) = none := hown
    have hv := State.claimOwn_of_none hown' e.visit
    have hpend : e.isFront = false := by simp [LaneEntry.isFront, hs]
    refine ⟨_, hentry hrole, hclock, htime, ?_, ?_⟩
    · rw [hread]
      exact State.parkExpected_reports hl' (by rw [hbus]; exact hf) (by rw [hbus, hv])
    · rw [hread]
      obtain ⟨l', hlane, hstate, hvisits, x, hx, hxv, hxs, hxt, hxval, hxd, -⟩ := State.parkExpected_lane hl' hf hpend hv hbus
      exact ⟨l', hlane, hstate, hvisits, x, hx, hxv, hxs, hxt, hxval, hxd⟩
  · have hread := State.laneEntryRead_of_front hl' hu hf hp
    have hends := State.settle_ends (s.tagTaken g now) ((s.tagTaken g now).modLane n (Lane.reenter g.bus))
    refine ⟨_, hentry hrole, hclock, htime, ?_, fun p => ?_, ?_⟩
    · rw [hread, hends.reports]; rfl
    · rw [hread, hends.point]
      cases p <;> rfl
    · rw [hread]
      obtain ⟨l', hlane, hstate, hover, hvisits, hstates, x, hx, hxe, hxs⟩ := State.reentered_read hl' hf
      refine ⟨l', hlane, hstate, hover, by rw [hvisits, Lane.moved_map], fun h => by rw [hstates h, Lane.moved_map], x, hx,
        hxe.visit, ?_, ?_, ?_, hxs⟩
      · rw [hxe.rest]
      · rw [hxe.rest]
      · rw [hxe.rest]
  · have hbus := (Lane.entry?_spec hf).2
    have hpend : e.isFront = false := by rcases hs with h | ⟨h, -⟩ <;> simp [LaneEntry.isFront, h]
    have hread := State.laneEntryRead_of_claimed hl' hu hf hs
    have hown' : (s.tagTaken g now).ownRecord? g.bus (.lane n) = none := hown
    have hv := State.claimedRecord_of_none hbus hown' .parked
    refine ⟨_, hentry hrole, hclock, htime, fun p => ?_, ?_, fun tag he => ?_, fun hroom => ?_, fun hroom => ?_⟩
    · rw [hread]
      exact State.parkClaimed_points hbus hown' ho p
    · rw [hread]
      exact State.parkClaimed_lane hl' hf hpend hv hbus
    · rw [hread]
      exact State.parkClaimed_settled tag he
    · rw [hread, ← hbus]
      exact State.parkClaimed_frame (State.parkClaimed_room_of_none hbus hown' ho hroom)
    · rw [hread]
      have hreport := State.parkClaimed_report (s := s.tagTaken g now) (n := n) (g := g) (e := e) ha hroom
      rw [hv, hbus] at hreport
      exact hreport
  · have hbus := (Lane.entry?_spec hf).2
    have hpend : e.isFront = false := by rcases hs with h | h <;> simp [LaneEntry.isFront, h]
    have hown : (s.tagTaken g now).ownRecord? g.bus (.lane n) = some r := by
      rw [← hrb]; exact State.ownRecord?_of_holdsElsewhere hd.2.2.2.2 hheld
    by_cases hclaim : e.state = .tentative ∨ ∃ b ∈ s.hand.bids, e.tag = some b.tag
    · have hclaimed : e.state = .tentative ∨ (e.state = .expected ∧ ∃ b ∈ s.hand.bids, e.tag = some b.tag) :=
        hs.imp_right (fun h => ⟨h, hclaim.resolve_left (by rw [h]; decide)⟩)
      obtain ⟨hgave, ⟨l', hlane, hstate, hvisits, x, hx, hxv, hxs, hxt, hxval, hxd, hxr⟩, hsettled, hframe, hreport⟩ :=
        State.laneEntryRead_own_claimed hl' hf hu hclaimed hown hrb
      exact ⟨_, hentry hrole, hclock, htime, hgave, ⟨l', hlane, hstate, _, fun h => absurd hclaim h, fun _ => rfl, hvisits, x, hx,
        hxv, hxs, hxt, hxval, hxd, fun h => absurd hclaim h, fun _ => hxr⟩, fun h => absurd hclaim h,
        fun _ => ⟨hsettled, hframe, fun hroom => hreport ha (Nat.lt_of_succ_lt hroom)⟩⟩
    · have hexpected : e.state = .expected := hs.resolve_left (fun h => hclaim (.inl h))
      obtain ⟨hgave, ⟨l', hlane, hstate, hvisits, x, hx, hxv, hxs, hxt, hxval, hxd, hxr⟩, hreports⟩ :=
        State.laneEntryRead_own_expected hl' hf hu hexpected (fun b hb he => hclaim (.inr ⟨b, hb, he⟩)) hown hrb
      exact ⟨_, hentry hrole, hclock, htime, hgave, ⟨l', hlane, hstate, _, fun _ => rfl, fun h => absurd h hclaim, hvisits, x, hx,
        hxv, hxs, hxt, hxval, hxd, fun _ => hxr, fun h => absurd h hclaim⟩, fun _ => hreports, fun h => absurd h hclaim⟩
  · have hread := State.laneExitRead_of_entry hl' hf
    obtain ⟨hreports, hpoints, hgone⟩ := State.departed_told n g.bus e (s.tagTaken g now)
    obtain ⟨l', hlane, hvisits, hmarks⟩ := State.departed_lists hl' g.bus e
    refine ⟨_, hexit hrole, State.clock_of_steady (State.laneExitRead_steady n g (s.tagTaken g now)),
      State.timeline_of_still (s := s.tagTaken g now) (State.laneExitRead_still n g (s.tagTaken g now)),
      State.lateRuns_of_still (s := s.tagTaken g now) (State.laneExitRead_still n g (s.tagTaken g now)), ?_⟩
    rw [hread]
    refine ⟨hreports, hpoints, ⟨l', hlane, hvisits, fun hp => ?_, fun ahead back hp hsplit hother => ?_⟩,
      fun hp tag he => State.departed_settled hp he, hgone⟩
    · rw [hmarks, hp]; rfl
    · rw [hmarks, hp, if_pos rfl, hsplit, markInFront_unconfirmed (Lane.entry?_spec hf).2 hother]
  · have hread := State.laneExitRead_of_none hl' hnone
    have heq := State.send_tells (b := .gone (unlistedRecord g s.clock.m) n s.clock.m false false true) rfl (fun _ => rfl)
      (s.tagTaken g now)
    refine ⟨_, hexit hrole, ?_⟩
    rw [hread]
    refine ⟨State.lanes_of_offers (s := s.tagTaken g now) (State.send_sansOffers _ _), heq.hand, heq.point, State.send_reports _ _, fun hroom => ?_⟩
    exact ⟨_, State.mem_place (.gone (unlistedRecord g s.clock.m) n s.clock.m false false true) Config.broadcast
      (s.tagTaken g now) hroom, rfl, _, rfl, rfl, rfl, rfl, rfl, rfl⟩

end Sys2Proof

namespace Sys2Proof.Machine

open Sys2Proof

/-! ## A transmit queue above its capacity (R170, R187)

The clause of O53 on a full queue promises the STRAY wherever the transmit queue can place an urgent frame before the read. It bounds
neither the transmit queue (R170) nor the report queue (R187). With 17 frames in the one, of which a waiting REPORT alone can be
displaced, and 8 reports in the other, the MISSING report of the entry that makes place takes the head report's frame out of the
transmit queue; 16 frames are left, none of which can be displaced, and the STRAY is discarded. -/

/-- A queue entry of a spare bus. -/
def queueEntryOf (bus : Nat) (st : QueueEntryState) : QueueEntry :=
  { visit := visitOf bus Duty.unbound, state := st, tag := none, value := none, deadline := none, recordAwaited := none,
    justServed := false, passedOn := false }

/-- A frame that waits in the transmit queue. -/
def waitingFrame (body : FrameBody) (order : Nat) : TxFrame :=
  { body := body, destination := Config.broadcast, order := order, mismatches := 0, sending := false }

/-- A report that an operator reads. -/
def noClockReport (n : Nat) : Report := { sequence := n, minute := 600, body := .noClock 7 0 }

/-- A fuel point with a full queue, its last entry an expected bus. -/
def fullPoint : Point :=
  { Point.powerOn PointImage.supplied with
    state := .clearing
    queue := (List.range 7).map (fun n => queueEntryOf (n + 1) .waiting) ++ [queueEntryOf 8 .expected] }

/-- A node in service at minute 600 with that point, 16 urgent frames and a REPORT to send, and a full report queue. -/
def crowdedNode : State :=
  { State.reset with
    loader := { State.reset.loader with
      node := .inService, address := 3
      image := { Image.supplied with point0 := { PointImage.supplied with kind := .fuel } }
      reports := (List.range 8).map noClockReport }
    clock := { m := 600, shift := .none, change := 840, isSet := true, running := true }
    point0 := fullPoint
    line := { State.reset.line with
      transmit := (List.range 16).map (waitingFrame (.stray 9 (.point .p1))) ++ [waitingFrame (.report (noClockReport 0)) 16]
      nextOrder := 17 } }

/-- The report of bus 4118 at the entry of point 0. -/
def report4118AtPoint : TagOctets :=
  { reader := 1, busHigh := 16, busLow := 22, busClass := 2, fuel := 40, wash := 0, check := crc8 [1, 16, 22, 2, 40, 0] }

/-- The fields of that report. -/
def fields4118AtPoint : TagFields := { reader := 1, bus := 4118, cls := 2, fuel := 40, wash := .none }

/-- No STRAY of the bus read stands in the transmit queue after the read. -/
theorem crowdedNode_after : ∀ x ∈ (crowdedNode.whenActive (State.tagReport report4118AtPoint 50)).line.transmit,
    x.body ≠ .stray 4118 (.point .p0) := by
  decide +kernel

end Sys2Proof.Machine

namespace Sys2Proof

open Sys2Proof.Machine

/-- Refutes O53: the clause on a full queue bounds neither the transmit queue nor the report queue, and the MISSING report takes the
place on the line that the STRAY would have had. -/
theorem not_pointClaimsAndStraysWait : ¬ Obligations.PointClaimsAndStraysWait := by
  intro h
  have hclauses := h crowdedNode report4118AtPoint 50 fields4118AtPoint .p0 (by decide +kernel) (by decide +kernel)
    (by decide +kernel) (by decide +kernel) (by decide +kernel)
  dsimp only at hclauses
  obtain ⟨-, -, hfull, -⟩ := hclauses
  obtain ⟨u, hu, ⟨hstray, -⟩, -⟩ := hfull (queueEntryOf 8 .expected) (by decide)
    ⟨by decide +kernel, fun q => by cases q <;> decide +kernel, by decide +kernel, by decide +kernel⟩ (by decide +kernel)
    (by decide +kernel)
  obtain ⟨x, hx, hbody, -⟩ := hstray (by decide +kernel)
  rw [← show crowdedNode.whenActive (State.tagReport report4118AtPoint 50) = u from Host.Outcome.next.inj hu] at hx
  exact crowdedNode_after x hx hbody

end Sys2Proof
